-- ==== Sys2Proof/Word.lean ====
section
/-! DEFINITION. The word types of the Korgam 4120. Only what the manual treats as bits is a bit vector:
characters, sets of event classes, balance masks, and the wrapping counters. Quantities (volts, amperes,
temperatures, durations, counts) are natural numbers or integers. -/

namespace Sys2Proof

/-- The eight data bits of a master-port character, or the low eight bits of a chain character. -/
abbrev Byte := BitVec 8

/-- A balance mask (R4): bit k names cell position k, 0 to 11. -/
abbrev Mask := BitVec 12

/-- The 16-bit wrapping sweep number and publication number (section 0.6.3). -/
abbrev Serial := BitVec 16

end Sys2Proof
end

