-- ==== Sys2Proof/Syntax.lean ====
section
/-! DEFINITION. The commands of the block, one constructor for each row of spec/opcode_table.json, and the
types of their operands. A request row names the port whose head request is taken: the request itself, with
its body, came in by REQUEST_FRAME_RECEIVED and stands in that port's request queue (R165, R166). -/

namespace Sys2Proof

/-- The three master ports (section 0.2.1), in the code order of R190. -/
inductive Port where
  | conv | site | util
  deriving DecidableEq, Repr

/-- The six pulse-width-modulated outputs (section 0.6.4), in the code order of R190. -/
inductive Output where
  | fanA | fanB | pump | exhaust | heater | release
  deriving DecidableEq, Repr

/-- The three outputs with speed feedback (section 6.6). -/
inductive TachChannel where
  | fanA | fanB | pump
  deriving DecidableEq, Repr

/-- The three contactors (Chapter 8), in the code order of R190. -/
inductive Contactor where
  | neg | pre | pos
  deriving DecidableEq, Repr

/-- A contactor's command or feedback (R141), in the code order of R190: OPEN, CLOSED. -/
inductive Switch where
  | opened | closed
  deriving DecidableEq, Repr

/-- One character taken from a master port's receive line (R163): its eight data bits, and whether its stop
bit was read at mark. -/
structure RxChar where
  value : Byte
  stopAtMark : Bool
  deriving DecidableEq, Repr

/-- One character of the cell monitor chain (section 1.1): the low eight data bits, the ninth data bit, and
whether its stop bit was read at mark. -/
structure ChainChar where
  value : Byte
  ninth : Bool
  stopAtMark : Bool
  deriving DecidableEq, Repr

/-- The commands: the rows of spec/opcode_table.json, in the table's order. -/
inductive Instr where
  /-- RESET is held active, or power is applied (R186). -/
  | powerOnReset
  /-- Power-on reset ends (R187). -/
  | powerOnResetEnd
  /-- The characters that the port's receive line has brought since the receiver's last event, up to and
  including the end of a request frame (R163, R165). -/
  | requestFrameReceived (p : Port) (chars : List RxChar)
  /-- More than four character times have passed inside a frame (R163). -/
  | interCharacterTimeout (p : Port)
  /-- The line has been at mark for four character times after a failure or a reset (R163, R178, R179). -/
  | receiverHuntResumed (p : Port)
  /-- The response being sent on the port ends (R167). -/
  | responseSent (p : Port)
  /-- The port's receive line has been at space for 20 character times (R178). -/
  | portReset (p : Port)
  /-- The port takes a head request whose kind names no request (R166). -/
  | unknownKind (p : Port)
  | readStatus (p : Port)
  | readEnvelope (p : Port)
  | setCursor (p : Port)
  | readNext (p : Port)
  | eventRead (p : Port)
  | eventMask (p : Port)
  | eventClearOverflow (p : Port)
  | attentionLevel (p : Port)
  | pushCurtail (p : Port)
  | amendCurtail (p : Port)
  | releaseCurtail (p : Port)
  | popCurtail (p : Port)
  | releaseAllCurtail (p : Port)
  /-- The expiry timer of the entry with this handle runs out (R72). -/
  | curtailExpiry (handle : Nat)
  | claimWatch (p : Port)
  | releaseWatch (p : Port)
  | connect (p : Port)
  | disconnect (p : Port)
  | unlock (p : Port)
  | gridTrip (p : Port)
  | gridRestored (p : Port)
  | permit (p : Port)
  | withdraw (p : Port)
  | sweepOnce (p : Port)
  | sweepContinuous (p : Port)
  | sweepStop (p : Port)
  | coolingManual (p : Port)
  | coolingAuto (p : Port)
  | coolingRetry (p : Port)
  | holdSet (p : Port)
  | holdClear (p : Port)
  | releaseNow (p : Port)
  | fireReset (p : Port)
  | detectorEnable (p : Port)
  | detectorDisable (p : Port)
  | configWrite (p : Port)
  | configRead (p : Port)
  | configAccept (p : Port)
  /-- The period timer marks a boundary (R13). -/
  | periodBoundary
  /-- A due sweep begins (R11). -/
  | sweepBegin
  /-- The frame that is due is begun: its send moment (R20). -/
  | chainFrameSend
  /-- The last character of a READ or READ_BALANCE frame has been sent (R7). -/
  | commandFrameEnd
  /-- The chain line has been quiet for two character times after a failed attempt (R7). -/
  | chainLineFree
  /-- The characters of a reply, all expected ones having arrived (R8). -/
  | chainReplyEnd (chars : List ChainChar)
  /-- The characters of a reply up to the one that shows a FRAMING or ADDRESS error (R8). -/
  | chainReplyError (chars : List ChainChar)
  /-- A limit of R7 is passed; the operand tells whether any reply character had been received. -/
  | chainReplyTimeout (someReceived : Bool)
  /-- The broadcast BLEED_OFF frame ends (R19). -/
  | bleedOffSent
  /-- The cell table's age timer runs out (R33). -/
  | ageTimerExpiry
  /-- A PWM period begins (R93, R95). -/
  | pwmPeriodStart
  /-- The 1 s tach window ends (R104, R106). -/
  | tachWindowEnd
  /-- A tach channel's grace timer runs out (R105). -/
  | graceTimerExpiry (c : TachChannel)
  /-- A FAULTED channel's retry timer runs out (R107). -/
  | retryTimerExpiry (c : TachChannel)
  /-- The release pulse length elapses (R111). -/
  | releasePulseEnd
  /-- The sampling event (R114): the sixteen detector levels, and whether PANEL_ALARM and HOLD are active. -/
  | fireSampling (levels : List Byte) (panelActive : Bool) (holdActive : Bool)
  /-- The release countdown runs out (R131). -/
  | countdownExpiry
  /-- A detector's 8 h disablement runs out (R122). -/
  | disablementExpiry (detector : Nat)
  /-- A debounced contactor feedback takes a new value (R141). -/
  | contactorFeedbackChange (c : Contactor) (feedback : Switch)
  /-- A contactor's disagreement timer runs out (R142). -/
  | disagreementTimerExpiry (c : Contactor)
  /-- The precharge timer runs out (R146). -/
  | prechargeTimerExpiry
  /-- The cool-down timer runs out (R146). -/
  | cooldownExpiry
  /-- The open-wait timer runs out (R149). -/
  | openWaitExpiry
  /-- The data-loss open timer runs out (R148). -/
  | dataLossOpenExpiry
  /-- The permit's duration timer runs out (R157). -/
  | permitLapse
  /-- The presence of the GRID_OK line changes to the value given (R158). -/
  | gridLineChange (present : Bool)
  /-- The conversion notice timer runs out (R159). -/
  | convNoticeTimerExpiry
  /-- The reconnect timer runs out (R160). -/
  | reconnectTimerExpiry
  /-- The filtered level of a tach input changes to the level given (R104). -/
  | tachFilteredLevelChange (c : TachChannel) (high : Bool)
  /-- A receive line that was at space returns to mark (R163, R178). -/
  | lineReturnsToMark (p : Port)
  deriving DecidableEq, Repr

end Sys2Proof
end

