-- ==== Sys2Proof/Config.lean ====
section
/-! DEFINITION. What the manual leaves open, as constants without a body: a claim that is proved holds
whatever they are. -/

namespace Sys2Proof

/-- FREE VALUE (log entry 4). The two bytes that a monitor record of bank 3 carries in its "last good sweep"
field while there is none: R192 gives the record a presence flag, and R188 then gives the field no absent
value. The arguments are the model's own count of such reads and the monitor address. -/
opaque Config.absentSweepBytes : Nat → Nat → BitVec 16

end Sys2Proof
end

