-- ==== Sys2Proof/Machine/Lengths.lean ====
section
/-! DEFINITION. The lengths of time that the manual fixes outside the configuration set. Every length of time
in the model is a natural number of microseconds. -/

namespace Sys2Proof.Machine.Length

/-- One second in microseconds. -/
def second : Nat := 1000000

/-- One millisecond in microseconds. -/
def milli : Nat := 1000

/-- The interval of the sampling event: 100 ms (R114). -/
def sampling : Nat := 100000

/-- A tach window: 1 s (R104). -/
def tachWindow : Nat := 1000000

/-- The grace timer: 5 s (R105). -/
def grace : Nat := 5000000

/-- The retry timer: 60 s (R106). -/
def retry : Nat := 60000000

/-- A disablement: 8 h, that is 28,800 s (R121). -/
def disablement : Nat := 28800000000

/-- A contactor's disagreement timer: 100 ms (R142). -/
def disagreement : Nat := 100000

/-- The cool-down after a failed precharge: 30 s (R146). -/
def cooldown : Nat := 30000000

/-- The reply timeout of the chain: 1 ms (R7). -/
def replyTimeout : Nat := 1000

/-- The time by which the model's clock moves when the block idles for one step (log entry 2). -/
def tick : Nat := 1

end Sys2Proof.Machine.Length
end

