-- ==== Sys2Proof/Machine/Items.lean ====
section
/-! DEFINITION. The configuration items of R180: their numbers, ranges and defaults, and the stored copy. -/

namespace Sys2Proof.Machine

/-- The value of a configuration item: a number (or the code of a named value), or the temperature and
value of a curve breakpoint (R180, section 11.3). -/
inductive ItemValue where
  | scalar (n : Int)
  | point (temperature value : Int)
  deriving DecidableEq, Repr

/-- The range of an item: an interval of numbers, the codes of so many named values, or a breakpoint pair. -/
inductive ItemRange where
  | between (low high : Int)
  | named (count : Nat)
  | breakpoint
  deriving DecidableEq, Repr

/-- One row of R180's table. -/
structure ItemSpec where
  range : ItemRange
  default : ItemValue
  deriving DecidableEq, Repr

/-- Check 4 of R181: the value lies within the item's range, or is one of its named values. -/
def ItemRange.admits : ItemRange → ItemValue → Bool
  | .between low high, .scalar n => decide (low ≤ n) && decide (n ≤ high)
  | .named count, .scalar n => decide (0 ≤ n) && decide (n < (count : Int))
  | .breakpoint, .point t v => decide (-40 ≤ t) && decide (t ≤ 125) && decide (0 ≤ v) && decide (v ≤ 1000)
  | .between _ _, .point _ _ => false
  | .named _, .point _ _ => false
  | .breakpoint, .scalar _ => false

/-- An item that is a number between two bounds. -/
def ItemSpec.number (low high default : Int) : ItemSpec := ⟨.between low high, .scalar default⟩

/-- An item that takes one of so many named values, in the code order of R190. -/
def ItemSpec.choice (count : Nat) (default : Int) : ItemSpec := ⟨.named count, .scalar default⟩

/-- An item that is a breakpoint of a curve. -/
def ItemSpec.curvePoint (temperature value : Int) : ItemSpec := ⟨.breakpoint, .point temperature value⟩

/-- Items 1 to 12 of R180: the chain, the envelope's currents and voltages, and the hard limits. -/
def itemTableA : List ItemSpec :=
  [.number 0 32 0, .number 4 12 12, .number 0 255 7, .number 100 2000 200, .number 1 1000 280,
   .number 0 5000 3450, .number 0 5000 3600, .number 0 5000 3050, .number 0 5000 2900,
   .number 0 5000 3650, .number 0 5000 2700, .number (-40) 125 65]

/-- Items 13 to 24 of R180: the breakpoints of curve_c and of curve_d, with the defaults of R48. -/
def itemTableB : List ItemSpec :=
  [.curvePoint 0 0, .curvePoint 5 200, .curvePoint 15 1000, .curvePoint 40 1000, .curvePoint 50 300,
   .curvePoint 55 0,
   .curvePoint (-20) 300, .curvePoint 0 700, .curvePoint 10 1000, .curvePoint 45 1000, .curvePoint 55 400,
   .curvePoint 60 0]

/-- Items 25 to 37 of R180: factors, steps, data-loss times, balancing, and the PWM period. -/
def itemTableC : List ItemSpec :=
  [.number 0 1000 500, .number 0 1000 0, .number 0 1000 0, .number 0 1000 500, .number 1 1000 20,
   .number 1 1000 10, .number 500 10000 2000, .number 1 60 10, .choice 2 0, .number 0 500 15,
   .number 0 5000 3350, .number (-40) 125 45, .number 40 10000 40]

/-- Items 38 to 57 of R180: alignments (HEATER CENTRE), polarities, the fan curve with the defaults of R93,
and the thermal thresholds. -/
def itemTableD : List ItemSpec :=
  [.choice 2 0, .choice 2 0, .choice 2 0, .choice 2 0, .choice 2 1,
   .choice 2 0, .choice 2 0, .choice 2 0, .choice 2 0, .choice 2 0, .choice 2 0,
   .curvePoint 30 200, .curvePoint 35 450, .curvePoint 40 700, .curvePoint 45 1000,
   .number 0 1000 500, .number (-40) 125 5, .number (-40) 125 10, .number 0 10000 20, .number 0 10000 10]

/-- Items 58 to 82 of R180: the detector kinds, the kinds' thresholds, and the release items. -/
def itemTableE : List ItemSpec :=
  List.replicate 16 (.choice 5 0) ++
  [.number 1 254 40, .number 1 254 100, .number 1 254 60, .number 1 254 140, .number 1 254 90,
   .number 1 254 160, .choice 2 1, .number 10 120 30, .number 500 10000 2000]

/-- Items 83 to 89 of R180: the connection controller's items. -/
def itemTableF : List ItemSpec :=
  [.number 800 990 950, .number 1 30 5, .number 1 200 10, .number 100 10000 2000, .number 0 1800 300,
   .number 0 1000 0, .number 0 1000 100]

/-- The table of R180, item 1 first. -/
def itemTable : List ItemSpec :=
  itemTableA ++ itemTableB ++ itemTableC ++ itemTableD ++ itemTableE ++ itemTableF

/-- The range of item n; a number outside 1 to 89 names no item. -/
def itemRange (n : Nat) : Option ItemRange :=
  if 1 ≤ n ∧ n ≤ 89 then (itemTable[n - 1]?).map ItemSpec.range else none

/-- Every item at its default (R180). -/
def defaultItems : List ItemValue := itemTable.map ItemSpec.default

end Sys2Proof.Machine
end

