-- ==== Sys2Proof/Machine/State.lean ====
section
/-! DEFINITION. The state of the Korgam 4120, block by block in the order of the chapters, and its value after
power-on reset. State is plain data. Lines that only follow a command or another piece of state (the drives,
RDY, ATN, AC_PERMIT, ZERO_LIMIT, DAMPER, the relays, the outputs) are computed from it in Machine/Flags.lean. -/

namespace Sys2Proof.Machine

/-- A timer. `running left` and `paused left` hold the microseconds left; a running timer whose time has come
holds 0 until the event of its running out is taken. -/
inductive Timer where
  | stopped
  | running (left : Nat)
  | paused (left : Nat)
  | runOut
  deriving DecidableEq, Repr

/-! ### Families of like things -/

/-- One value for each duty channel (section 6.2): all the outputs but RELEASE. -/
structure Channels (α : Type) where
  fanA : α
  fanB : α
  pump : α
  exhaust : α
  heater : α
  deriving DecidableEq, Repr

/-- One value for each tach channel (section 6.6). -/
structure Tachs (α : Type) where
  fanA : α
  fanB : α
  pump : α
  deriving DecidableEq, Repr

/-- One value for each contactor. -/
structure Contactors (α : Type) where
  neg : α
  pre : α
  pos : α
  deriving DecidableEq, Repr

/-- One value for each master port. -/
structure Ports (α : Type) where
  conv : α
  site : α
  util : α
  deriving DecidableEq, Repr

/-! ### Chain controller (Chapter 1) -/

/-- Section 1.8. -/
inductive SweepMode where
  | stopped | continuous | single
  deriving DecidableEq, Repr

/-- Section 1.5. -/
inductive ChainActivity where
  | idle | sweeping | aborting | clearing
  deriving DecidableEq, Repr

/-- R8, in the code order of R190. -/
inductive ErrorKind where
  | timeout | framing | check | address | monitorFault
  deriving DecidableEq, Repr

/-- Section 1.6. -/
inductive MonitorState where
  | unconfigured | present | missing | absent
  deriving DecidableEq, Repr

/-- Section 1.6: the record of one chain address. -/
structure MonitorRecord where
  state : MonitorState
  missCount : Nat
  lastError : Option ErrorKind
  lastGood : Option Serial
  deriving DecidableEq, Repr

/-- The values of an accepted reply (R6): the 14-bit codes of the configured positions and the four
temperature characters of a cell monitor, or the string monitor's signed current and its DC link reading. -/
inductive ReplyValues where
  | cellMonitor (codes : List Nat) (temperatures : List Nat)
  | stringMonitor (current : Int) (dcLink : Nat)
  deriving DecidableEq, Repr

/-- The outcome of an exchange (R9). -/
inductive ExchangeOutcome where
  | good (values : ReplyValues)
  | missed (error : ErrorKind)
  deriving DecidableEq, Repr

/-- A filled entry of the sweep buffer (R10). -/
structure BufferEntry where
  outcome : ExchangeOutcome
  mask : Mask
  deriving DecidableEq, Repr

/-- The exchange in progress or due next: its address, whether its first attempt has been begun, whether the
retry has been reached, and the mask of the last command frame sent for it (R7, R9, R10). -/
structure Exchange where
  address : Nat
  begun : Bool
  retry : Bool
  mask : Mask
  deriving DecidableEq, Repr

/-- What the part is doing with the chain line (R1, R7). -/
inductive Link where
  /-- no frame is due or under way -/
  | rest
  /-- a frame is due and waits for the line -/
  | frameDue
  /-- these characters of a command frame are being sent -/
  | sending (frame : List ChainChar)
  /-- the reply of the exchange is awaited or being received -/
  | awaitingReply
  deriving DecidableEq, Repr

/-- The chain controller's state (the table that opens Chapter 1), with the exchange and the line's use, which
sections 1.3 and 1.5 imply. -/
structure ChainState where
  mode : SweepMode
  activity : ChainActivity
  due : Bool
  periodTimer : Timer
  /-- the sweep period with which the period timer was last started (R13) -/
  periodLength : Nat
  sweepNumber : Serial
  buffer : List (Option BufferEntry)
  records : List MonitorRecord
  divisor : Nat
  deferredDivisor : Option Nat
  pendingMask : Mask
  bleedOffRequest : Bool
  link : Link
  /-- the frame time, reply timeout or quiet interval that is running on the line (R2, R7) -/
  linkTimer : Timer
  /-- a frame may be begun (R7, limit 1) -/
  lineFree : Bool
  exchange : Option Exchange
  deriving DecidableEq, Repr

/-! ### Cell table (Chapter 2) -/

/-- Section 2.2. -/
inductive ItemState where
  | known | stale | unknown | openSensor
  deriving DecidableEq, Repr

structure CellRecord where
  voltage : Nat
  state : ItemState
  saturated : Bool
  bleeding : Bool
  deriving DecidableEq, Repr

structure PointRecord where
  temperature : Int
  state : ItemState
  clamped : Bool
  deriving DecidableEq, Repr

structure StringReadings where
  current : Int
  dcLink : Nat
  state : ItemState
  deriving DecidableEq, Repr

/-- R29 to R31; an extreme is carried with the index of the item that holds it. -/
structure Aggregates where
  vmax : Option (Int × Nat)
  vmin : Option (Int × Nat)
  vsum : Nat
  tmax : Option (Int × Nat)
  tmin : Option (Int × Nat)
  knownCells : Nat
  staleCells : Nat
  unknownCells : Nat
  deriving DecidableEq, Repr

/-- The set of data-loss conditions (R32). -/
structure DataLoss where
  absentMonitor : Bool
  noTemperature : Bool
  aged : Bool
  deriving DecidableEq, Repr

/-- The set of hard-limit kinds (R35); the flag is set while the set is not empty. -/
structure HardLimits where
  cellHigh : Bool
  cellLow : Bool
  tempHigh : Bool
  deriving DecidableEq, Repr

/-- The cell table's state (the table that opens Chapter 2). -/
structure CellTable where
  cells : List CellRecord
  points : List PointRecord
  string : StringReadings
  monitorStates : List MonitorState
  shapeMonitors : Nat
  shapeCells : Nat
  sweepNumber : Serial
  aggregates : Aggregates
  dataLoss : DataLoss
  ageTimer : Timer
  hardLimits : HardLimits
  deriving DecidableEq, Repr

/-! ### Curtailment stack (Chapter 4) -/

/-- The owner of a curtailment entry. -/
inductive Owner where
  | port (p : Port)
  | slot (k : Nat)
  deriving DecidableEq, Repr

inductive Origin where
  | direct | watch | fallback
  deriving DecidableEq, Repr

/-- A curtailment entry (section 4.1); the remaining time is held in microseconds. -/
structure Entry where
  handle : Nat
  owner : Owner
  origin : Origin
  chargeCap : Option Nat
  dischargeCap : Option Nat
  remaining : Option Nat
  deriving DecidableEq, Repr

/-- The stack, bottom entry first, and the next handle. -/
structure StackState where
  entries : List Entry
  nextHandle : Nat
  deriving DecidableEq, Repr

/-! ### Envelope unit (Chapter 3) -/

/-- A limiting set (section 3.1), its members in the code order of R190. -/
structure LimitingSet where
  voltage : Bool
  temperature : Bool
  cooling : Bool
  detection : Bool
  curtail : Bool
  rise : Bool
  fire : Bool
  permission : Bool
  dataLoss : Bool
  unconfigured : Bool
  deriving DecidableEq, Repr

inductive PublicationKind where
  | sweep | change
  deriving DecidableEq, Repr

/-- A governing entry as the envelope record carries it: handle and owner. -/
structure Governing where
  handle : Nat
  owner : Owner
  deriving DecidableEq, Repr

/-- The envelope record (section 3.1). -/
structure EnvelopeRecord where
  chargeLimit : Nat
  dischargeLimit : Nat
  chargePower : Nat
  dischargePower : Nat
  vsum : Nat
  chargeSet : LimitingSet
  dischargeSet : LimitingSet
  chargeGoverning : Option Governing
  dischargeGoverning : Option Governing
  number : Serial
  kind : PublicationKind
  sweepNumber : Serial
  deriving DecidableEq, Repr

/-- The envelope unit's state: the record and the number of the last publication. -/
structure EnvelopeState where
  record : EnvelopeRecord
  publicationNumber : Serial
  deriving DecidableEq, Repr

/-! ### Watch table (Chapter 5) -/

inductive Quantity where
  | cellV | cellT | stringI | dcLinkV | detector
  deriving DecidableEq, Repr

inductive Comparison where
  | ge | lt
  deriving DecidableEq, Repr

inductive WatchAction where
  | notifyRise | notifyBoth | curtail
  deriving DecidableEq, Repr

/-- A watch specification: what a claim writes. -/
structure WatchSpec where
  quantity : Quantity
  first : Nat
  last : Nat
  comparison : Comparison
  threshold : Int
  chain : Bool
  action : WatchAction
  chargeCap : Option Nat
  dischargeCap : Option Nat
  deriving DecidableEq, Repr

/-- A claimed slot. Whether it is chained from above follows from the slot below it (Machine/Flags.lean). -/
structure Claim where
  owner : Port
  spec : WatchSpec
  condition : Bool
  starved : Bool
  entry : Option Nat
  deriving DecidableEq, Repr

/-! ### Thermal controller (Chapter 6) -/

inductive ChannelMode where
  | auto | manual
  deriving DecidableEq, Repr

/-- A channel record: mode, manual duty, automatic demand, selected, shadow and active duty. -/
structure ChannelRecord where
  mode : ChannelMode
  manual : Option Nat
  automatic : Nat
  selected : Nat
  shadow : Nat
  active : Nat
  deriving DecidableEq, Repr

inductive CheckState where
  | healthy | faulted | trying | latched
  deriving DecidableEq, Repr

/-- A tach record (section 6.6). `armedSinceStart` holds while the channel has been armed from the start of
the present window, which R105 needs to call the window valid. -/
structure TachRecord where
  filteredHigh : Bool
  pulses : Nat
  rate : Nat
  grace : Timer
  check : CheckState
  retries : Nat
  retry : Timer
  armedSinceStart : Bool
  deriving DecidableEq, Repr

inductive CoolingState where
  | normal | degraded | lost
  deriving DecidableEq, Repr

/-- The PWM timebase (R93): the period in force and the time left to the next period start, with the
alignments (true for CENTRE) and polarities (true for ACTIVE_LOW) that took effect at the last one. -/
structure PwmState where
  period : Nat
  left : Nat
  centred : Channels Bool
  activeLow : Channels Bool
  releaseActiveLow : Bool
  deriving DecidableEq, Repr

structure ThermalState where
  pwm : PwmState
  channels : Channels ChannelRecord
  fanDemand : Nat
  heaterOn : Bool
  forcing : Channels (Option Nat)
  damperOpen : Bool
  tachs : Tachs TachRecord
  /-- the time left in the present tach window (R104) -/
  windowLeft : Nat
  cooling : CoolingState
  releasePulse : Timer
  deriving DecidableEq, Repr

/-! ### Fire controller (Chapter 7) -/

inductive DetectorKind where
  | none | offgas | smoke | heat | manual
  deriving DecidableEq, Repr

inductive DetectorState where
  | normal | pre | alarm | fault | disabled
  deriving DecidableEq, Repr

/-- A detector record. Its kind is the configuration item and is held there alone (R180). The disablement is
the time left of it, absent while the detector is enabled. -/
structure Detector where
  disablement : Option Nat
  level : Nat
  state : DetectorState
  faultRun : Nat
  inRangeRun : Nat
  preRun : Nat
  alarmRun : Nat
  clearRun : Nat
  deriving DecidableEq, Repr

inductive FireStatus where
  | quiet | watch | alarm | countdown | held | released
  deriving DecidableEq, Repr

/-- The cause set (section 7.3), in the code order of R190. -/
structure CauseSet where
  offgas : Bool
  smoke : Bool
  heat : Bool
  manual : Bool
  panel : Bool
  deriving DecidableEq, Repr

/-- How RELEASED was entered (R133). -/
inductive ReleaseEntry where
  | countdown | releaseNow
  deriving DecidableEq, Repr

structure FireControl where
  detectors : List Detector
  panelRun : Nat
  panelLatch : Bool
  holdSample : Bool
  siteHold : Bool
  status : FireStatus
  causes : CauseSet
  countdown : Timer
  impaired : Bool
  alarmRelay : Bool
  faultRelay : Bool
  /-- the time left to the next sampling event (R114) -/
  samplingLeft : Nat
  deriving DecidableEq, Repr

/-! ### Connection controller (Chapter 8) -/

inductive LockCause where
  | fire | hardLimit | contactor | precharge
  deriving DecidableEq, Repr

inductive PrechargePhase where
  | negWait | charging
  deriving DecidableEq, Repr

inductive OpeningPhase where
  | wait | mains | neg
  deriving DecidableEq, Repr

/-- The kind of an opening. An EMERGENCY opening carries the cause it will end with, and whether it took over
an ABORT opening, whose contactor steps then go on as they stand (R151). -/
inductive Opening where
  | normal
  | abort
  | emergency (cause : LockCause) (fromAbort : Bool)
  deriving DecidableEq, Repr

/-- The connection state with its phase, opening kind and lock cause, each present exactly in the states in
which R155 has it present. -/
inductive Connection where
  | opened
  | precharging (phase : PrechargePhase)
  | closing
  | closed
  | opening (kind : Opening) (phase : OpeningPhase)
  | lockedOut (cause : LockCause)
  deriving DecidableEq, Repr

inductive ConnectionReason where
  | connect | precharged | connected | disconnect | dataLoss | fire | hardLimit | contactor
  | prechargeFailed | opened | unlock
  deriving DecidableEq, Repr

structure ContactorRecord where
  command : Switch
  feedback : Switch
  disagreement : Timer
  faultMark : Bool
  deriving DecidableEq, Repr

inductive PermitState where
  | granted | lapsed | withdrawn
  deriving DecidableEq, Repr

structure ConnectionControl where
  contactors : Contactors ContactorRecord
  connection : Connection
  precharge : Timer
  attempts : Nat
  cooldown : Timer
  openWait : Timer
  dataLossOpen : Timer
  permit : PermitState
  permitTimer : Timer
  fallbackHandle : Option Nat
  linePresent : Bool
  convNotice : Bool
  utilNotice : Bool
  convTimer : Timer
  reconnect : Timer
  acPermission : Bool
  deriving DecidableEq, Repr

/-! ### Events (section 9.4) -/

/-- An event with its subject and value, in the order of the kinds of R192. -/
inductive Event where
  | hardLimit (kinds : HardLimits)
  | contactorFault (c : Contactor) (command : Switch)
  | detectorState (i : Nat) (state : DetectorState)
  | fireState (status : FireStatus) (causes : CauseSet)
  | releaseStarted (entry : ReleaseEntry)
  | connectionState (now : Connection) (reason : ConnectionReason)
  | prechargeFailed (attempts : Nat)
  | openedUnderLoad (current : Option Int)
  | permitState (state : PermitState)
  | gridState (gridPresent linePresent convNotice utilNotice : Bool)
  | acPermission (asserted : Bool)
  | envelopeFell (charge discharge : Bool)
  | monitorMissing (address : Nat) (error : ErrorKind)
  | monitorAbsent (address : Nat) (error : ErrorKind)
  | monitorReturned (address : Nat) (missCount : Nat)
  | dataLossBegin (conditions : DataLoss)
  | dataLossEnd
  | coolingFault (c : TachChannel) (state : CheckState)
  | coolingState (state : CoolingState)
  | configAccepted (monitorCount : Nat)
  | configLeft (item : Nat)
  | curtailExpired (handle : Nat)
  | curtailDisplaced (handle newHandle : Nat)
  | watchHit (slot index : Nat)
  | watchCleared (slot : Nat)
  | watchStarved (slot : Nat)
  deriving DecidableEq, Repr

/-- An event record (R172); its kind, class, subject and value follow from the event. -/
structure EventRecord where
  event : Event
  uptime : BitVec 32
  sweepNumber : Serial
  deriving DecidableEq, Repr

/-! ### Port controllers (Chapter 9) -/

/-- The receiver (R163). While receiving, the characters taken since the sync byte, and whether the last one
was read with its stop bit at space. -/
inductive Receiver where
  | discarding
  | hunting
  | receiving (frame : List Byte) (broken : Bool)
  deriving DecidableEq, Repr

structure Request where
  kind : Byte
  body : List Byte
  deriving DecidableEq, Repr

/-- The port-reset detector (R178). -/
inductive LineDetector where
  | mark | space | waitingForMark
  deriving DecidableEq, Repr

structure PortState where
  receiver : Receiver
  requests : List Request
  /-- the response frame being sent, if any -/
  sending : Option (List Byte)
  /-- formed responses waiting to be sent, oldest first -/
  waiting : List (List Byte)
  cursorBank : Nat
  cursorIndex : Nat
  events : List EventRecord
  overflow : Bool
  /-- the event mask, a set of the eight classes: member k of R190's list is bit k -/
  mask : BitVec 8
  attention : Nat
  lineDetector : LineDetector
  deriving DecidableEq, Repr

/-! ### Configuration set (Chapter 10) -/

structure ConfigSet where
  items : List ItemValue
  configured : Bool
  deriving DecidableEq, Repr

/-! ### The whole -/

/-- The state of the part. `clock` counts the microseconds since the end of power-on reset (the uptime counter
is derived from it), `resetHeld` holds while power-on reset is held. `freeReads` (the free values' counter) and
`pending` (the commands that wait, first in first out) are the model's own. -/
structure State where
  chain : ChainState
  table : CellTable
  envelope : EnvelopeState
  stack : StackState
  slots : List (Option Claim)
  thermal : ThermalState
  fire : FireControl
  conn : ConnectionControl
  ports : Ports PortState
  config : ConfigSet
  clock : Nat
  resetHeld : Bool
  freeReads : Nat
  pending : List Instr
  deriving DecidableEq, Repr

/-- The reasons for which a step stops with a fault: none. The manual gives every command of the table an
effect, or none at all, in every state, so no meaning of this model faults. -/
inductive Fault where
  deriving DecidableEq, Repr

/-- The reasons for which a step is refused. -/
inductive Refusal where
  /-- Raised by an arm of Machine/Dispatch.lean whose command has no meaning yet, with its mnemonic; safe: the
  run stops. No arm raises it now. -/
  | notModelled (mnemonic : String)
  deriving DecidableEq, Repr

/-! ### Power-on reset values -/

/-- R15, first case. -/
def resetRecords : List MonitorRecord :=
  ⟨.absent, 3, none, none⟩ :: List.replicate 32 ⟨.unconfigured, 0, none, none⟩

/-- R21. -/
def resetChain : ChainState :=
  { mode := .stopped, activity := .clearing, due := false, periodTimer := .stopped, periodLength := 0,
    sweepNumber := 0, buffer := List.replicate 33 none, records := resetRecords, divisor := 7,
    deferredDivisor := none, pendingMask := 0, bleedOffRequest := false, link := .frameDue,
    linkTimer := .stopped, lineFree := true, exchange := none }

/-- R41. -/
def resetTable : CellTable :=
  { cells := List.replicate 384 ⟨0, .unknown, false, false⟩,
    points := List.replicate 128 ⟨0, .unknown, false⟩,
    string := ⟨0, 0, .unknown⟩,
    monitorStates := .absent :: List.replicate 32 .unconfigured,
    shapeMonitors := 0, shapeCells := 12, sweepNumber := 0,
    aggregates := ⟨none, none, 0, none, none, 0, 0, 0⟩,
    dataLoss := ⟨true, true, true⟩, ageTimer := .stopped, hardLimits := ⟨false, false, false⟩ }

/-- R43. -/
def resetLimitingSet : LimitingSet :=
  { voltage := false, temperature := false, cooling := false, detection := false, curtail := false,
    rise := false, fire := false, permission := true, dataLoss := true, unconfigured := true }

/-- R43. -/
def resetEnvelope : EnvelopeState :=
  { record :=
      { chargeLimit := 0, dischargeLimit := 0, chargePower := 0, dischargePower := 0, vsum := 0,
        chargeSet := resetLimitingSet, dischargeSet := resetLimitingSet, chargeGoverning := none,
        dischargeGoverning := none, number := 0, kind := .change, sweepNumber := 0 },
    publicationNumber := 0 }

/-- R113: a duty channel. The automatic demand, which R113 does not give, is 0 (DESIGN CHOICE, log entry 32). -/
def resetChannel : ChannelRecord := ⟨.auto, none, 0, 0, 0, 0⟩

/-- R113: a tach record. -/
def resetTach : TachRecord := ⟨false, 0, 0, .stopped, .healthy, 0, .stopped, false⟩

/-- R113; the alignments and polarities in force are the defaults of R93. -/
def resetThermal : ThermalState :=
  { pwm :=
      { period := 40, left := 40, centred := ⟨false, false, false, false, true⟩,
        activeLow := ⟨false, false, false, false, false⟩, releaseActiveLow := false },
    channels := ⟨resetChannel, resetChannel, resetChannel, resetChannel, resetChannel⟩,
    fanDemand := 0, heaterOn := false, forcing := ⟨none, none, none, none, none⟩, damperOpen := false,
    tachs := ⟨resetTach, resetTach, resetTach⟩, windowLeft := Length.tachWindow, cooling := .normal,
    releasePulse := .stopped }

/-- R139: a detector. -/
def resetDetector : Detector := ⟨none, 0, .normal, 0, 0, 0, 0, 0⟩

/-- R139; the first sampling event comes 100 ms after the reset (R114). -/
def resetFire : FireControl :=
  { detectors := List.replicate 16 resetDetector, panelRun := 0, panelLatch := false, holdSample := false,
    siteHold := false, status := .quiet, causes := ⟨false, false, false, false, false⟩, countdown := .stopped,
    impaired := false, alarmRelay := false, faultRelay := false, samplingLeft := Length.sampling }

/-- R162. The feedback is "as the first five samples give"; until they are taken the model holds OPEN
(DESIGN CHOICE, log entry 5). -/
def resetContactor : ContactorRecord := ⟨.opened, .opened, .stopped, false⟩

/-- R162. -/
def resetConn : ConnectionControl :=
  { contactors := ⟨resetContactor, resetContactor, resetContactor⟩, connection := .opened,
    precharge := .stopped, attempts := 0, cooldown := .runOut, openWait := .stopped, dataLossOpen := .stopped,
    permit := .withdrawn, permitTimer := .stopped, fallbackHandle := none, linePresent := false,
    convNotice := false, utilNotice := false, convTimer := .stopped, reconnect := .stopped,
    acPermission := false }

/-- R179. -/
def resetPort : PortState :=
  { receiver := .discarding, requests := [], sending := none, waiting := [], cursorBank := 0, cursorIndex := 0,
    events := [], overflow := false, mask := 255, attention := 1, lineDetector := .waitingForMark }

/-- The machine right after power-on reset (R187): every block at the value its chapter gives. -/
def State.reset : State :=
  { chain := resetChain, table := resetTable, envelope := resetEnvelope,
    stack := { entries := [], nextHandle := 1 },
    slots := List.replicate 8 none, thermal := resetThermal, fire := resetFire, conn := resetConn,
    ports := ⟨resetPort, resetPort, resetPort⟩,
    config := { items := defaultItems, configured := false },
    clock := 0, resetHeld := false, freeReads := 0, pending := [] }

end Sys2Proof.Machine
end

