-- ==== Sys2Proof/Machine/Codes.lean ====
section
/-! DEFINITION. Named access to families of like things, and the codes of R190: each enumeration's members are
coded 0, 1, 2 and on in the order of R190's table. -/

namespace Sys2Proof.Machine

/-! ### Families -/

/-- The duty channels: every output but RELEASE (section 6.2). -/
inductive DutyChannel where
  | fanA | fanB | pump | exhaust | heater
  deriving DecidableEq, Repr

def Channels.get {α : Type} (x : Channels α) : DutyChannel → α
  | .fanA => x.fanA
  | .fanB => x.fanB
  | .pump => x.pump
  | .exhaust => x.exhaust
  | .heater => x.heater

def Channels.set {α : Type} (x : Channels α) (c : DutyChannel) (a : α) : Channels α :=
  match c with
  | .fanA => { x with fanA := a }
  | .fanB => { x with fanB := a }
  | .pump => { x with pump := a }
  | .exhaust => { x with exhaust := a }
  | .heater => { x with heater := a }

/-- The family whose value at each duty channel is the function's. -/
def Channels.of {α : Type} (f : DutyChannel → α) : Channels α :=
  ⟨f .fanA, f .fanB, f .pump, f .exhaust, f .heater⟩

def Tachs.get {α : Type} (x : Tachs α) : TachChannel → α
  | .fanA => x.fanA
  | .fanB => x.fanB
  | .pump => x.pump

def Tachs.set {α : Type} (x : Tachs α) (c : TachChannel) (a : α) : Tachs α :=
  match c with
  | .fanA => { x with fanA := a }
  | .fanB => { x with fanB := a }
  | .pump => { x with pump := a }

def Tachs.of {α : Type} (f : TachChannel → α) : Tachs α := ⟨f .fanA, f .fanB, f .pump⟩

/-- The tach channels in the order in which their events are raised (R106). -/
def tachOrder : List TachChannel := [.fanA, .fanB, .pump]

/-- The duty channel whose speed a tach channel feeds back. -/
def dutyOf : TachChannel → DutyChannel
  | .fanA => .fanA
  | .fanB => .fanB
  | .pump => .pump

def Contactors.get {α : Type} (x : Contactors α) : Contactor → α
  | .neg => x.neg
  | .pre => x.pre
  | .pos => x.pos

def Contactors.set {α : Type} (x : Contactors α) (c : Contactor) (a : α) : Contactors α :=
  match c with
  | .neg => { x with neg := a }
  | .pre => { x with pre := a }
  | .pos => { x with pos := a }

def Ports.get {α : Type} (x : Ports α) : Port → α
  | .conv => x.conv
  | .site => x.site
  | .util => x.util

def Ports.set {α : Type} (x : Ports α) (p : Port) (a : α) : Ports α :=
  match p with
  | .conv => { x with conv := a }
  | .site => { x with site := a }
  | .util => { x with util := a }

def Ports.map {α β : Type} (x : Ports α) (f : Port → α → β) : Ports β :=
  ⟨f .conv x.conv, f .site x.site, f .util x.util⟩

/-! ### Requests and outcomes -/

/-- The requests (R168), in the order of their kind codes (R191). -/
inductive RequestKind where
  | readStatus | readEnvelope | setCursor | readNext | eventRead | eventMask | eventClearOverflow
  | attentionLevel
  | pushCurtail | amendCurtail | releaseCurtail | popCurtail | releaseAllCurtail
  | claimWatch | releaseWatch
  | connect | disconnect | unlock | gridTrip | gridRestored | permit | withdraw
  | sweepOnce | sweepContinuous | sweepStop
  | coolingManual | coolingAuto | coolingRetry
  | holdSet | holdClear | releaseNow | fireReset | detectorEnable | detectorDisable
  | configWrite | configRead | configAccept
  deriving DecidableEq, Repr

/-- The kind code of a request (R191). -/
def RequestKind.code : RequestKind → Byte
  | .readStatus => 0x10 | .readEnvelope => 0x11 | .setCursor => 0x12 | .readNext => 0x13
  | .eventRead => 0x14 | .eventMask => 0x15 | .eventClearOverflow => 0x16 | .attentionLevel => 0x17
  | .pushCurtail => 0x20 | .amendCurtail => 0x21 | .releaseCurtail => 0x22 | .popCurtail => 0x23
  | .releaseAllCurtail => 0x24
  | .claimWatch => 0x28 | .releaseWatch => 0x29
  | .connect => 0x30 | .disconnect => 0x31 | .unlock => 0x32 | .gridTrip => 0x33 | .gridRestored => 0x34
  | .permit => 0x35 | .withdraw => 0x36
  | .sweepOnce => 0x40 | .sweepContinuous => 0x41 | .sweepStop => 0x42
  | .coolingManual => 0x48 | .coolingAuto => 0x49 | .coolingRetry => 0x4A
  | .holdSet => 0x50 | .holdClear => 0x51 | .releaseNow => 0x52 | .fireReset => 0x53
  | .detectorEnable => 0x54 | .detectorDisable => 0x55
  | .configWrite => 0x60 | .configRead => 0x61 | .configAccept => 0x62

/-- Every request. -/
def RequestKind.all : List RequestKind :=
  [.readStatus, .readEnvelope, .setCursor, .readNext, .eventRead, .eventMask, .eventClearOverflow,
   .attentionLevel, .pushCurtail, .amendCurtail, .releaseCurtail, .popCurtail, .releaseAllCurtail,
   .claimWatch, .releaseWatch, .connect, .disconnect, .unlock, .gridTrip, .gridRestored, .permit, .withdraw,
   .sweepOnce, .sweepContinuous, .sweepStop, .coolingManual, .coolingAuto, .coolingRetry, .holdSet, .holdClear,
   .releaseNow, .fireReset, .detectorEnable, .detectorDisable, .configWrite, .configRead, .configAccept]

/-- The request that a kind code names, if it names one (R166, check 1). -/
def RequestKind.ofCode (code : Byte) : Option RequestKind :=
  RequestKind.all.find? fun k => k.code == code

/-- The one body length of each request (R189, R191). -/
def RequestKind.bodyLength : RequestKind → Nat
  | .readStatus | .readEnvelope | .eventClearOverflow => 0
  | .setCursor => 3
  | .readNext | .eventRead | .eventMask | .attentionLevel => 1
  | .pushCurtail => 8
  | .amendCurtail => 9
  | .releaseCurtail => 1
  | .popCurtail | .releaseAllCurtail => 0
  | .claimWatch => 15
  | .releaseWatch => 1
  | .connect | .disconnect | .unlock | .gridTrip | .gridRestored => 0
  | .permit => 2
  | .withdraw => 0
  | .sweepOnce | .sweepContinuous | .sweepStop => 0
  | .coolingManual => 3
  | .coolingAuto => 1
  | .coolingRetry | .holdSet | .holdClear | .releaseNow | .fireReset => 0
  | .detectorEnable | .detectorDisable => 1
  | .configWrite => 5
  | .configRead => 1
  | .configAccept => 0

/-- The ports from which each request may be made (R168). -/
def RequestKind.permitted (k : RequestKind) (p : Port) : Bool :=
  match k with
  | .readStatus | .readEnvelope | .setCursor | .readNext => true
  | .eventRead | .eventMask | .eventClearOverflow | .attentionLevel => true
  | .pushCurtail | .amendCurtail | .releaseCurtail | .popCurtail | .releaseAllCurtail => true
  | .claimWatch | .releaseWatch | .disconnect => true
  | .gridTrip => decide (p ≠ .site)
  | .connect | .unlock => decide (p = .site)
  | .sweepOnce | .sweepContinuous | .sweepStop => decide (p = .site)
  | .coolingManual | .coolingAuto | .coolingRetry => decide (p = .site)
  | .holdSet | .holdClear | .releaseNow | .fireReset => decide (p = .site)
  | .detectorEnable | .detectorDisable => decide (p = .site)
  | .configWrite | .configRead | .configAccept => decide (p = .site)
  | .permit | .withdraw | .gridRestored => decide (p = .util)

/-- The outcomes of section 9.2. -/
inductive Reply where
  | ok | clamped | queueFull | frameError | unknownKind | notPermitted | unconfigured | wrongState | range
  | stackFull | notFound | slotTaken
  deriving DecidableEq, Repr

def Reply.code : Reply → Nat
  | .ok => 0 | .clamped => 1 | .queueFull => 2 | .frameError => 3 | .unknownKind => 4 | .notPermitted => 5
  | .unconfigured => 6 | .wrongState => 7 | .range => 8 | .stackFull => 9 | .notFound => 10 | .slotTaken => 11

/-- The reason codes that some WRONG_STATE refusals carry. -/
inductive RefusalReason where
  | state | fire | dataLoss | hardLimit | cooldown | contactor
  deriving DecidableEq, Repr

def RefusalReason.code : RefusalReason → Nat
  | .state => 0 | .fire => 1 | .dataLoss => 2 | .hardLimit => 3 | .cooldown => 4 | .contactor => 5

/-! ### Enumerations -/

def boolCode (b : Bool) : Nat := if b then 1 else 0

def portCode : Port → Nat
  | .conv => 0 | .site => 1 | .util => 2

/-- An owner byte: a port code, or 10h plus the slot number (R190). -/
def ownerCode : Owner → Nat
  | .port p => portCode p
  | .slot k => 16 + k

def sweepModeCode : SweepMode → Nat
  | .stopped => 0 | .continuous => 1 | .single => 2

def itemStateCode : ItemState → Nat
  | .known => 0 | .stale => 1 | .unknown => 2 | .openSensor => 3

def monitorStateCode : MonitorState → Nat
  | .unconfigured => 0 | .present => 1 | .missing => 2 | .absent => 3

def errorCode : ErrorKind → Nat
  | .timeout => 0 | .framing => 1 | .check => 2 | .address => 3 | .monitorFault => 4

def connectionCode : Connection → Nat
  | .opened => 0 | .precharging _ => 1 | .closing => 2 | .closed => 3 | .opening _ _ => 4 | .lockedOut _ => 5

def openingCode : Opening → Nat
  | .normal => 0 | .abort => 1 | .emergency _ _ => 2

def lockCauseCode : LockCause → Nat
  | .fire => 0 | .hardLimit => 1 | .contactor => 2 | .precharge => 3

/-- The opening kind, present while the connection is OPENING (R155). -/
def Connection.kindCode : Connection → Option Nat
  | .opening k _ => some (openingCode k)
  | .opened | .precharging _ | .closing | .closed | .lockedOut _ => none

/-- The phase, present while the connection is PRECHARGING or OPENING (R155). -/
def Connection.phaseCode : Connection → Option Nat
  | .precharging .negWait => some 0
  | .precharging .charging => some 1
  | .opening _ .wait => some 2
  | .opening _ .mains => some 3
  | .opening _ .neg => some 4
  | .opened | .closing | .closed | .lockedOut _ => none

/-- The lock cause, present in LOCKED_OUT and in an EMERGENCY opening. -/
def Connection.lockCause : Connection → Option LockCause
  | .lockedOut c => some c
  | .opening (.emergency c _) _ => some c
  | .opening .normal _ | .opening .abort _ | .opened | .precharging _ | .closing | .closed => none

def reasonCode : ConnectionReason → Nat
  | .connect => 0 | .precharged => 1 | .connected => 2 | .disconnect => 3 | .dataLoss => 4 | .fire => 5
  | .hardLimit => 6 | .contactor => 7 | .prechargeFailed => 8 | .opened => 9 | .unlock => 10

def permitCode : PermitState → Nat
  | .granted => 0 | .lapsed => 1 | .withdrawn => 2

def contactorCode : Contactor → Nat
  | .neg => 0 | .pre => 1 | .pos => 2

def switchCode : Switch → Nat
  | .opened => 0 | .closed => 1

def fireCode : FireStatus → Nat
  | .quiet => 0 | .watch => 1 | .alarm => 2 | .countdown => 3 | .held => 4 | .released => 5

def detectorKindCode : DetectorKind → Nat
  | .none => 0 | .offgas => 1 | .smoke => 2 | .heat => 3 | .manual => 4

/-- The detector kind that a configuration value names. -/
def detectorKindOf (n : Int) : DetectorKind :=
  if n = 1 then .offgas else if n = 2 then .smoke else if n = 3 then .heat else if n = 4 then .manual else .none

def detectorStateCode : DetectorState → Nat
  | .normal => 0 | .pre => 1 | .alarm => 2 | .fault => 3 | .disabled => 4

def releaseEntryCode : ReleaseEntry → Nat
  | .countdown => 0 | .releaseNow => 1

def coolingCode : CoolingState → Nat
  | .normal => 0 | .degraded => 1 | .lost => 2

def checkCode : CheckState → Nat
  | .healthy => 0 | .faulted => 1 | .trying => 2 | .latched => 3

def dutyCode : DutyChannel → Nat
  | .fanA => 0 | .fanB => 1 | .pump => 2 | .exhaust => 3 | .heater => 4

def tachCode : TachChannel → Nat
  | .fanA => 0 | .fanB => 1 | .pump => 2

/-- The duty channel that an output code names; RELEASE (5) and the codes above it name none (R97, R98). -/
def dutyOfCode (n : Nat) : Option DutyChannel :=
  match n with
  | 0 => some .fanA
  | 1 => some .fanB
  | 2 => some .pump
  | 3 => some .exhaust
  | 4 => some .heater
  | _ => none

def modeCode : ChannelMode → Nat
  | .auto => 0 | .manual => 1

def originCode : Origin → Nat
  | .direct => 0 | .watch => 1 | .fallback => 2

def quantityCode : Quantity → Nat
  | .cellV => 0 | .cellT => 1 | .stringI => 2 | .dcLinkV => 3 | .detector => 4

def quantityOfCode (n : Nat) : Option Quantity :=
  match n with
  | 0 => some .cellV
  | 1 => some .cellT
  | 2 => some .stringI
  | 3 => some .dcLinkV
  | 4 => some .detector
  | _ => none

def comparisonCode : Comparison → Nat
  | .ge => 0 | .lt => 1

def comparisonOfCode (n : Nat) : Option Comparison :=
  match n with
  | 0 => some .ge
  | 1 => some .lt
  | _ => none

def actionCode : WatchAction → Nat
  | .notifyRise => 0 | .notifyBoth => 1 | .curtail => 2

def actionOfCode (n : Nat) : Option WatchAction :=
  match n with
  | 0 => some .notifyRise
  | 1 => some .notifyBoth
  | 2 => some .curtail
  | _ => none

def publicationCode : PublicationKind → Nat
  | .sweep => 0 | .change => 1

/-! ### Sets as bit masks (R188) -/

/-- The mask of a set given member by member: member k of the list is bit k. -/
def setCode : List Bool → Nat
  | [] => 0
  | b :: rest => boolCode b + 2 * setCode rest

def LimitingSet.members (x : LimitingSet) : List Bool :=
  [x.voltage, x.temperature, x.cooling, x.detection, x.curtail, x.rise, x.fire, x.permission, x.dataLoss,
   x.unconfigured]

def CauseSet.members (x : CauseSet) : List Bool := [x.offgas, x.smoke, x.heat, x.manual, x.panel]

def DataLoss.members (x : DataLoss) : List Bool := [x.absentMonitor, x.noTemperature, x.aged]

def HardLimits.members (x : HardLimits) : List Bool := [x.cellHigh, x.cellLow, x.tempHigh]

/-! ### Event kinds and classes -/

/-- The kind code of an event (R192). -/
def Event.kindCode : Event → Nat
  | .hardLimit _ => 0x01
  | .contactorFault _ _ => 0x02
  | .detectorState _ _ => 0x03
  | .fireState _ _ => 0x04
  | .releaseStarted _ => 0x05
  | .connectionState _ _ => 0x10
  | .prechargeFailed _ => 0x11
  | .openedUnderLoad _ => 0x12
  | .permitState _ => 0x13
  | .gridState _ _ _ _ => 0x14
  | .acPermission _ => 0x15
  | .envelopeFell _ _ => 0x20
  | .monitorMissing _ _ => 0x30
  | .monitorAbsent _ _ => 0x31
  | .monitorReturned _ _ => 0x32
  | .dataLossBegin _ => 0x33
  | .dataLossEnd => 0x34
  | .coolingFault _ _ => 0x40
  | .coolingState _ => 0x41
  | .configAccepted _ => 0x50
  | .configLeft _ => 0x51
  | .curtailExpired _ => 0x60
  | .curtailDisplaced _ _ => 0x61
  | .watchHit _ _ => 0x70
  | .watchCleared _ => 0x71
  | .watchStarved _ => 0x72

/-- The event classes of section 9.4, in the code order of R190. -/
inductive EventClass where
  | alarm | connection | envelope | cell | cooling | curtail | watch | config
  deriving DecidableEq, Repr

def EventClass.code : EventClass → Nat
  | .alarm => 0 | .connection => 1 | .envelope => 2 | .cell => 3 | .cooling => 4 | .curtail => 5 | .watch => 6
  | .config => 7

/-- The class of an event (section 9.4). -/
def Event.eventClass : Event → EventClass
  | .hardLimit _ | .contactorFault _ _ | .detectorState _ _ | .fireState _ _ | .releaseStarted _ => .alarm
  | .connectionState _ _ | .prechargeFailed _ | .openedUnderLoad _ | .permitState _ => .connection
  | .gridState _ _ _ _ | .acPermission _ => .connection
  | .envelopeFell _ _ => .envelope
  | .monitorMissing _ _ | .monitorAbsent _ _ | .monitorReturned _ _ | .dataLossBegin _ | .dataLossEnd => .cell
  | .coolingFault _ _ | .coolingState _ => .cooling
  | .curtailExpired _ | .curtailDisplaced _ _ => .curtail
  | .watchHit _ _ | .watchCleared _ | .watchStarved _ => .watch
  | .configAccepted _ | .configLeft _ => .config

/-- The place of the block that raises an event in the order of R172. -/
def Event.block : Event → Nat
  | .configLeft _ | .configAccepted _ => 1
  | .monitorMissing _ _ | .monitorAbsent _ _ | .monitorReturned _ _ => 2
  | .dataLossBegin _ | .dataLossEnd | .hardLimit _ => 3
  | .detectorState _ _ | .fireState _ _ | .releaseStarted _ => 4
  | .coolingFault _ _ | .coolingState _ => 5
  | .contactorFault _ _ | .prechargeFailed _ | .openedUnderLoad _ | .connectionState _ _ => 6
  | .permitState _ | .gridState _ _ _ _ | .acPermission _ => 6
  | .curtailExpired _ | .curtailDisplaced _ _ => 7
  | .watchHit _ _ | .watchCleared _ | .watchStarved _ => 8
  | .envelopeFell _ _ => 9

/-- The place of an event among those of its block, as the block's own chapter gives it (R36, R124, R137, R110,
R172); watch events go by slot number (R87). Events of one place keep the order in which they were raised. -/
def Event.place : Event → Nat
  | .configLeft _ => 0
  | .configAccepted _ => 1
  | .monitorMissing _ _ | .monitorAbsent _ _ | .monitorReturned _ _ => 0
  | .dataLossBegin _ | .dataLossEnd => 0
  | .hardLimit _ => 1
  | .detectorState _ _ => 0
  | .fireState _ _ => 1
  | .releaseStarted _ => 2
  | .coolingFault _ _ => 0
  | .coolingState _ => 1
  | .contactorFault _ _ => 0
  | .prechargeFailed _ => 1
  | .openedUnderLoad _ => 2
  | .connectionState _ _ => 3
  | .permitState _ => 4
  | .gridState _ _ _ _ => 5
  | .acPermission _ => 6
  | .curtailExpired _ | .curtailDisplaced _ _ => 0
  | .watchHit k _ => k
  | .watchCleared k => k
  | .watchStarved k => k
  | .envelopeFell _ _ => 0

end Sys2Proof.Machine
end

