-- ==== Sys2Proof/Machine/Operands.lean ====
section
/-! DEFINITION. The operand forms: how the part reads the fields of a request body (R188, R189, R191), how it
encodes the fields it sends, the CRC of the master frames (R164), and the characters of the chain frames (R4,
R5, R193). -/

namespace Sys2Proof.Machine

/-! ### Encoding (R188) -/

/-- A field of one byte. -/
def byte1 (n : Nat) : List Byte := [BitVec.ofNat 8 n]

/-- A field of two bytes, the more significant first. -/
def byte2 (n : Nat) : List Byte := [BitVec.ofNat 8 (n / 256), BitVec.ofNat 8 n]

/-- A field of four bytes, the most significant first. -/
def byte4 (n : Nat) : List Byte := byte2 (n / 65536) ++ byte2 (n % 65536)

/-- The two's complement of an integer in so many bits. -/
def twos (bits : Nat) (i : Int) : Nat := (i % (2 ^ bits : Int)).toNat

/-- An optional field of one byte: FFh when absent. -/
def opt1 : Option Nat → List Byte
  | none => [0xFF]
  | some n => byte1 n

/-- An optional field of two bytes: FFFFh when absent. -/
def opt2 : Option Nat → List Byte
  | none => [0xFF, 0xFF]
  | some n => byte2 n

/-- An optional field of four bytes: FFFFFFFFh when absent. -/
def opt4 : Option Nat → List Byte
  | none => [0xFF, 0xFF, 0xFF, 0xFF]
  | some n => byte4 n

/-! ### Reading a request body (R188, R189) -/

/-- The byte at a position of a body. -/
def u8 (body : List Byte) (i : Nat) : Nat := (body.getD i 0).toNat

/-- The unsigned two-byte field at a position. -/
def u16 (body : List Byte) (i : Nat) : Nat := u8 body i * 256 + u8 body (i + 1)

/-- The unsigned four-byte field at a position. -/
def u32 (body : List Byte) (i : Nat) : Nat := u16 body i * 65536 + u16 body (i + 2)

/-- The signed reading of an unsigned field of so many bits. -/
def signed (bits : Nat) (n : Nat) : Int := if n < 2 ^ (bits - 1) then (n : Int) else (n : Int) - 2 ^ bits

/-- The signed two-byte field at a position. -/
def s16 (body : List Byte) (i : Nat) : Int := signed 16 (u16 body i)

/-- The signed four-byte field at a position. -/
def s32 (body : List Byte) (i : Nat) : Int := signed 32 (u32 body i)

/-- A cap field: FFFFh is an absent cap (R189). -/
def capField (body : List Byte) (i : Nat) : Option Nat :=
  if u16 body i = 65535 then none else some (u16 body i)

/-- A duration field of four bytes: FFFFFFFFh is an absent duration (R189). -/
def durationField (body : List Byte) (i : Nat) : Option Nat :=
  if u32 body i = 4294967295 then none else some (u32 body i)

/-- A byte that codes OFF or ON. -/
def onOffField (body : List Byte) (i : Nat) : Option Bool :=
  match u8 body i with
  | 0 => some false
  | 1 => some true
  | _ => none

/-- The specification in a CLAIM_WATCH body, from the quantity in byte 1 to the chain flag in byte 14
(section 11.3); a code that names no member of its list gives none (R189). -/
def watchSpecField (body : List Byte) : Option WatchSpec :=
  match quantityOfCode (u8 body 1), comparisonOfCode (u8 body 6), actionOfCode (u8 body 9), onOffField body 14 with
  | some q, some c, some a, some chain =>
    some
      { quantity := q, first := u16 body 2, last := u16 body 4, comparison := c, threshold := s16 body 7,
        chain := chain, action := a, chargeCap := capField body 10, dischargeCap := capField body 12 }
  | _, _, _, _ => none

/-- The value in a CONFIG_WRITE body, read as its item's range asks (R191). The code of a named value (R188) is read as
a 32-bit number, so that it stands in the last of the four bytes, and a word whose other bytes are not 0 names no value
(DESIGN CHOICE, log entry 35). -/
def itemField (range : ItemRange) (body : List Byte) (i : Nat) : ItemValue :=
  match range with
  | .between _ _ => .scalar (s32 body i)
  | .named _ => .scalar (s32 body i)
  | .breakpoint => .point (s16 body i) (u16 body (i + 2))

/-- The four bytes of a configuration value (R191). The code of a named value (R188) is sent as a 32-bit number, in the
last of the four bytes after three bytes 0 (DESIGN CHOICE, log entry 35). -/
def itemBytes : ItemValue → List Byte
  | .scalar n => byte4 (twos 32 n)
  | .point t v => byte2 (twos 16 t) ++ byte2 (twos 16 v)

/-! ### Master frames (R163, R164, R191) -/

/-- One shift of the CRC register: generator 07h, most significant bit first. -/
def crcShift (r : Byte) : Byte := if r.msb then (r <<< 1) ^^^ 0x07 else r <<< 1

/-- The register after one byte is taken in. -/
def crcByte (r b : Byte) : Byte :=
  crcShift (crcShift (crcShift (crcShift (crcShift (crcShift (crcShift (crcShift (r ^^^ b))))))))

/-- The CRC of R164: initial value 0, no reflection, no final inversion. -/
def crc8 (bytes : List Byte) : Byte := bytes.foldl crcByte 0

/-- A request frame after its sync byte: length, kind, body, CRC (section 11.3). -/
def requestBytes (kind : Byte) (body : List Byte) : List Byte :=
  let covered := BitVec.ofNat 8 (body.length + 1) :: kind :: body
  covered ++ [crc8 covered]

/-- The characters of a whole sound request frame. -/
def requestChars (kind : Byte) (body : List Byte) : List RxChar :=
  (0xA5 :: requestBytes kind body).map fun b => ⟨b, true⟩

/-- A response frame: A5h, length, kind, outcome, body, CRC (R167, section 11.3). -/
def responseFrame (kind : Byte) (outcome : Reply) (body : List Byte) : List Byte :=
  let covered := BitVec.ofNat 8 (body.length + 2) :: kind :: BitVec.ofNat 8 outcome.code :: body
  0xA5 :: (covered ++ [crc8 covered])

/-- The kind byte of the response to a request: the request's with 80h set (R167). -/
def responseKind (kind : Byte) : Byte := kind ||| 0x80

/-! ### Chain characters (R4, R5, R6, R193) -/

/-- The sum of the low eight bits of a run of characters. -/
def charSum (bytes : List Byte) : Nat := bytes.foldl (fun n b => n + b.toNat) 0

/-- The check character after the preceding characters of a frame (R5). -/
def checkChar (bytes : List Byte) : Byte := BitVec.ofNat 8 ((256 - charSum bytes % 256) % 256)

/-- The chain commands (R193). -/
inductive ChainCommand where
  | read | readBalance | bleedOff
  deriving DecidableEq, Repr

def ChainCommand.code : ChainCommand → Byte
  | .read => 0x01
  | .readBalance => 0x02
  | .bleedOff => 0x03

/-- The address character that names every monitor (R4). -/
def broadcastAddress : Nat := 63

/-- The five characters of a command frame (R4, R5, R193), with the ninth bit and the stop bits of R1. -/
def commandFrame (address : Nat) (command : ChainCommand) (mask : Mask) : List ChainChar :=
  let front : List Byte :=
    [BitVec.ofNat 8 address, command.code, BitVec.ofNat 8 mask.toNat, BitVec.ofNat 8 (mask.toNat / 256)]
  ⟨BitVec.ofNat 8 address, true, true⟩ ::
    (front.drop 1 ++ [checkChar front]).map fun b => ⟨b, false, true⟩

/-- The number of characters of the reply expected from an address (R6). -/
def replyLength (address : Nat) : Nat := if address = 0 then 7 else 31

/-- The 14-bit code at a cell position of a reply (R25, R193): the low six bits of the first character, then
the eight bits of the second. -/
def cellCode (reply : List Byte) (position : Nat) : Nat :=
  u8 reply (1 + 2 * position) % 64 * 256 + u8 reply (2 + 2 * position)

/-- The values that an accepted reply places in the sweep buffer (R6). -/
def replyValues (address cellsPerMonitor : Nat) (reply : List Byte) : ReplyValues :=
  if address = 0 then .stringMonitor (s16 reply 1) (u16 reply 3)
  else
    .cellMonitor ((List.range cellsPerMonitor).map (cellCode reply))
      ((List.range 4).map fun k => u8 reply (25 + k))

/-- The status character of a reply: the one before the check (R6). -/
def replyStatus (address : Nat) (reply : List Byte) : Nat := u8 reply (replyLength address - 2)

/-- The reply passes its check when its characters, the check included, sum to 0 mod 256 (R5). -/
def replyChecks (reply : List Byte) : Bool := decide (charSum reply % 256 = 0)

/-- What the characters of a reply amount to, tested in the order of arrival (R8). -/
inductive ReplyVerdict where
  | incomplete
  | failed (error : ErrorKind)
  | accepted (reply : List Byte)
  deriving DecidableEq, Repr

/-- The error that one character shows, if it shows one: the first is tested against the address, and a later
one must carry the ninth bit at 0 (R8). A first character with its stop bit at 0 shows FRAMING, whatever its ninth
bit and its value (DESIGN CHOICE, log entry 30). -/
def charError (address : Nat) (first : Bool) (c : ChainChar) : Option ErrorKind :=
  if !c.stopAtMark then some .framing
  else if first then
    (if !c.ninth || c.value != BitVec.ofNat 8 address then some .address else none)
  else if c.ninth then some .framing
  else none

/-- The first error that the characters show, in their order. -/
def firstCharError (address : Nat) : Bool → List ChainChar → Option ErrorKind
  | _, [] => none
  | first, c :: rest =>
    match charError address first c with
    | some e => some e
    | none => firstCharError address false rest

/-- The verdict on the characters received for an attempt; characters after the expected number are not
received (R1). -/
def replyVerdict (address : Nat) (chars : List ChainChar) : ReplyVerdict :=
  let taken := chars.take (replyLength address)
  match firstCharError address true taken with
  | some e => .failed e
  | none =>
    if taken.length < replyLength address then .incomplete
    else
      let reply := taken.map ChainChar.value
      if !replyChecks reply then .failed .check
      else if replyStatus address reply ≠ 0 then .failed .monitorFault
      else .accepted reply

end Sys2Proof.Machine
end

