-- ==== Sys2Proof/Machine/Settings.lean ====
section
/-! DEFINITION. The configuration items by name: each block reads the one stored copy through these (R180). -/

namespace Sys2Proof.Machine

/-- The stored copy of item n. -/
def ConfigSet.value (c : ConfigSet) (n : Nat) : ItemValue := c.items.getD (n - 1) (.scalar 0)

/-- The configuration set with item n stored anew (R181). -/
def ConfigSet.store (c : ConfigSet) (n : Nat) (v : ItemValue) : ConfigSet :=
  { c with items := c.items.set (n - 1) v }

/-- The number that an item holds. -/
def ItemValue.number : ItemValue → Int
  | .scalar n => n
  | .point _ v => v

/-- The temperature and value that a breakpoint item holds. -/
def ItemValue.pair : ItemValue → Int × Int
  | .scalar n => (0, n)
  | .point t v => (t, v)

def ConfigSet.int (c : ConfigSet) (n : Nat) : Int := (c.value n).number
def ConfigSet.nat (c : ConfigSet) (n : Nat) : Nat := (c.int n).toNat
def ConfigSet.on (c : ConfigSet) (n : Nat) : Bool := decide (c.int n = 1)

/-- The breakpoints held by `count` items from item `first` on. -/
def ConfigSet.curve (c : ConfigSet) (first count : Nat) : List (Int × Int) :=
  (List.range count).map fun k => (c.value (first + k)).pair

def ConfigSet.monitorCount (c : ConfigSet) : Nat := c.nat 1
def ConfigSet.cellsPerMonitor (c : ConfigSet) : Nat := c.nat 2
def ConfigSet.chainDivisor (c : ConfigSet) : Nat := c.nat 3
/-- The sweep period in microseconds; the item is in ms. -/
def ConfigSet.sweepPeriod (c : ConfigSet) : Nat := c.nat 4 * Length.milli
def ConfigSet.ratedCurrent (c : ConfigSet) : Nat := c.nat 5
def ConfigSet.chargeTaper (c : ConfigSet) : Int := c.int 6
def ConfigSet.chargeCeiling (c : ConfigSet) : Int := c.int 7
def ConfigSet.dischargeTaper (c : ConfigSet) : Int := c.int 8
def ConfigSet.dischargeFloor (c : ConfigSet) : Int := c.int 9
def ConfigSet.hardMax (c : ConfigSet) : Int := c.int 10
def ConfigSet.hardMin (c : ConfigSet) : Int := c.int 11
def ConfigSet.hardTemperature (c : ConfigSet) : Int := c.int 12
def ConfigSet.chargeCurve (c : ConfigSet) : List (Int × Int) := c.curve 13 6
def ConfigSet.dischargeCurve (c : ConfigSet) : List (Int × Int) := c.curve 19 6
def ConfigSet.degradedFactor (c : ConfigSet) : Int := c.int 25
def ConfigSet.lostFactor (c : ConfigSet) : Int := c.int 26
def ConfigSet.detectionCharge (c : ConfigSet) : Int := c.int 27
def ConfigSet.detectionDischarge (c : ConfigSet) : Int := c.int 28
def ConfigSet.riseStep (c : ConfigSet) : Nat := c.nat 29
def ConfigSet.fallMargin (c : ConfigSet) : Nat := c.nat 30
/-- The data-loss time in microseconds; the item is in ms. -/
def ConfigSet.dataLossTime (c : ConfigSet) : Nat := c.nat 31 * Length.milli
/-- The data-loss open time in microseconds; the item is in s. -/
def ConfigSet.dataLossOpenTime (c : ConfigSet) : Nat := c.nat 32 * Length.second
def ConfigSet.balancing (c : ConfigSet) : Bool := c.on 33
def ConfigSet.balanceWindow (c : ConfigSet) : Int := c.int 34
def ConfigSet.balanceFloor (c : ConfigSet) : Int := c.int 35
def ConfigSet.balanceTemperature (c : ConfigSet) : Int := c.int 36
/-- The PWM period in microseconds. -/
def ConfigSet.pwmPeriod (c : ConfigSet) : Nat := c.nat 37
/-- Items 38 to 42: true for CENTRE. -/
def ConfigSet.centred (c : ConfigSet) : Channels Bool := Channels.of fun ch => c.on (38 + dutyCode ch)
/-- Items 43 to 47: true for ACTIVE_LOW. -/
def ConfigSet.activeLow (c : ConfigSet) : Channels Bool := Channels.of fun ch => c.on (43 + dutyCode ch)
/-- Item 48: true for ACTIVE_LOW. -/
def ConfigSet.releaseActiveLow (c : ConfigSet) : Bool := c.on 48
def ConfigSet.fanCurve (c : ConfigSet) : List (Int × Int) := c.curve 49 4
def ConfigSet.blindDuty (c : ConfigSet) : Nat := c.nat 53
def ConfigSet.heatOn (c : ConfigSet) : Int := c.int 54
def ConfigSet.heatOff (c : ConfigSet) : Int := c.int 55
/-- Items 56 and 57: the minimum rate of the fans and of the pump (R93). -/
def ConfigSet.tachMinimum (c : ConfigSet) : TachChannel → Nat
  | .fanA => c.nat 56
  | .fanB => c.nat 56
  | .pump => c.nat 57
def ConfigSet.detectorKind (c : ConfigSet) (i : Nat) : DetectorKind := detectorKindOf (c.int (58 + i))
/-- The pre threshold of a kind; where R115 names that of MANUAL, 128 is meant. -/
def ConfigSet.preThreshold (c : ConfigSet) : DetectorKind → Nat
  | .offgas => c.nat 74
  | .smoke => c.nat 76
  | .heat => c.nat 78
  | .manual => 128
  | .none => 255
/-- The alarm threshold of a kind; that of MANUAL is fixed at 128 (R115). -/
def ConfigSet.alarmThreshold (c : ConfigSet) : DetectorKind → Nat
  | .offgas => c.nat 75
  | .smoke => c.nat 77
  | .heat => c.nat 79
  | .manual => 128
  | .none => 255
def ConfigSet.autoRelease (c : ConfigSet) : Bool := c.on 80
/-- The release delay in microseconds; the item is in s. -/
def ConfigSet.releaseDelay (c : ConfigSet) : Nat := c.nat 81 * Length.second
/-- The release pulse length in microseconds; the item is in ms. -/
def ConfigSet.releasePulse (c : ConfigSet) : Nat := c.nat 82 * Length.milli
def ConfigSet.prechargeRatio (c : ConfigSet) : Nat := c.nat 83
/-- The precharge timeout in microseconds; the item is in s. -/
def ConfigSet.prechargeTimeout (c : ConfigSet) : Nat := c.nat 84 * Length.second
def ConfigSet.openCurrent (c : ConfigSet) : Int := c.int 85
/-- The open wait in microseconds; the item is in ms. -/
def ConfigSet.openWait (c : ConfigSet) : Nat := c.nat 86 * Length.milli
/-- The reconnect delay in microseconds; the item is in s. -/
def ConfigSet.reconnectDelay (c : ConfigSet) : Nat := c.nat 87 * Length.second
def ConfigSet.fallbackCharge (c : ConfigSet) : Nat := c.nat 88
def ConfigSet.fallbackDischarge (c : ConfigSet) : Nat := c.nat 89

end Sys2Proof.Machine
end

