-- ==== Sys2Proof/Machine/Flags.lean ====
section
/-! DEFINITION. Every flag and line that follows from other state: conditions the chapters name, and the output
lines. Each is computed where it is read, so it cannot disagree with what it follows. -/

namespace Sys2Proof.Machine

/-! ### Time -/

/-- Whole seconds since the end of power-on reset, wrapping at 32 bits (R171, section 0.6.3). -/
def State.uptime (s : State) : BitVec 32 := BitVec.ofNat 32 (s.clock / Length.second)

/-- Microseconds as whole seconds, rounded up. -/
def secondsUp (micros : Nat) : Nat := (micros + (Length.second - 1)) / Length.second

/-- Microseconds as whole milliseconds, rounded up. -/
def millisUp (micros : Nat) : Nat := (micros + (Length.milli - 1)) / Length.milli

/-- The time left on a timer that is running or paused. -/
def Timer.left : Timer → Option Nat
  | .running n => some n
  | .paused n => some n
  | .stopped => none
  | .runOut => none

def Timer.isRunning : Timer → Bool
  | .running _ => true
  | .stopped | .paused _ | .runOut => false

/-! ### Cell table -/

/-- An item is usable when its state is KNOWN or STALE (section 2.2). -/
def ItemState.usable : ItemState → Bool
  | .known | .stale => true
  | .unknown | .openSensor => false

/-- Data loss holds while its set of conditions is not empty (R32). -/
def DataLoss.holds (d : DataLoss) : Bool := d.absentMonitor || d.noTemperature || d.aged

/-- The hard-limit flag is set while its set of kinds is not empty (R35). -/
def HardLimits.flag (h : HardLimits) : Bool := h.cellHigh || h.cellLow || h.tempHigh

/-! ### Fire controller -/

/-- ALARM, COUNTDOWN, HELD and RELEASED are the confirmed states (section 7.3). -/
def FireStatus.confirmed : FireStatus → Bool
  | .quiet | .watch => false
  | .alarm | .countdown | .held | .released => true

/-- The hold is active while the HOLD line's latest sample is active or the site hold request stands (R130). -/
def FireControl.hold (f : FireControl) : Bool := f.holdSample || f.siteHold

/-- A detector is in service when its kind is not NONE and its state is NORMAL, PRE or ALARM (section 7.1). -/
def inService (k : DetectorKind) (d : Detector) : Bool :=
  decide (k ≠ .none) &&
  match d.state with
  | .normal | .pre | .alarm => true
  | .fault | .disabled => false

/-- The detector at an index. -/
def FireControl.detector (f : FireControl) (i : Nat) : Detector := f.detectors.getD i resetDetector

/-- An in-service detector in PRE or ALARM. -/
def alerted (k : DetectorKind) (d : Detector) : Bool :=
  inService k d && (decide (d.state = .pre) || decide (d.state = .alarm))

/-- The number of detectors with a property of kind and record. -/
def detectorCount (c : ConfigSet) (f : FireControl) (q : DetectorKind → Detector → Bool) : Nat :=
  ((List.range 16).filter fun i => q (c.detectorKind i) (f.detector i)).length

/-- Two or more detectors of kind OFFGAS are in FAULT or DISABLED (R123). -/
def impairedNow (c : ConfigSet) (f : FireControl) : Bool :=
  decide (2 ≤ detectorCount c f fun k d =>
    decide (k = .offgas) && (decide (d.state = .fault) || decide (d.state = .disabled)))

/-- One or more detectors are in FAULT, or detection is impaired (R123). -/
def faultRelayNow (c : ConfigSet) (f : FireControl) : Bool :=
  decide (1 ≤ detectorCount c f fun _ d => decide (d.state = .fault)) || impairedNow c f

/-! ### Connection controller -/

def Connection.isClosed : Connection → Bool
  | .closed => true
  | .opened | .precharging _ | .closing | .opening _ _ | .lockedOut _ => false

/-- OPEN or LOCKED_OUT: the states in which SWEEP_STOP, COOLING_MANUAL and CONFIG_WRITE are taken. -/
def Connection.disconnected : Connection → Bool
  | .opened | .lockedOut _ => true
  | .precharging _ | .closing | .closed | .opening _ _ => false

/-- The grid is present while the line is present and the record holds no trip notice (R158). -/
def ConnectionControl.gridPresent (c : ConnectionControl) : Bool :=
  c.linePresent && !c.convNotice && !c.utilNotice

/-- The five conditions of AC permission (R161). -/
def permissionNow (conn : ConnectionControl) (fire : FireStatus) : Bool :=
  conn.connection.isClosed && decide (conn.permit ≠ .withdrawn) && conn.gridPresent &&
  decide (conn.reconnect = .runOut) && !fire.confirmed

/-! ### Watch table and curtailment stack -/

/-- The claim on a slot, if it is claimed. -/
def State.claim (s : State) (k : Nat) : Option Claim := s.slots.getD k none

/-- Slot k is chained from above while slot k - 1 is claimed with its chain flag set (R81). -/
def chainedFromAbove (slots : List (Option Claim)) (k : Nat) : Bool :=
  match k with
  | 0 => false
  | j + 1 =>
    match slots.getD j none with
    | some c => c.spec.chain
    | none => false

/-- The port that stands behind an owner: a slot's entry counts as its claiming port's (R67). -/
def ownerPort (slots : List (Option Claim)) : Owner → Option Port
  | .port p => some p
  | .slot k => (slots.getD k none).map Claim.owner

/-- An entry owned by UTIL, or by a watch slot that UTIL has claimed (section 4.1). -/
def utilityOwned (slots : List (Option Claim)) (e : Entry) : Bool :=
  decide (ownerPort slots e.owner = some .util)

/-! ### Lines to the masters -/

/-- RDY is asserted while the request queue holds fewer than 4 requests (R165), and released while power-on
reset is held (R186). -/
def State.rdy (s : State) (p : Port) : Bool := !s.resetHeld && decide ((s.ports.get p).requests.length < 4)

/-- The three conditions of ATN (R177). -/
def PortState.attentionNow (q : PortState) : Bool :=
  decide (q.attention ≤ q.events.length) || q.events.any (fun r => decide (r.event.eventClass = .alarm)) ||
  q.overflow

/-- ATN (R177), released while power-on reset is held (R186). -/
def State.atn (s : State) (p : Port) : Bool := !s.resetHeld && (s.ports.get p).attentionNow

/-- AC_PERMIT is high while AC permission is asserted (R161). -/
def State.acPermit (s : State) : Bool := s.conn.acPermission

/-- ZERO_LIMIT is asserted while both published current limits are 0 (R62). -/
def State.zeroLimit (s : State) : Bool :=
  decide (s.envelope.record.chargeLimit = 0) && decide (s.envelope.record.dischargeLimit = 0)

/-! ### Lines to the field -/

/-- A contactor's drive output follows its command (R141). -/
def State.drive (s : State) (c : Contactor) : Switch := (s.conn.contactors.get c).command

/-- The compare time of a duty channel: floor(P × D / 1000) µs (R94). -/
def compareTime (period duty : Nat) : Nat := period * duty / 1000

/-- Where the active window begins in the period: at its start, or at floor((P - C) / 2) for CENTRE (R94). -/
def windowStart (period duty : Nat) (centre : Bool) : Nat :=
  if centre then (period - compareTime period duty) / 2 else 0

/-- The window of a channel is active at a position in the period (R94). -/
def windowActive (period duty : Nat) (centre : Bool) (position : Nat) : Bool :=
  decide (windowStart period duty centre ≤ position) &&
  decide (position < windowStart period duty centre + compareTime period duty)

/-- The position within the period in progress, from 0 to P - 1 (R94). While a period start is due and not yet taken,
the period in progress is read at its last microsecond (DESIGN CHOICE, log entry 34): an output at a duty of 1000 is
active there, as to the end of every period and through the following one. -/
def PwmState.position (p : PwmState) : Nat := min (p.period - p.left) (p.period - 1)

/-- The level of a duty output, true for high (R94). -/
def ThermalState.outputHigh (t : ThermalState) (c : DutyChannel) : Bool :=
  (windowActive t.pwm.period (t.channels.get c).active (t.pwm.centred.get c) t.pwm.position).xor
    (t.pwm.activeLow.get c)

/-- The level of RELEASE, true for high: active while a pulse runs (R111). -/
def ThermalState.releaseHigh (t : ThermalState) : Bool :=
  t.releasePulse.isRunning.xor t.pwm.releaseActiveLow

/-- The output lines of section 11.6, with true for high, asserted, closed drive or open damper. A transmit
line is busy while a response is being sent, and the chain line is driven while a command frame is (R1). -/
structure Lines where
  rdy : Ports Bool
  atn : Ports Bool
  transmitting : Ports Bool
  acPermit : Bool
  zeroLimit : Bool
  chainDriven : Bool
  drives : Contactors Switch
  outputs : Channels Bool
  release : Bool
  alarmRelay : Bool
  faultRelay : Bool
  damper : Bool
  deriving DecidableEq, Repr

def ChainState.driving (c : ChainState) : Bool :=
  match c.link with
  | .sending _ => true
  | .rest | .frameDue | .awaitingReply => false

/-- Every output line as the state drives it. -/
def State.lines (s : State) : Lines :=
  { rdy := ⟨s.rdy .conv, s.rdy .site, s.rdy .util⟩,
    atn := ⟨s.atn .conv, s.atn .site, s.atn .util⟩,
    transmitting := s.ports.map fun _ q => q.sending.isSome,
    acPermit := s.acPermit, zeroLimit := s.zeroLimit, chainDriven := s.chain.driving,
    drives := ⟨s.drive .neg, s.drive .pre, s.drive .pos⟩,
    outputs := Channels.of s.thermal.outputHigh, release := s.thermal.releaseHigh,
    alarmRelay := s.fire.alarmRelay, faultRelay := s.fire.faultRelay, damper := s.thermal.damperOpen }

end Sys2Proof.Machine
end

