-- ==== Sys2Proof/Machine/Events.lean ====
section
/-! DEFINITION. Raising, ordering and delivering events (R172 to R174), and placing responses (R167). -/

namespace Sys2Proof.Machine

/-- An event as a block raises it: a broadcast event has no owner, an owner-directed one names its port (R173). -/
structure Raised where
  event : Event
  owner : Option Port
  deriving DecidableEq, Repr

/-- A broadcast event. -/
def broadcast (e : Event) : Raised := ⟨e, none⟩

/-- An owner-directed event. -/
def directed (p : Port) (e : Event) : Raised := ⟨e, some p⟩

/-- What a block's work leaves: the state, and the events raised so far, in the order of raising. -/
structure Change where
  st : State
  raised : List Raised
  deriving DecidableEq, Repr

/-- A state with nothing raised. -/
def Change.quiet (s : State) : Change := ⟨s, []⟩

/-- One block's work after another's, in one event of the part. -/
def Change.andThen (c : Change) (f : State → Change) : Change :=
  ⟨(f c.st).st, c.raised ++ (f c.st).raised⟩

/-- More events raised in the same event of the part. -/
def Change.raise (c : Change) (rs : List Raised) : Change := ⟨c.st, c.raised ++ rs⟩

/-- An event is offered before another of the same event of the part: its block comes first, or its block is the
same and it comes first there (R172). -/
def Event.before (a b : Event) : Bool :=
  decide (a.block < b.block) || (decide (a.block = b.block) && decide (a.place < b.place))

/-- Place an event among ordered ones, before those that stand at the same place: it was raised before them. -/
def insertRaised (r : Raised) : List Raised → List Raised
  | [] => [r]
  | q :: rest => if q.event.before r.event then q :: insertRaised r rest else r :: q :: rest

/-- The order in which the events of one event of the part are offered (R172); events of the same place keep
the order in which they were raised. -/
def orderRaised : List Raised → List Raised
  | [] => []
  | r :: rest => insertRaised r (orderRaised rest)

/-- The class is in the mask. -/
def maskHolds (mask : BitVec 8) (c : EventClass) : Bool := mask.getLsbD c.code

/-- Whether an event is offered to a port with this mask (R173). -/
def offeredTo (p : Port) (mask : BitVec 8) (r : Raised) : Bool :=
  match r.owner with
  | some q => decide (q = p)
  | none => decide (r.event.eventClass = .alarm) || maskHolds mask r.event.eventClass

/-- An offered record is stored, refused, or refused with the mark being set (R174). -/
def PortState.offer (q : PortState) (record : EventRecord) : PortState :=
  if q.overflow then q
  else if q.events.length < 16 then { q with events := q.events ++ [record] }
  else { q with overflow := true }

/-- A port takes what one event of the part raises, in order (R172 to R174). -/
def PortState.deliver (p : Port) (uptime : BitVec 32) (sweep : Serial) (rs : List Raised) (q : PortState) :
    PortState :=
  rs.foldl
    (fun q r => if offeredTo p q.mask r then q.offer { event := r.event, uptime := uptime, sweepNumber := sweep }
      else q) q

/-- The events of one event of the part are offered to every port, stamped with the uptime and the snapshot
sweep number that the event leaves (R172). -/
def State.deliver (s : State) (rs : List Raised) : State :=
  { s with ports := s.ports.map fun p q => q.deliver p s.uptime s.table.sweepNumber (orderRaised rs) }

/-! ### The response path (R167) -/

/-- A formed response is sent at once when none is being sent, and waits otherwise. -/
def PortState.place (q : PortState) (frame : List Byte) : PortState :=
  match q.sending with
  | none => { q with sending := some frame }
  | some _ => { q with waiting := q.waiting ++ [frame] }

/-- A QUEUE_FULL or FRAME_ERROR response is discarded while 8 responses already wait (R167). -/
def PortState.placeOrDiscard (q : PortState) (frame : List Byte) : PortState :=
  if q.waiting.length < 8 then q.place frame else q

/-- The response being sent ends; the next one waiting starts (R167). -/
def PortState.sent (q : PortState) : PortState :=
  match q.waiting with
  | [] => { q with sending := none }
  | frame :: rest => { q with sending := some frame, waiting := rest }

/-- The response to a request, formed and placed on the port's response path (R166, R167). -/
def State.respond (s : State) (p : Port) (kind : Byte) (outcome : Reply) (body : List Byte) : State :=
  { s with ports := s.ports.set p ((s.ports.get p).place (responseFrame (responseKind kind) outcome body)) }

end Sys2Proof.Machine
end

