-- ==== Sys2Proof/Machine/Stack.lean ====
section
/-! DEFINITION. The curtailment stack (Chapter 4): handles, pushes, displacement, removal, and what the stack
hands on. -/

namespace Sys2Proof.Machine

/-- The value after a handle, wrapping from 255 to 1 (R64). -/
def handleAfter (h : Nat) : Nat := if h < 255 then h + 1 else 1

/-- A live entry carries the handle. -/
def handleLive (es : List Entry) (h : Nat) : Bool := es.any fun e => decide (e.handle = h)

/-- The search for a free handle from a value upward, over at most so many values (R64). -/
def searchHandle (es : List Entry) : Nat → Nat → Nat
  | 0, h => h
  | n + 1, h => if handleLive es h then searchHandle es n (handleAfter h) else h

/-- The handle that the next entry is given (R64). -/
def StackState.freeHandle (st : StackState) : Nat := searchHandle st.entries 255 st.nextHandle

/-- What a push brings, apart from its handle. -/
structure EntryBody where
  owner : Owner
  origin : Origin
  chargeCap : Option Nat
  dischargeCap : Option Nat
  remaining : Option Nat
  deriving DecidableEq, Repr

/-- The entry with a handle of its own. -/
def EntryBody.withHandle (b : EntryBody) (h : Nat) : Entry :=
  ⟨h, b.owner, b.origin, b.chargeCap, b.dischargeCap, b.remaining⟩

/-- An entry placed on top with the next free handle (R63, R64). -/
def StackState.add (st : StackState) (b : EntryBody) : StackState :=
  { entries := st.entries ++ [b.withHandle st.freeHandle], nextHandle := handleAfter st.freeHandle }

/-- The entry with a handle removed; those above it move down (R63). -/
def StackState.remove (st : StackState) (h : Nat) : StackState :=
  { st with entries := st.entries.filter fun e => decide (e.handle ≠ h) }

/-- The live entry that carries a handle. -/
def StackState.find (st : StackState) (h : Nat) : Option Entry := st.entries.find? fun e => decide (e.handle = h)

/-- A DIRECT entry owned by the port. -/
def Entry.directOf (p : Port) (e : Entry) : Bool :=
  decide (e.origin = .direct) && decide (e.owner = .port p)

/-- The lowest entry that is not utility-owned (R67). -/
def displaceable (slots : List (Option Claim)) (es : List Entry) : Option Entry :=
  es.find? fun e => !utilityOwned slots e

/-- The result of a push: refused on a full stack, or taken with a handle and perhaps a displaced entry. -/
inductive PushResult where
  | full
  | pushed (st : StackState) (handle : Nat) (displaced : Option Entry)
  deriving DecidableEq, Repr

/-- A push with the priority of a port (R66, R67, R73, R74): on top while there is room; at a full stack only
the utility's priority displaces. -/
def StackState.push (st : StackState) (slots : List (Option Claim)) (priority : Port) (b : EntryBody) :
    PushResult :=
  if st.entries.length < 8 then .pushed (st.add b) st.freeHandle none
  else if priority = .util then
    match displaceable slots st.entries with
    | none => .full
    | some e => .pushed ((st.remove e.handle).add b) (st.remove e.handle).freeHandle (some e)
  else .full

/-- A cap as the stack holds it: not above I_rated (R66, step 3). -/
def clampCap (rated : Nat) (cap : Option Nat) : Option Nat := cap.map fun c => min c rated

/-- The slots after one of them has lost its entry to a displacement: entry absent, starved flag set (R91). -/
def starveSlot (slots : List (Option Claim)) (k : Nat) : List (Option Claim) :=
  match slots.getD k none with
  | some c => slots.set k (some { c with entry := none, starved := true })
  | none => slots

/-- The event that tells the owner of a displaced entry (R67, R91). A FALLBACK entry is utility-owned and is
never displaced. -/
def displacedEvents (slots : List (Option Claim)) (e : Entry) (newHandle : Nat) : List Raised :=
  match e.owner with
  | .port p => [directed p (.curtailDisplaced e.handle newHandle)]
  | .slot k =>
    match slots.getD k none with
    | some c => [directed c.owner (.watchStarved k)]
    | none => []

/-- The slots after a displacement: a WATCH entry's slot is starved (R67, R91). -/
def displacedSlots (slots : List (Option Claim)) (e : Entry) : List (Option Claim) :=
  match e.owner with
  | .port _ => slots
  | .slot k => starveSlot slots k

/-- The state after a push that was taken, with the owner of a displaced entry told (R67). -/
def State.afterPush (s : State) (st : StackState) (handle : Nat) (displaced : Option Entry) : Change :=
  match displaced with
  | none => ⟨{ s with stack := st }, []⟩
  | some e => ⟨{ s with stack := st, slots := displacedSlots s.slots e }, displacedEvents s.slots e handle⟩

/-! ### What the stack hands on (R75) -/

/-- The two directions of current (R190). -/
inductive Direction where
  | charge | discharge
  deriving DecidableEq, Repr

/-- An entry's cap of a direction. -/
def Entry.cap (d : Direction) (e : Entry) : Option Nat :=
  match d with
  | .charge => e.chargeCap
  | .discharge => e.dischargeCap

/-- The lowest cap of a direction among the entries that carry one (R55, R75). -/
def lowestCap (d : Direction) : List Entry → Option Nat
  | [] => none
  | e :: rest =>
    match e.cap d, lowestCap d rest with
    | none, low => low
    | some c, none => some c
    | some c, some low => some (min c low)

/-- The topmost of the entries whose cap of the direction is the lowest cap (R60, R75). -/
def governing (d : Direction) (es : List Entry) : Option Governing :=
  match lowestCap d es with
  | none => none
  | some low =>
    match (es.reverse.find? fun e => decide (e.cap d = some low)) with
    | none => none
    | some e => some ⟨e.handle, e.owner⟩

end Sys2Proof.Machine
end

