-- ==== Sys2Proof/Machine/Envelope.lean ====
section
/-! DEFINITION. The publication of the operating envelope (Chapter 3): the eleven stages, the limiting sets, the
governing entries, and the fall of a limit. Divisions of integers below have positive divisors (R48), so they
round toward negative infinity as section 0.6.5 asks. -/

namespace Sys2Proof.Machine

/-- A curve between a breakpoint and the ones above it (R51): at a breakpoint its value, between two of them
the floored interpolation, and above the last its value. -/
def curveFrom (t0 y0 : Int) : List (Int × Int) → Int → Int
  | [], _ => y0
  | (t1, y1) :: rest, t =>
    if t < t1 then y0 + (y1 - y0) * (t - t0) / (t1 - t0) else curveFrom t1 y1 rest t

/-- A curve at a temperature, with the value it has below its first breakpoint: y0 for the envelope's curves
(R51), 0 for the fan curve (R99). -/
def curveAt (points : List (Int × Int)) (below : Int → Int) (t : Int) : Int :=
  match points with
  | [] => 0
  | (t0, y0) :: rest => if t < t0 then below y0 else curveFrom t0 y0 rest t

/-- An envelope curve at a temperature (R51). -/
def envelopeCurve (points : List (Int × Int)) (t : Int) : Int := curveAt points (fun y0 => y0) t

/-- Stage 1 for charge (R49). -/
def chargeVoltageFactor (c : ConfigSet) (vmax : Option (Int × Nat)) : Int :=
  match vmax with
  | none => 0
  | some (v, _) =>
    if v ≤ c.chargeTaper then 1000
    else if c.chargeCeiling ≤ v then 0
    else 1000 * (c.chargeCeiling - v) / (c.chargeCeiling - c.chargeTaper)

/-- Stage 1 for discharge (R50). -/
def dischargeVoltageFactor (c : ConfigSet) (vmin : Option (Int × Nat)) : Int :=
  match vmin with
  | none => 0
  | some (v, _) =>
    if c.dischargeTaper ≤ v then 1000
    else if v ≤ c.dischargeFloor then 0
    else 1000 * (v - c.dischargeFloor) / (c.dischargeTaper - c.dischargeFloor)

/-- Stage 2 (R52): the smaller of the curve's values at Tmin and at Tmax. -/
def temperatureFactor (points : List (Int × Int)) (tmin tmax : Option (Int × Nat)) : Int :=
  match tmin, tmax with
  | some (lo, _), some (hi, _) => min (envelopeCurve points lo) (envelopeCurve points hi)
  | _, _ => 0

/-- Stage 4: the cooling factor Fk (R53). -/
def coolingFactor (c : ConfigSet) : CoolingState → Int
  | .normal => 1000
  | .degraded => c.degradedFactor
  | .lost => c.lostFactor

/-- The factors of one direction. -/
structure Factors where
  voltage : Int
  temperature : Int
  cooling : Int
  detection : Int
  deriving DecidableEq, Repr

/-- Stages 1, 2, 4 and 5 of a direction (R49 to R53). -/
def State.factors (s : State) (d : Direction) : Factors :=
  let a := s.table.aggregates
  match d with
  | .charge =>
    { voltage := chargeVoltageFactor s.config a.vmax,
      temperature := temperatureFactor s.config.chargeCurve a.tmin a.tmax,
      cooling := coolingFactor s.config s.thermal.cooling,
      detection := if s.fire.impaired then s.config.detectionCharge else 1000 }
  | .discharge =>
    { voltage := dischargeVoltageFactor s.config a.vmin,
      temperature := temperatureFactor s.config.dischargeCurve a.tmin a.tmax,
      cooling := coolingFactor s.config s.thermal.cooling,
      detection := if s.fire.impaired then s.config.detectionDischarge else 1000 }

/-- Stage 3: the base factor B (R53). -/
def Factors.base (f : Factors) : Int := min f.voltage f.temperature

/-- Stage 6: the combined factor F, each step floored (R53). -/
def Factors.combined (f : Factors) : Int := f.base * f.cooling / 1000 * f.detection / 1000

/-- Stage 7: the raw limit in amperes (R54). -/
def State.rawLimit (s : State) (d : Direction) : Nat :=
  ((s.config.ratedCurrent : Int) * (s.factors d).combined / 1000).toNat

/-- Stage 8: the smaller of the raw limit and the lowest cap (R55). -/
def cappedLimit (raw : Nat) (low : Option Nat) : Nat :=
  match low with
  | none => raw
  | some c => min raw c

/-- The causes of the gates that hold for a direction (R56); no other member is set. -/
def State.gates (s : State) (d : Direction) : LimitingSet :=
  { voltage := false, temperature := false, cooling := false, detection := false, curtail := false,
    rise := false,
    fire := s.fire.status.confirmed || (decide (d = .charge) && decide (s.fire.status = .watch)),
    permission := !s.conn.acPermission,
    dataLoss := s.table.dataLoss.holds,
    unconfigured := !s.config.configured }

/-- A gate holds for the direction. -/
def State.gated (s : State) (d : Direction) : Bool :=
  (s.gates d).fire || (s.gates d).permission || (s.gates d).dataLoss || (s.gates d).unconfigured

/-- Stages 1 to 8. While the part is UNCONFIGURED they are not computed (R48); the gate then makes the value 0. -/
def State.computedLimit (s : State) (d : Direction) : Nat :=
  cappedLimit (s.rawLimit d) (lowestCap d s.stack.entries)

/-- The highest value that a publication may give a direction (R57): the previous one, and at a SWEEP
publication one rise step more. -/
def riseCeiling (c : ConfigSet) (kind : PublicationKind) (previous : Nat) : Nat :=
  match kind with
  | .sweep => previous + c.riseStep
  | .change => previous

/-- The published current limit of a direction: stages 9 and 10 over stage 8 (R56, R57). -/
def State.newLimit (s : State) (d : Direction) (kind : PublicationKind) (previous : Nat) : Nat :=
  if s.gated d then 0 else min (s.computedLimit d) (riseCeiling s.config kind previous)

/-- The limiting set of a direction (R59). -/
def State.newSet (s : State) (d : Direction) (kind : PublicationKind) (previous : Nat) : LimitingSet :=
  if s.gated d then s.gates d
  else
    let f := s.factors d
    { voltage := decide (f.voltage < 1000) && decide (f.voltage ≤ f.temperature),
      temperature := decide (f.temperature < 1000) && decide (f.temperature ≤ f.voltage),
      cooling := decide (f.cooling < 1000),
      detection := decide (f.detection < 1000),
      curtail := decide (s.computedLimit d < s.rawLimit d),
      rise := decide (riseCeiling s.config kind previous < s.computedLimit d),
      fire := false, permission := false, dataLoss := false, unconfigured := false }

/-- Stage 11: the power limit in kW (R58). -/
def powerLimit (current vsum : Nat) : Nat := current * vsum / 1000000

/-- The record of a publication (R42, R46, R57 to R60). -/
def State.newRecord (s : State) (kind : PublicationKind) : EnvelopeRecord :=
  let old := s.envelope.record
  let charge := s.newLimit .charge kind old.chargeLimit
  let discharge := s.newLimit .discharge kind old.dischargeLimit
  { chargeLimit := charge, dischargeLimit := discharge,
    chargePower := powerLimit charge s.table.aggregates.vsum,
    dischargePower := powerLimit discharge s.table.aggregates.vsum,
    vsum := s.table.aggregates.vsum,
    chargeSet := s.newSet .charge kind old.chargeLimit,
    dischargeSet := s.newSet .discharge kind old.dischargeLimit,
    chargeGoverning := governing .charge s.stack.entries,
    dischargeGoverning := governing .discharge s.stack.entries,
    number := s.envelope.publicationNumber + 1, kind := kind,
    sweepNumber := s.table.sweepNumber }

/-- A publication: the new record replaces the old one whole, and the number advances by one (R42, R46). -/
def State.publish (s : State) (kind : PublicationKind) : State :=
  { s with
    envelope := { record := s.newRecord kind, publicationNumber := s.envelope.publicationNumber + 1 } }

/-- A limit has fallen: by at least the margin, or from above 0 to 0 (R61). -/
def limitFell (margin old new : Nat) : Bool :=
  (decide (new < old) && decide (margin ≤ old - new)) || (decide (0 < old) && decide (new = 0))

/-- ENVELOPE_FELL, when a limit fell between two records (R61). -/
def fellEvents (c : ConfigSet) (old new : EnvelopeRecord) : List Raised :=
  let charge := limitFell c.fallMargin old.chargeLimit new.chargeLimit
  let discharge := limitFell c.fallMargin old.dischargeLimit new.dischargeLimit
  if charge || discharge then [broadcast (.envelopeFell charge discharge)] else []

end Sys2Proof.Machine
end

