-- ==== Sys2Proof/Machine/Table.lean ====
section
/-! DEFINITION. The cell table (Chapter 2): building a snapshot, the aggregates, data loss, the hard-limit
flag, the fresh table, and the balancing selection. -/

namespace Sys2Proof.Machine

/-! ### Indices (section 0.6.4) -/

/-- The monitor address of a cell index. -/
def cellMonitor (i : Nat) : Nat := i / 12 + 1

/-- The position of a cell index. -/
def cellPosition (i : Nat) : Nat := i % 12

/-- The monitor address of a temperature-point index. -/
def pointMonitor (i : Nat) : Nat := i / 4 + 1

/-- The position of a temperature-point index. -/
def pointPosition (i : Nat) : Nat := i % 4

/-- A configured cell of a shape (R23). -/
def cellConfigured (monitors cells i : Nat) : Bool :=
  decide (cellMonitor i ≤ monitors) && decide (cellPosition i < cells)

/-- A configured point of a shape (R23). -/
def pointConfigured (monitors i : Nat) : Bool := decide (pointMonitor i ≤ monitors)

/-! ### Records of a snapshot -/

/-- A cell that is not configured (R23). -/
def blankCell : CellRecord := ⟨0, .unknown, false, false⟩

/-- A point that is not configured (R23). -/
def blankPoint : PointRecord := ⟨0, .unknown, false⟩

/-- A 14-bit code as a cell voltage with its saturated flag (R25). -/
def storedVoltage (code : Nat) : Nat × Bool := if code ≤ 5000 then (code, false) else (5000, true)

/-- A temperature character as a point record (R26). -/
def storedPoint (c : Nat) : PointRecord :=
  if c = 0 then ⟨0, .openSensor, false⟩
  else if c ≤ 165 then ⟨(c : Int) - 40, .known, false⟩
  else ⟨125, .known, true⟩

/-- A value held within bounds (R27). -/
def clampInt (low high i : Int) : Int := max low (min high i)

/-- The mask of an address's buffer entry, empty if the entry is (R10, R28). -/
def bufferMask (buffer : List (Option BufferEntry)) (address : Nat) : Mask :=
  match buffer.getD address none with
  | some e => e.mask
  | none => 0

/-- The values of an address's good buffer entry. -/
def bufferValues (buffer : List (Option BufferEntry)) (address : Nat) : Option ReplyValues :=
  match buffer.getD address none with
  | some ⟨.good v, _⟩ => some v
  | some ⟨.missed _, _⟩ => none
  | none => none

/-- The code that an address's good entry holds for a position. -/
def bufferCode (buffer : List (Option BufferEntry)) (address position : Nat) : Nat :=
  match bufferValues buffer address with
  | some (.cellMonitor codes _) => codes.getD position 0
  | some (.stringMonitor _ _) => 0
  | none => 0

/-- The temperature character that an address's good entry holds for a position. -/
def bufferTemperature (buffer : List (Option BufferEntry)) (address position : Nat) : Nat :=
  match bufferValues buffer address with
  | some (.cellMonitor _ temperatures) => temperatures.getD position 0
  | some (.stringMonitor _ _) => 0
  | none => 0

/-- The state of a monitor record at an address. -/
def monitorStateAt (states : List MonitorState) (address : Nat) : MonitorState :=
  states.getD address .unconfigured

/-- A cell of the new snapshot, from its monitor's state, the buffer, and its record in the previous snapshot
(R24, R25, R28). -/
def newCell (states : List MonitorState) (buffer : List (Option BufferEntry)) (monitors cells : Nat)
    (previous : CellRecord) (i : Nat) : CellRecord :=
  if cellConfigured monitors cells i then
    let m := cellMonitor i
    let bleeding := (bufferMask buffer m).getLsbD (cellPosition i)
    match monitorStateAt states m with
    | .present =>
      let v := storedVoltage (bufferCode buffer m (cellPosition i))
      ⟨v.1, .known, v.2, bleeding⟩
    | .missing => ⟨previous.voltage, .stale, previous.saturated, bleeding⟩
    | .absent => ⟨0, .unknown, false, bleeding⟩
    | .unconfigured => ⟨0, .unknown, false, bleeding⟩
  else blankCell

/-- A point of the new snapshot (R24, R26): one that was OPEN stays OPEN while its monitor is MISSING. -/
def newPoint (states : List MonitorState) (buffer : List (Option BufferEntry)) (monitors : Nat)
    (previous : PointRecord) (i : Nat) : PointRecord :=
  if pointConfigured monitors i then
    match monitorStateAt states (pointMonitor i) with
    | .present => storedPoint (bufferTemperature buffer (pointMonitor i) (pointPosition i))
    | .missing =>
      if previous.state = .openSensor then previous else { previous with state := .stale }
    | .absent => blankPoint
    | .unconfigured => blankPoint
  else blankPoint

/-- The string readings of the new snapshot (R24, R27). -/
def newString (states : List MonitorState) (buffer : List (Option BufferEntry)) (previous : StringReadings) :
    StringReadings :=
  match monitorStateAt states 0 with
  | .present =>
    match bufferValues buffer 0 with
    | some (.stringMonitor current dcLink) => ⟨clampInt (-2000) 2000 current, min dcLink 20000, .known⟩
    | some (.cellMonitor _ _) => ⟨0, 0, .unknown⟩
    | none => ⟨0, 0, .unknown⟩
  | .missing => { previous with state := .stale }
  | .absent => ⟨0, 0, .unknown⟩
  | .unconfigured => ⟨0, 0, .unknown⟩

/-! ### Aggregates (R29 to R31) -/

/-- The extreme of the present values from an index on, with the lowest index that holds it. -/
def extreme (better : Int → Int → Bool) : List (Option Int) → Nat → Option (Int × Nat)
  | [], _ => none
  | none :: rest, i => extreme better rest (i + 1)
  | some v :: rest, i =>
    match extreme better rest (i + 1) with
    | none => some (v, i)
    | some (w, j) => if better w v then some (w, j) else some (v, i)

/-- The voltage of a usable cell. -/
def usableVoltage (c : CellRecord) : Option Int := if c.state.usable then some (c.voltage : Int) else none

/-- The temperature of a usable point. -/
def usableTemperature (p : PointRecord) : Option Int := if p.state.usable then some p.temperature else none

def higher (a b : Int) : Bool := decide (b < a)
def lower (a b : Int) : Bool := decide (a < b)

/-- The number of configured cells in a state (R31). -/
def countCells (monitors cells : Nat) (records : List CellRecord) (st : ItemState) : Nat :=
  ((List.range 384).filter fun i =>
    cellConfigured monitors cells i && decide ((records.getD i blankCell).state = st)).length

/-- The aggregates of the records. Cells and points that are not configured are UNKNOWN and not usable. -/
def aggregatesOf (monitors cells : Nat) (records : List CellRecord) (points : List PointRecord) : Aggregates :=
  { vmax := extreme higher (records.map usableVoltage) 0,
    vmin := extreme lower (records.map usableVoltage) 0,
    vsum := (records.map fun c => if c.state.usable then c.voltage else 0).sum,
    tmax := extreme higher (points.map usableTemperature) 0,
    tmin := extreme lower (points.map usableTemperature) 0,
    knownCells := countCells monitors cells records .known,
    staleCells := countCells monitors cells records .stale,
    unknownCells := countCells monitors cells records .unknown }

/-! ### Data loss and hard limits -/

/-- The string monitor or a cell monitor of the shape is ABSENT (R32). -/
def absentMonitorIn (states : List MonitorState) (monitors : Nat) : Bool :=
  (List.range (monitors + 1)).any fun a => decide (monitorStateAt states a = .absent)

/-- Every configured point is OPEN or UNKNOWN (R32). -/
def noTemperatureIn (monitors : Nat) (points : List PointRecord) : Bool :=
  (List.range 128).all fun i =>
    !(pointConfigured monitors i) || !(points.getD i blankPoint).state.usable

/-- The hard-limit kinds that are true of the records (R35). -/
def hardLimitsOf (c : ConfigSet) (records : List CellRecord) (points : List PointRecord) : HardLimits :=
  { cellHigh := records.any fun r => r.state.usable && decide (c.hardMax ≤ (r.voltage : Int)),
    cellLow := records.any fun r => r.state.usable && decide ((r.voltage : Int) ≤ c.hardMin),
    tempHigh := points.any fun p => p.state.usable && decide (c.hardTemperature ≤ p.temperature) }

/-! ### Snapshots -/

/-- The new snapshot of a completed sweep (R22): the whole content of the table, from the monitor records after
their update and the sweep buffer. AGED becomes false and the age timer is started (R32, R33). -/
def CellTable.takeSnapshot (t : CellTable) (c : ConfigSet) (sweep : Serial) (records : List MonitorRecord)
    (buffer : List (Option BufferEntry)) : CellTable :=
  let monitors := c.monitorCount
  let cells := c.cellsPerMonitor
  let states := records.map MonitorRecord.state
  let cellRecords := (List.range 384).map fun i =>
    newCell states buffer monitors cells (t.cells.getD i blankCell) i
  let points := (List.range 128).map fun i =>
    newPoint states buffer monitors (t.points.getD i blankPoint) i
  { cells := cellRecords, points := points, string := newString states buffer t.string,
    monitorStates := states, shapeMonitors := monitors, shapeCells := cells, sweepNumber := sweep,
    aggregates := aggregatesOf monitors cells cellRecords points,
    dataLoss := ⟨absentMonitorIn states monitors, noTemperatureIn monitors points, false⟩,
    ageTimer := .running c.dataLossTime,
    hardLimits := hardLimitsOf c cellRecords points }

/-- The fresh table of CONFIG_ACCEPT (R40), from the monitor records after R15. -/
def CellTable.fresh (t : CellTable) (c : ConfigSet) (records : List MonitorRecord) : CellTable :=
  { cells := List.replicate 384 blankCell, points := List.replicate 128 blankPoint,
    string := ⟨0, 0, .unknown⟩, monitorStates := records.map MonitorRecord.state,
    shapeMonitors := c.monitorCount, shapeCells := c.cellsPerMonitor, sweepNumber := t.sweepNumber,
    aggregates := ⟨none, none, 0, none, none, 0, 0, c.monitorCount * c.cellsPerMonitor⟩,
    dataLoss := ⟨true, true, true⟩, ageTimer := .stopped, hardLimits := ⟨false, false, false⟩ }

/-! ### Balancing selection (R37, R38) -/

/-- A cell is a candidate for bleeding (R37). -/
def candidate (c : ConfigSet) (t : CellTable) (vmin : Int) (i : Nat) : Bool :=
  let r := t.cells.getD i blankCell
  cellConfigured t.shapeMonitors t.shapeCells i && decide (r.state = .known) &&
  decide (vmin + c.balanceWindow ≤ (r.voltage : Int)) && decide (c.balanceFloor ≤ (r.voltage : Int))

/-- The candidates of a monitor that come before a position in the order of choice: a higher voltage, or the
same at a lower position (R38). -/
def candidatesBefore (c : ConfigSet) (t : CellTable) (vmin : Int) (m position : Nat) : Nat :=
  let voltage := fun p => (t.cells.getD ((m - 1) * 12 + p) blankCell).voltage
  ((List.range 12).filter fun p =>
    candidate c t vmin ((m - 1) * 12 + p) &&
    (decide (voltage position < voltage p) || (decide (voltage p = voltage position) && decide (p < position)))).length

/-- A position of a monitor is chosen: a candidate with fewer than four before it (R38). -/
def chosen (c : ConfigSet) (t : CellTable) (vmin : Int) (m position : Nat) : Bool :=
  candidate c t vmin ((m - 1) * 12 + position) && decide (candidatesBefore c t vmin m position < 4)

/-- A mask given position by position. -/
def maskOf (f : Nat → Bool) : Mask :=
  BitVec.ofNat 12 (setCode ((List.range 12).map f))

/-- The five conditions of balancing at a send moment (R37), with the Vmin of the latest snapshot. -/
def State.balancingVmin (s : State) : Option Int :=
  match s.table.aggregates.tmax, s.table.aggregates.vmin with
  | some (t, _), some (v, _) =>
    if s.config.configured && s.config.balancing && decide (s.fire.status = .quiet) &&
        decide (t < s.config.balanceTemperature) && !s.table.dataLoss.holds then some v
    else none
  | _, _ => none

/-- The balance mask for cell monitor m at a send moment (R20, R37, R38). -/
def State.balanceMask (s : State) (m : Nat) : Mask :=
  match s.balancingVmin with
  | none => 0
  | some vmin => maskOf (chosen s.config s.table vmin m)

end Sys2Proof.Machine
end

