-- ==== Sys2Proof/Machine/Chain.lean ====
section
/-! DEFINITION. The chain controller (Chapter 1): the line's times, the sweep modes, exchanges and their
retries, and the monitor records. The completion of a sweep, in which other blocks act, is in
Machine/Sweep.lean. -/

namespace Sys2Proof.Machine

/-! ### The line's times (R2, R7) -/

/-- One character time in microseconds: 11 bit times of N + 1 µs, the bit rate being
16,000,000 / (16 × (N + 1)) (R2). -/
def charTime (divisor : Nat) : Nat := 11 * (divisor + 1)

/-- The time of a command frame of five characters (R4). -/
def frameTime (divisor : Nat) : Nat := 5 * charTime divisor

/-- The quiet interval before a frame: two character times (R7). -/
def quietTime (divisor : Nat) : Nat := 2 * charTime divisor

/-! ### Sweep modes (R13, R16 to R19) -/

/-- The deferred divisor, if one is held, becomes the active divisor (R3). -/
def ChainState.applyDivisor (c : ChainState) : ChainState :=
  match c.deferredDivisor with
  | some n => { c with divisor := n, deferredDivisor := none }
  | none => c

/-- A set BLEED_OFF request is served when the chain is IDLE: it is cleared, the chain becomes CLEARING and the
broadcast frame is due (R19). -/
def ChainState.serveBleedOff (c : ChainState) : ChainState :=
  if c.bleedOffRequest = true ∧ c.activity = .idle then
    { c with bleedOffRequest := false, activity := .clearing, link := .frameDue, exchange := none }
  else c

/-- The chain activity becomes IDLE (R3, R12, R18, R19): the deferred divisor is applied first. -/
def ChainState.becomeIdle (c : ChainState) : ChainState :=
  { c.applyDivisor with activity := .idle, link := .rest, exchange := none }

/-- The sweep mode becomes STOPPED from CONTINUOUS or SINGLE (R19). -/
def ChainState.stopMode (c : ChainState) : ChainState :=
  if c.mode = .stopped then c
  else
    { c with
      mode := .stopped, periodTimer := .stopped, due := false,
      bleedOffRequest := c.bleedOffRequest || decide (c.activity ≠ .clearing) }

/-- A sweep mode is entered that runs the period timer (R13). -/
def ChainState.startPeriod (c : ChainState) (period : Nat) : ChainState :=
  { c with mode := .continuous, periodTimer := .running period, periodLength := period }

/-- The mode becomes CONTINUOUS from STOPPED: the due mark is set (R13). -/
def ChainState.startContinuous (c : ChainState) (period : Nat) : ChainState :=
  { c.startPeriod period with due := true }

/-- No exchange is in progress: none is under way, or the one that is due next has not begun its first
attempt (section 1.3; log entry 9). -/
def ChainState.betweenExchanges (c : ChainState) : Bool :=
  match c.exchange with
  | none => true
  | some e => !e.begun

/-- The abort ends: the partial buffer is discarded and the chain becomes IDLE (R18). -/
def ChainState.endAbort (c : ChainState) : ChainState :=
  ({ c with buffer := List.replicate 33 none }).becomeIdle

/-- A sweep in progress is aborted: at once between two exchanges, and otherwise at the end of the exchange in
progress (R18). -/
def ChainState.abortSweep (c : ChainState) : ChainState :=
  if c.activity = .sweeping then
    if c.betweenExchanges then c.endAbort else { c with activity := .aborting }
  else c

/-- The stop that SWEEP_STOP and the leaving of CONFIGURED share: the mode becomes STOPPED, a sweep in progress
is aborted, and a BLEED_OFF request is served if the chain is IDLE (R18, R19). -/
def ChainState.stop (c : ChainState) : ChainState := c.stopMode.abortSweep.serveBleedOff

/-- SWEEP_STOP when it is taken (R18, R19): in STOPPED it sets the BLEED_OFF request, unless the chain is
ABORTING or CLEARING. -/
def ChainState.sweepStop (c : ChainState) : ChainState :=
  if c.mode = .stopped then
    if c.activity = .aborting ∨ c.activity = .clearing then c
    else ({ c with bleedOffRequest := true }).serveBleedOff
  else c.stop

/-- The chain divisor item has been written (R3): at once if the chain is IDLE, and otherwise deferred. -/
def ChainState.writeDivisor (c : ChainState) (n : Nat) : ChainState :=
  if c.activity = .idle then { c with divisor := n, deferredDivisor := none }
  else { c with deferredDivisor := some n }

/-! ### Sweeps and exchanges (R9 to R11) -/

/-- The exchange with an address is due: its frame waits for the line. -/
def ChainState.exchangeDue (c : ChainState) (address : Nat) : ChainState :=
  { c with
    exchange := some { address := address, begun := false, retry := false, mask := 0 }, link := .frameDue }

/-- A sweep begins when the due mark is set, the mode is CONTINUOUS or SINGLE, and the chain is IDLE (R11). -/
def ChainState.mayBegin (c : ChainState) : Bool :=
  c.due && decide (c.mode ≠ .stopped) && decide (c.activity = .idle)

/-- The sweep begins (R10, R11). -/
def ChainState.beginSweep (c : ChainState) : ChainState :=
  ({ c with due := false, activity := .sweeping, buffer := List.replicate 33 none }).exchangeDue 0

/-- The frame that is due is begun, and its mask held until its mask characters are sent (R4, R20). -/
def ChainState.sendFrame (c : ChainState) (frame : List ChainChar) (mask : Mask) (e : Option Exchange) :
    ChainState :=
  { c with
    link := .sending frame, linkTimer := .running (frameTime c.divisor), lineFree := false,
    pendingMask := mask, exchange := e }

/-- The line after an attempt that ended well: free at once (R7). -/
def ChainState.lineQuiet (c : ChainState) : ChainState := { c with lineFree := true, linkTimer := .stopped }

/-- The line after a failed attempt, with so much of the quiet interval still to pass (R7). -/
def ChainState.lineBusy (c : ChainState) (remaining : Nat) : ChainState :=
  if remaining = 0 then c.lineQuiet
  else { c with lineFree := false, linkTimer := .running remaining }

/-- The quiet still to pass after an attempt failed (R7): none after a gap, which is itself two character
times; after a reply timeout with nothing received, what two character times from the end of the command frame
exceed it by; and two character times after a character. -/
def quietLeft (divisor : Nat) (error : ErrorKind) (someReceived : Bool) : Nat :=
  match error with
  | .timeout => if someReceived then 0 else quietTime divisor - Length.replyTimeout
  | .framing | .check | .address | .monitorFault => quietTime divisor

/-- The same exchange again, as its retry (R9). -/
def ChainState.retryDue (c : ChainState) (e : Exchange) : ChainState :=
  { c with exchange := some { e with retry := true }, link := .frameDue }

/-- The outcome of an exchange stands in the buffer entry of its address (R9, R10). -/
def ChainState.fillEntry (c : ChainState) (e : Exchange) (o : ExchangeOutcome) : ChainState :=
  { c with buffer := c.buffer.set e.address (some { outcome := o, mask := e.mask }) }

/-! ### Monitor records (R14, R15) -/

/-- A record after a good exchange in the sweep of this number (R14). -/
def MonitorRecord.afterGood (_ : MonitorRecord) (sweep : Serial) : MonitorRecord :=
  { state := .present, missCount := 0, lastError := none, lastGood := some sweep }

/-- The state that follows a new miss count (R14). -/
def stateOfMisses (n : Nat) : MonitorState := if n ≤ 2 then .missing else .absent

/-- A record after a missed exchange with this error kind (R14). -/
def MonitorRecord.afterMiss (r : MonitorRecord) (e : ErrorKind) : MonitorRecord :=
  { r with
    state := stateOfMisses (min 255 (r.missCount + 1)), missCount := min 255 (r.missCount + 1),
    lastError := some e }

/-- The update of one record from its buffer entry (R14). -/
def MonitorRecord.update (r : MonitorRecord) (sweep : Serial) (entry : Option BufferEntry) : MonitorRecord :=
  match entry with
  | some ⟨.good _, _⟩ => r.afterGood sweep
  | some ⟨.missed e, _⟩ => r.afterMiss e
  | none => r

/-- The event that the update of one record raises (R14). -/
def MonitorRecord.events (r : MonitorRecord) (address : Nat) (entry : Option BufferEntry) : List Raised :=
  match entry with
  | some ⟨.good _, _⟩ =>
    if r.state = .missing ∨ r.state = .absent then [broadcast (.monitorReturned address r.missCount)] else []
  | some ⟨.missed e, _⟩ =>
    if r.missCount + 1 = 1 then (if r.state = .present then [broadcast (.monitorMissing address e)] else [])
    else if r.missCount + 1 = 3 then [broadcast (.monitorAbsent address e)]
    else []
  | none => []

/-- A record that has never been heard of (R15). -/
def unconfiguredRecord : MonitorRecord := ⟨.unconfigured, 0, none, none⟩

/-- A record as acceptance leaves it (R15). -/
def absentRecord : MonitorRecord := ⟨.absent, 3, none, none⟩

/-- The record at an address. -/
def recordAt (records : List MonitorRecord) (address : Nat) : MonitorRecord :=
  records.getD address unconfiguredRecord

/-- The records after a completion: those at an address from 0 to the monitor count (R14). -/
def updateRecords (records : List MonitorRecord) (count : Nat) (sweep : Serial)
    (buffer : List (Option BufferEntry)) : List MonitorRecord :=
  (List.range 33).map fun a =>
    if a ≤ count then (recordAt records a).update sweep (buffer.getD a none) else recordAt records a

/-- The events of the updates, in rising order of address (R12). -/
def updateEvents (records : List MonitorRecord) (count : Nat) (buffer : List (Option BufferEntry)) :
    List Raised :=
  (List.range 33).flatMap fun a =>
    if a ≤ count then (recordAt records a).events a (buffer.getD a none) else []

/-- A write of the monitor count has been taken (R15). -/
def recordsAfterCount (records : List MonitorRecord) (count : Nat) : List MonitorRecord :=
  (List.range 33).map fun a => if a ≤ count then recordAt records a else unconfiguredRecord

/-- CONFIG_ACCEPT has been taken (R15). -/
def recordsAfterAccept (records : List MonitorRecord) (count : Nat) : List MonitorRecord :=
  (List.range 33).map fun a => if a ≤ count then absentRecord else recordAt records a

end Sys2Proof.Machine
end

