-- ==== Sys2Proof/Machine/Watch.lean ====
section
/-! DEFINITION. The watch table (Chapter 5): the validity of a specification, claims and releases, and the
evaluation at a sweep completion. -/

namespace Sys2Proof.Machine

/-- The top of a quantity's index range (section 5.1). -/
def Quantity.top : Quantity → Nat
  | .cellV => 383
  | .cellT => 127
  | .stringI => 0
  | .dcLinkV => 0
  | .detector => 15

/-- A cap of a specification lies between 0 and 1000 A (R78). -/
def capValid (cap : Option Nat) : Bool :=
  match cap with
  | none => true
  | some c => decide (c ≤ 1000)

/-- A specification is valid for slot k (R78). The codes of its enumerations were read before. -/
def WatchSpec.valid (w : WatchSpec) (k : Nat) : Bool :=
  decide (w.first ≤ w.last) && decide (w.last ≤ w.quantity.top) &&
  (decide (w.quantity ≠ .detector) || (decide (0 ≤ w.threshold) && decide (w.threshold ≤ 255))) &&
  (decide (w.action ≠ .curtail) ||
    ((w.chargeCap.isSome || w.dischargeCap.isSome) && capValid w.chargeCap && capValid w.dischargeCap)) &&
  !(w.chain && decide (k = 7))

/-- A specification as a slot holds it: the caps of a NOTIFY action are discarded (R78). -/
def WatchSpec.held (w : WatchSpec) : WatchSpec :=
  if w.action = .curtail then w else { w with chargeCap := none, dischargeCap := none }

/-- Slot k is claimed by the port. -/
def claimedBy (slots : List (Option Claim)) (p : Port) (k : Nat) : Bool :=
  match slots.getD k none with
  | some c => decide (c.owner = p)
  | none => false

/-- The chain flag that slot k holds now. -/
def chainFlag (slots : List (Option Claim)) (k : Nat) : Bool :=
  match slots.getD k none with
  | some c => c.spec.chain
  | none => false

/-- The handle of slot k's entry, if it holds one. -/
def slotEntry (slots : List (Option Claim)) (k : Nat) : Option Nat :=
  match slots.getD k none with
  | some c => c.entry
  | none => none

/-- The stack without a slot's entry. -/
def StackState.dropEntry (st : StackState) (handle : Option Nat) : StackState :=
  match handle with
  | some h => st.remove h
  | none => st

/-- A claimed slot with its condition false, its starved flag clear and its entry absent. -/
def Claim.cleared (c : Claim) : Claim := { c with condition := false, starved := false, entry := none }

/-- Slot k with its condition, starved flag and entry cleared (R81). -/
def clearSlot (slots : List (Option Claim)) (k : Nat) : List (Option Claim) :=
  match slots.getD k none with
  | some c => slots.set k (some c.cleared)
  | none => slots

/-- Slot k becomes or ceases to be chained from above: its entry is removed from the stack, its condition
becomes false and its starved flag is cleared (R81). -/
def State.rechained (s : State) (k : Nat) : State :=
  { s with stack := s.stack.dropEntry (slotEntry s.slots k), slots := clearSlot s.slots k }

/-- A claim that passed its checks is taken (R79 to R81): a slot's old entry is removed, the specification is
written, and slot k + 1 is cleared if its being chained from above changes. -/
def State.takeClaim (s : State) (p : Port) (k : Nat) (w : WatchSpec) : State :=
  let chainChanges := decide (chainFlag s.slots k ≠ w.chain)
  let s' : State :=
    { s with
      stack := s.stack.dropEntry (slotEntry s.slots k),
      slots := s.slots.set k
        (some { owner := p, spec := w.held, condition := false, starved := false, entry := none }) }
  if chainChanges then s'.rechained (k + 1) else s'

/-- A release that passed its checks is taken (R82). -/
def State.takeRelease (s : State) (k : Nat) : State :=
  let chained := chainFlag s.slots k
  let s' : State :=
    { s with stack := s.stack.dropEntry (slotEntry s.slots k), slots := s.slots.set k none }
  if chained then s'.rechained (k + 1) else s'

/-- A port reset releases every slot that the port has claimed, with their entries (R83). -/
def State.releasePort (s : State) (p : Port) : State :=
  { s with
    stack :=
      { s.stack with
        entries := s.stack.entries.filter fun e =>
          match e.owner with
          | .slot k => !claimedBy s.slots p k
          | .port _ => true },
    slots := s.slots.map fun o =>
      match o with
      | some c => if c.owner = p then none else some c
      | none => none }

/-! ### Evaluation (R85 to R91) -/

/-- The value of an item of a quantity when it is usable (R85). -/
def State.watchValue (s : State) (q : Quantity) (i : Nat) : Option Int :=
  match q with
  | .cellV => usableVoltage (s.table.cells.getD i blankCell)
  | .cellT => usableTemperature (s.table.points.getD i blankPoint)
  | .stringI => if s.table.string.state.usable then some s.table.string.current else none
  | .dcLinkV => if s.table.string.state.usable then some (s.table.string.dcLink : Int) else none
  | .detector =>
    if inService (s.config.detectorKind i) (s.fire.detector i) then some ((s.fire.detector i).level : Int)
    else none

/-- A value satisfies a comparison (R85). -/
def Comparison.satisfied (c : Comparison) (threshold v : Int) : Bool :=
  match c with
  | .ge => decide (threshold ≤ v)
  | .lt => decide (v < threshold)

/-- An item of the slot's range is usable and satisfies its comparison (R85). -/
def State.itemSatisfies (s : State) (w : WatchSpec) (i : Nat) : Bool :=
  match s.watchValue w.quantity i with
  | some v => w.comparison.satisfied w.threshold v
  | none => false

/-- The lowest index of the slot's range whose item satisfies the comparison (R88). -/
def State.firstHit (s : State) (w : WatchSpec) : Option Nat :=
  ((List.range (w.last + 1 - w.first)).map fun j => w.first + j).find? fun i => s.itemSatisfies w i

/-- The own condition of a slot (R85). -/
def State.ownCondition (s : State) (k : Nat) : Bool :=
  match s.claim k with
  | some c => (s.firstHit c.spec).isSome
  | none => false

/-- The effective condition of a slot (R86): with its chain flag set, together with the own condition of the
next slot. -/
def State.effectiveCondition (s : State) (k : Nat) : Bool :=
  s.ownCondition k && (!chainFlag s.slots k || s.ownCondition (k + 1))

/-- A slot acts when it is claimed and not chained from above (R86). -/
def State.acts (s : State) (k : Nat) : Bool := (s.claim k).isSome && !chainedFromAbove s.slots k

/-- An acting CURTAIL slot. -/
def State.curtails (s : State) (k : Nat) : Bool :=
  s.acts k &&
  match s.claim k with
  | some c => decide (c.spec.action = .curtail)
  | none => false

/-- The events of an acting NOTIFY slot (R88). -/
def State.notifyEvents (s : State) (k : Nat) : List Raised :=
  match s.claim k with
  | none => []
  | some c =>
    if !s.acts k then []
    else
      let now := s.effectiveCondition k
      match c.spec.action with
      | .curtail => []
      | .notifyRise =>
        if now && !c.condition then [directed c.owner (.watchHit k ((s.firstHit c.spec).getD 0))] else []
      | .notifyBoth =>
        if now && !c.condition then [directed c.owner (.watchHit k ((s.firstHit c.spec).getD 0))]
        else if !now && c.condition then [directed c.owner (.watchCleared k)]
        else []

/-- A slot at an evaluation, before the pushes: its condition is written, and an acting CURTAIL slot whose
condition is false loses its entry and its starved flag (R87, R89). -/
def State.evaluatedSlot (s : State) (k : Nat) : Option Claim :=
  match s.claim k with
  | none => none
  | some c =>
    if s.curtails k && !s.effectiveCondition k then
      some { c with condition := false, entry := none, starved := false }
    else some { c with condition := s.effectiveCondition k }

/-- The handles of the entries that an evaluation removes (R89). -/
def State.removedHandles (s : State) : List Nat :=
  (List.range 8).filterMap fun k =>
    if s.curtails k && !s.effectiveCondition k then slotEntry s.slots k else none

/-- The slots that push at an evaluation (R89): decided before any push is made (R87, step 2). -/
def State.pushers (s : State) : List Nat :=
  (List.range 8).filter fun k =>
    s.curtails k && s.effectiveCondition k && (slotEntry s.slots k).isNone

/-- The slots with one of them holding its new entry, its starved flag cleared (R89). -/
def holdEntry (slots : List (Option Claim)) (k handle : Nat) : List (Option Claim) :=
  match slots.getD k none with
  | some c => slots.set k (some { c with entry := some handle, starved := false })
  | none => slots

/-- One slot's push (R73, R89 to R91). -/
def State.pushSlot (s : State) (k : Nat) : Change :=
  match s.claim k with
  | none => Change.quiet s
  | some c =>
    let body : EntryBody :=
      { owner := .slot k, origin := .watch, chargeCap := clampCap s.config.ratedCurrent c.spec.chargeCap,
        dischargeCap := clampCap s.config.ratedCurrent c.spec.dischargeCap, remaining := none }
    match s.stack.push s.slots c.owner body with
    | .pushed st h displaced =>
      let after := s.afterPush st h displaced
      ⟨{ after.st with slots := holdEntry after.st.slots k h }, after.raised⟩
    | .full =>
      ⟨{ s with slots := s.slots.set k (some { c with starved := true }) },
        if c.starved then [] else [directed c.owner (.watchStarved k)]⟩

/-- The pushes of an evaluation, in rising order of slot number, each against the stack as the ones before it
have left it (R73, R87). -/
def State.pushSlots (s : State) : List Nat → Change
  | [] => Change.quiet s
  | k :: rest => (s.pushSlot k).andThen fun t => t.pushSlots rest

/-- The evaluation of the watch table at a sweep completion (R87). -/
def State.evaluateWatch (s : State) : Change :=
  let s' : State :=
    { s with
      slots := (List.range 8).map s.evaluatedSlot,
      stack := { s.stack with entries := s.stack.entries.filter fun e => !(s.removedHandles.contains e.handle) } }
  (s'.pushSlots s.pushers).raise ((List.range 8).flatMap s.notifyEvents)

end Sys2Proof.Machine
end

