-- ==== Sys2Proof/Machine/Thermal.lean ====
section
/-! DEFINITION. The thermal controller (Chapter 6): forcing, demand and the selected duty, the damper, tach
supervision and the cooling state. -/

namespace Sys2Proof.Machine

/-- The minimum running duty (R99), which is also the lowest duty at which a tach channel is armed (R105). -/
def minimumDuty : Nat := 200

/-! ### Fire forcing (R103) -/

/-- The cause set is exactly OFFGAS. -/
def CauseSet.offgasAlone (c : CauseSet) : Bool := c.offgas && !c.smoke && !c.heat && !c.manual && !c.panel

/-- The value that the fire state imposes on each duty channel, or none (R103). -/
def fireForcing (status : FireStatus) (causes : CauseSet) : Channels (Option Nat) :=
  match status with
  | .quiet => ⟨none, none, none, none, none⟩
  | .watch => ⟨none, none, none, if causes.offgas then some 1000 else none, some 0⟩
  | .alarm | .countdown | .held =>
    ⟨some 0, some 0, none, if causes.offgasAlone then some 1000 else some 0, some 0⟩
  | .released => ⟨some 0, some 0, none, some 0, some 0⟩

/-- The forcing holds a tach channel at 0 (R108); the pump is never forced. -/
def heldAtZero (forcing : Channels (Option Nat)) (c : TachChannel) : Bool :=
  decide (forcing.get (dutyOf c) = some 0)

/-! ### Demand and selection (R96, R99 to R101) -/

/-- The fan demand of a Tmax (R99). -/
def fanDemandOf (points : List (Int × Int)) (tmax : Option (Int × Nat)) : Nat :=
  match tmax with
  | none => 0
  | some (t, _) =>
    let raw := (curveAt points (fun _ => 0) t).toNat
    if 0 < raw ∧ raw < minimumDuty then minimumDuty else raw

/-- The heater state after a completion (R101). -/
def heaterAfter (c : ConfigSet) (tmin : Option (Int × Nat)) (on : Bool) : Bool :=
  match tmin with
  | none => false
  | some (t, _) => if t < c.heatOn then true else if c.heatOff ≤ t then false else on

/-- The automatic demand of a channel (R100), with the blind duty given. -/
def automaticDemand (blind : Nat) (dataLoss : Bool) (closed : Bool) (status : FireStatus) (fanDemand : Nat)
    (heaterOn : Bool) : DutyChannel → Nat
  | .fanA => if dataLoss then blind else fanDemand
  | .fanB => if dataLoss then blind else fanDemand
  | .pump => if dataLoss then blind else if closed = true ∨ 0 < fanDemand then 600 else 0
  | .exhaust => 0
  | .heater =>
    if dataLoss then 0
    else if heaterOn = true ∧ fanDemand = 0 ∧ status = .quiet then 1000 else 0

/-- The selected duty of a channel: the first row of R96's table that applies. -/
def selectedDuty (configured : Bool) (forced : Option Nat) (r : ChannelRecord) : Nat :=
  if !configured then 0
  else
    match forced with
    | some d => d
    | none =>
      match r.mode with
      | .manual => r.manual.getD 0
      | .auto => r.automatic

/-- A channel returned to AUTO (R98). -/
def ChannelRecord.toAuto (r : ChannelRecord) : ChannelRecord := { r with mode := .auto, manual := none }

/-- Every duty channel returned to AUTO (R98). -/
def ThermalState.allAuto (t : ThermalState) : ThermalState :=
  { t with channels := Channels.of fun c => (t.channels.get c).toAuto }

/-- The damper is commanded open while the active duty of FAN_A, FAN_B or EXHAUST is above 0 (R102). -/
def damperOf (channels : Channels ChannelRecord) : Bool :=
  decide (0 < channels.fanA.active) || decide (0 < channels.fanB.active) || decide (0 < channels.exhaust.active)

/-! ### Tach supervision (R104 to R109) -/

/-- A channel is armed (R105). -/
def armed (c : ConfigSet) (forcing : Channels (Option Nat)) (channels : Channels ChannelRecord)
    (ch : TachChannel) (r : TachRecord) : Bool :=
  decide (minimumDuty ≤ (channels.get (dutyOf ch)).active) && decide (r.grace = .runOut) &&
  !heldAtZero forcing ch && decide (0 < c.tachMinimum ch) &&
  (decide (r.check = .healthy) || decide (r.check = .trying))

/-- A channel is faulted (section 6.6). -/
def CheckState.isFaulted : CheckState → Bool
  | .healthy => false
  | .faulted | .trying | .latched => true

/-- The forcing comes to hold the channel at 0: the grace timer is stopped and a running retry timer paused
(R105, R108). The grace timer is stopped in every check state, LATCHED among them (DEDUCED, log entry 31). -/
def TachRecord.suspend (r : TachRecord) : TachRecord :=
  { r with
    grace := .stopped,
    retry := match r.retry with
      | .running n => .paused n
      | .stopped => .stopped
      | .paused n => .paused n
      | .runOut => .runOut }

/-- The forcing ceases to hold the channel at 0: the grace timer starts from full and a paused retry timer
resumes (R105, R108), in every check state, LATCHED among them (DEDUCED, log entry 31). -/
def TachRecord.resume (r : TachRecord) : TachRecord :=
  { r with
    grace := .running Length.grace,
    retry := match r.retry with
      | .paused n => .running n
      | .stopped => .stopped
      | .running n => .running n
      | .runOut => .runOut }

/-- The grace timer is started from full, except while the forcing holds the channel at 0 (R105). -/
def TachRecord.startGrace (r : TachRecord) (held : Bool) : TachRecord :=
  { r with grace := if held then .stopped else .running Length.grace }

/-- What an event that may change the forcing does to a tach record (R105, R108): the forcing takes hold of it,
lets go of it, or the active duty rises from 0. -/
def TachRecord.follow (r : TachRecord) (wasHeld held : Bool) (oldActive newActive : Nat) : TachRecord :=
  if held && !wasHeld then r.suspend
  else if !held && wasHeld then r.resume
  else if oldActive = 0 ∧ 0 < newActive then r.startGrace held
  else r

/-- The verdict on a valid window (R106). -/
def TachRecord.judge (r : TachRecord) (rate minimum : Nat) : TachRecord :=
  match r.check with
  | .healthy =>
    if minimum ≤ rate then r
    else { r with check := .faulted, retries := 0, retry := .running Length.retry }
  | .trying =>
    if minimum ≤ rate then { r with check := .healthy, retries := 0 }
    else if 3 ≤ r.retries + 1 then { r with check := .latched, retries := r.retries + 1, retry := .stopped }
    else { r with check := .faulted, retries := r.retries + 1, retry := .running Length.retry }
  | .faulted => r
  | .latched => r

/-- The event of a verdict: none for a TRYING channel that is FAULTED again (R106). -/
def judgeEvents (ch : TachChannel) (old new : CheckState) : List Raised :=
  if old = new then []
  else if old = .trying ∧ new = .faulted then []
  else [broadcast (.coolingFault ch new)]

/-- The cooling state that follows from the check states (R110). -/
def coolingOf (tachs : Tachs TachRecord) : CoolingState :=
  if tachs.pump.check.isFaulted || (tachs.fanA.check.isFaulted && tachs.fanB.check.isFaulted) then .lost
  else if tachs.fanA.check.isFaulted || tachs.fanB.check.isFaulted then .degraded
  else .normal

/-- The check states have changed: the cooling state is derived afresh (R110). -/
def ThermalState.withTachs (t : ThermalState) (tachs : Tachs TachRecord) : ThermalState :=
  { t with tachs := tachs, cooling := coolingOf tachs }

/-- The end of a window for one channel: the measured rate is taken, capped at 65535, the count restarts, and
a window in which the channel was armed throughout is judged (R104 to R106). -/
def State.windowEnd (s : State) (ch : TachChannel) : TachRecord :=
  let r := s.thermal.tachs.get ch
  let counted : TachRecord := { r with rate := min 65535 r.pulses, pulses := 0 }
  if r.armedSinceStart && armed s.config s.thermal.forcing s.thermal.channels ch r then
    counted.judge counted.rate (s.config.tachMinimum ch)
  else counted

/-! ### Deriving the channels afresh (R95, R96, R100, R102, R105) -/

/-- The automatic demands are derived afresh in the events that R100 names: a sweep completion, and a change of
the data-loss state, of the connection into or out of CLOSED, of the fire state into or out of QUIET, or of the
configuration state. -/
def demandDue (sweep : Bool) (before after : State) : Bool :=
  sweep || decide (before.table.dataLoss ≠ after.table.dataLoss) ||
  decide (before.conn.connection.isClosed ≠ after.conn.connection.isClosed) ||
  decide ((before.fire.status = .quiet) ≠ (after.fire.status = .quiet)) ||
  decide (before.config.configured ≠ after.config.configured)

/-- A channel with its automatic demand derived afresh if that is due. A CONFIG_WRITE that leaves CONFIGURED
does so before its value is stored (R182), so the blind duty is the one held before the event. -/
def rederivedDemand (due : Bool) (before after : State) (c : DutyChannel) : ChannelRecord :=
  let r := after.thermal.channels.get c
  if due then
    { r with
      automatic := automaticDemand before.config.blindDuty after.table.dataLoss.holds
        after.conn.connection.isClosed after.fire.status after.thermal.fanDemand after.thermal.heaterOn c }
  else r

/-- A channel with its selected duty derived afresh (R95, R96): a change of its forcing reaches the active duty
at once, any other change of the selected duty waits in the shadow. -/
def reselected (configured : Bool) (oldForced newForced : Option Nat) (r : ChannelRecord) : ChannelRecord :=
  let d := selectedDuty configured newForced r
  if oldForced ≠ newForced then { r with selected := d, shadow := d, active := d }
  else if d ≠ r.selected then { r with selected := d, shadow := d }
  else r

/-- The thermal controller at the end of an event: forcing, demands, selected duties, damper and tach records
follow what the event has changed (R95, R96, R100, R102, R103, R105, R108). -/
def rederiveThermal (sweep : Bool) (before after : State) : ThermalState :=
  let t := after.thermal
  let forcing := fireForcing after.fire.status after.fire.causes
  let due := demandDue sweep before after
  let channels := Channels.of fun c =>
    reselected after.config.configured (t.forcing.get c) (forcing.get c) (rederivedDemand due before after c)
  let tachs := Tachs.of fun ch =>
    let r := (t.tachs.get ch).follow (heldAtZero t.forcing ch) (heldAtZero forcing ch)
      (t.channels.get (dutyOf ch)).active (channels.get (dutyOf ch)).active
    { r with armedSinceStart := r.armedSinceStart && armed after.config forcing channels ch r }
  { t with forcing := forcing, channels := channels, damperOpen := damperOf channels, tachs := tachs }

/-- The channels at a period start: each shadow duty becomes the active duty (R95). -/
def ThermalState.shadowsTaken (t : ThermalState) : Channels ChannelRecord :=
  Channels.of fun c => { t.channels.get c with active := (t.channels.get c).shadow }

/-- The thermal controller at a period start (R93, R95, R102, R105): the period, alignments and polarities
written since take effect, and a tach channel whose active duty rises from 0 starts its grace timer. -/
def ThermalState.periodStart (t : ThermalState) (c : ConfigSet) : ThermalState :=
  let channels := t.shadowsTaken
  let tachs := Tachs.of fun ch =>
    let held := heldAtZero t.forcing ch
    let r := (t.tachs.get ch).follow held held (t.channels.get (dutyOf ch)).active (channels.get (dutyOf ch)).active
    { r with armedSinceStart := r.armedSinceStart && armed c t.forcing channels ch r }
  { t with
    pwm :=
      { period := c.pwmPeriod, left := c.pwmPeriod, centred := c.centred, activeLow := c.activeLow,
        releaseActiveLow := c.releaseActiveLow },
    channels := channels, damperOpen := damperOf channels, tachs := tachs }

end Sys2Proof.Machine
end

