-- ==== Sys2Proof/Machine/Fire.lean ====
section
/-! DEFINITION. The fire controller (Chapter 7): detector runs and states, the panel record, confirmation, the
fire state with its cause set, the hold, and the reset. -/

namespace Sys2Proof.Machine

/-! ### Detectors (R116 to R119, R121, R122) -/

/-- A run count after a sample: one more, stopping at 255, or 0 (R116). -/
def bump (run : Nat) (meets : Bool) : Nat := if meets then min 255 (run + 1) else 0

/-- A level that an in-order detector can give (section 7.1). -/
def inRange (level : Nat) : Bool := decide (1 ≤ level) && decide (level ≤ 254)

/-- The run counts after a sample (R116); a MANUAL detector keeps no pre run and no clear run. -/
def Detector.runsAfter (d : Detector) (c : ConfigSet) (k : DetectorKind) (level : Nat) : Detector :=
  { d with
    level := level,
    faultRun := bump d.faultRun (!inRange level),
    inRangeRun := bump d.inRangeRun (inRange level),
    preRun := if k = .manual then 0
      else bump d.preRun (inRange level && decide (c.preThreshold k ≤ level)),
    alarmRun := bump d.alarmRun (inRange level && decide (c.alarmThreshold k ≤ level)),
    clearRun := if k = .manual then 0
      else bump d.clearRun (inRange level && decide (level + 8 < c.preThreshold k)) }

/-- The state that a detector's counts give after a sample (R117 to R119, R121). -/
def Detector.stateAfter (d : Detector) : DetectorState :=
  match d.state with
  | .normal =>
    if 3 ≤ d.faultRun then .fault
    else if 3 ≤ d.alarmRun then .alarm
    else if 3 ≤ d.preRun then .pre
    else .normal
  | .pre =>
    if 3 ≤ d.faultRun then .fault
    else if 3 ≤ d.alarmRun then .alarm
    else if 10 ≤ d.clearRun then .normal
    else .pre
  | .alarm => .alarm
  | .fault => if 10 ≤ d.inRangeRun then .normal else .fault
  | .disabled => .disabled

/-- The judging runs set to 0 (R119, R120, R134). -/
def Detector.clearRuns (d : Detector) : Detector := { d with preRun := 0, alarmRun := 0, clearRun := 0 }

/-- All run counts set to 0 (R120 to R122). -/
def Detector.zeroRuns (d : Detector) : Detector := { d.clearRuns with faultRun := 0, inRangeRun := 0 }

/-- A detector after a sample. One of kind NONE keeps no run counts and takes no state (R116, section 7.1); one
that returns from FAULT starts its judging runs from 0 (R119). -/
def Detector.sample (d : Detector) (c : ConfigSet) (k : DetectorKind) (level : Nat) : Detector :=
  if k = .none then { d with level := level }
  else
    let r := d.runsAfter c k level
    if d.state = .fault ∧ r.stateAfter = .normal then { r.clearRuns with state := .normal }
    else { r with state := r.stateAfter }

/-- A detector disabled for 8 h (R121). -/
def Detector.disable (d : Detector) : Detector :=
  { d.zeroRuns with disablement := some Length.disablement, state := .disabled }

/-- A disablement ends (R122). -/
def Detector.enable (d : Detector) : Detector :=
  { d.zeroRuns with disablement := none, state := .normal }

/-- A detector whose kind has been written (R120). -/
def Detector.kindWritten (d : Detector) : Detector :=
  match d.disablement with
  | none => { d.zeroRuns with state := .normal }
  | some _ => d.zeroRuns

/-- The fire controller with one detector record replaced. -/
def FireControl.setDetector (f : FireControl) (i : Nat) (d : Detector) : FireControl :=
  { f with detectors := f.detectors.set i d }

/-! ### Confirmation and causes (R126 to R129) -/

/-- The kinds of the detectors with a property of kind and index, with PANEL as given. -/
def causesOf (c : ConfigSet) (q : DetectorKind → Nat → Bool) (panel : Bool) : CauseSet :=
  let has := fun k => (List.range 16).any fun i => decide (c.detectorKind i = k) && q k i
  { offgas := has .offgas, smoke := has .smoke, heat := has .heat, manual := has .manual, panel := panel }

/-- One or more in-service detectors are in PRE or ALARM (R127). -/
def anyAlerted (c : ConfigSet) (f : FireControl) : Bool :=
  (List.range 16).any fun i => alerted (c.detectorKind i) (f.detector i)

/-- A detector of the kind is in service and in ALARM. -/
def alarmedOf (c : ConfigSet) (f : FireControl) (k : DetectorKind) : Bool :=
  (List.range 16).any fun i => decide (c.detectorKind i = k) && decide (k ≠ .none) &&
    decide ((f.detector i).state = .alarm)

/-- A fire is confirmed (R126). A SMOKE detector in ALARM is itself one of the alerted, so it has a partner when
two or more are. -/
def confirmedNow (c : ConfigSet) (f : FireControl) : Bool :=
  alarmedOf c f .offgas || alarmedOf c f .heat || alarmedOf c f .manual ||
  (alarmedOf c f .smoke && decide (2 ≤ detectorCount c f alerted)) || f.panelLatch

/-- The cause set of WATCH, or of a confirmation: the kinds in PRE or ALARM now (R127, R128). -/
def causesNow (c : ConfigSet) (f : FireControl) (panel : Bool) : CauseSet :=
  causesOf c (fun k i => alerted k (f.detector i)) panel

/-- The members of either set. -/
def CauseSet.union (a b : CauseSet) : CauseSet :=
  ⟨a.offgas || b.offgas, a.smoke || b.smoke, a.heat || b.heat, a.manual || b.manual, a.panel || b.panel⟩

/-- The empty cause set. -/
def CauseSet.empty : CauseSet := ⟨false, false, false, false, false⟩

/-- While no fire is confirmed the fire state is WATCH or QUIET by the detectors (R127). -/
def FireControl.watchOrQuiet (f : FireControl) (c : ConfigSet) : FireControl :=
  if anyAlerted c f then { f with status := .watch, causes := causesNow c f false }
  else { f with status := .quiet, causes := .empty }

/-- The derivation outside a sampling event (R127): in QUIET or WATCH alone. -/
def FireControl.reassess (f : FireControl) (c : ConfigSet) : FireControl :=
  if f.status.confirmed then f else f.watchOrQuiet c

/-- The entry into a confirmed state (R128). -/
def FireControl.confirm (f : FireControl) (c : ConfigSet) : FireControl :=
  let causes := causesNow c f f.panelLatch
  if !c.autoRelease then { f with status := .alarm, causes := causes }
  else if f.hold then { f with status := .held, causes := causes }
  else { f with status := .countdown, causes := causes, countdown := .running c.releaseDelay }

/-- What the hold does to the fire state (R131). -/
def FireControl.applyHold (f : FireControl) (c : ConfigSet) : FireControl :=
  match f.status with
  | .countdown => if f.hold then { f with status := .held, countdown := .stopped } else f
  | .held => if f.hold then f else { f with status := .countdown, countdown := .running c.releaseDelay }
  | .quiet | .watch | .alarm | .released => f

/-- The growth of the cause set in a confirmed state: the kinds that enter PRE or ALARM at this event, and PANEL
when the latch is set at it (R129). -/
def causesGrown (c : ConfigSet) (before after : FireControl) : CauseSet :=
  before.causes.union
    (causesOf c
      (fun k i => alerted k (after.detector i) && decide ((before.detector i).state ≠ (after.detector i).state))
      (after.panelLatch && !before.panelLatch))

/-- The detectors after a sampling event (R114, steps 1 and 2). -/
def sampledDetectors (c : ConfigSet) (f : FireControl) (levels : List Byte) : List Detector :=
  (List.range 16).map fun i => (f.detector i).sample c (c.detectorKind i) (levels.getD i 0).toNat

/-- The sampling event inside the fire controller (R114): detectors, panel record, HOLD line sample, and then
the fire state and the cause set. -/
def FireControl.sampling (f : FireControl) (c : ConfigSet) (levels : List Byte) (panel hold : Bool) :
    FireControl :=
  let run := bump f.panelRun panel
  let g : FireControl :=
    { f with
      detectors := sampledDetectors c f levels, panelRun := run,
      panelLatch := f.panelLatch || decide (3 ≤ run), holdSample := hold, samplingLeft := Length.sampling }
  if f.status.confirmed then { g.applyHold c with causes := causesGrown c f g }
  else if confirmedNow c g then g.confirm c
  else g.watchOrQuiet c

/-! ### Release and reset (R131 to R134) -/

/-- RELEASED is entered: the countdown, if it runs, is stopped (R131, R132). -/
def FireControl.release (f : FireControl) : FireControl := { f with status := .released, countdown := .stopped }

/-- One detector passes the level test of FIRE_RESET (R134). -/
def resetLevelOk (c : ConfigSet) (k : DetectorKind) (d : Detector) : Bool :=
  !inService k d || !inRange d.level || decide (d.level < c.preThreshold k)

/-- The level test of FIRE_RESET (R134). -/
def FireControl.resetAllowed (f : FireControl) (c : ConfigSet) : Bool :=
  (List.range 16).all fun i => resetLevelOk c (c.detectorKind i) (f.detector i)

/-- A detector at a taken FIRE_RESET (R134). -/
def Detector.fireReset (d : Detector) : Detector :=
  match d.state with
  | .alarm => { d.clearRuns with state := .normal }
  | .pre => { d.clearRuns with state := .normal }
  | .normal => d
  | .fault => d
  | .disabled => d

/-- The four steps of a taken FIRE_RESET (R134). -/
def FireControl.reset (f : FireControl) : FireControl :=
  { f with
    detectors := f.detectors.map Detector.fireReset, panelLatch := false, panelRun := 0, countdown := .stopped,
    causes := .empty, status := .quiet }

/-! ### Events (R124, R137) -/

/-- DETECTOR_STATE for every detector whose state an event has changed, in rising order of index (R124). -/
def detectorEvents (before after : FireControl) : List Raised :=
  (List.range 16).flatMap fun i =>
    if (before.detector i).state = (after.detector i).state then []
    else [broadcast (.detectorState i (after.detector i).state)]

/-- FIRE_STATE when the fire state or the cause set has changed (R137). -/
def fireEvents (before after : FireControl) : List Raised :=
  if before.status = after.status ∧ before.causes = after.causes then []
  else [broadcast (.fireState after.status after.causes)]

/-- The impairment flag and the relay commands as an event leaves them (R123, R135). -/
def FireControl.withRelays (f : FireControl) (c : ConfigSet) : FireControl :=
  { f with impaired := impairedNow c f, faultRelay := faultRelayNow c f, alarmRelay := f.status.confirmed }

end Sys2Proof.Machine
end

