-- ==== Sys2Proof/Machine/Connection.lean ====
section
/-! DEFINITION. The connection controller (Chapter 8): contactor commands and feedback, the connection states
and openings, the permit and the grid, and what follows from other state at the end of every event. -/

namespace Sys2Proof.Machine

/-! ### Contactors (R141, R142) -/

/-- The command or the feedback has changed: the disagreement timer is started when the two come to differ;
it is stopped and the fault mark cleared when they come to agree (R142). -/
def ContactorRecord.retimed (r : ContactorRecord) : ContactorRecord :=
  if r.command = r.feedback then { r with disagreement := .stopped, faultMark := false }
  else { r with disagreement := .running Length.disagreement }

/-- The contactor is commanded (R141). -/
def ContactorRecord.withCommand (r : ContactorRecord) (v : Switch) : ContactorRecord :=
  if r.command = v then r else { r with command := v }.retimed

/-- The feedback takes a value (R141). -/
def ContactorRecord.withFeedback (r : ContactorRecord) (v : Switch) : ContactorRecord :=
  if r.feedback = v then r else { r with feedback := v }.retimed

/-- One contactor is commanded. -/
def ConnectionControl.commandTo (c : ConnectionControl) (k : Contactor) (v : Switch) : ConnectionControl :=
  { c with contactors := c.contactors.set k ((c.contactors.get k).withCommand v) }

/-- All three contactors are commanded OPEN. -/
def ConnectionControl.allOpen (c : ConnectionControl) : ConnectionControl :=
  ((c.commandTo .pos .opened).commandTo .pre .opened).commandTo .neg .opened

/-- A contactor's feedback shows OPEN. -/
def ConnectionControl.showsOpen (c : ConnectionControl) (k : Contactor) : Bool :=
  decide ((c.contactors.get k).feedback = .opened)

/-! ### Changes of the connection state (R155) -/

/-- What a piece of the connection controller's work leaves: its state, and the events it has raised. -/
structure ConnChange where
  conn : ConnectionControl
  raised : List Event
  deriving DecidableEq, Repr

/-- No event raised. -/
def ConnChange.quiet (c : ConnectionControl) : ConnChange := ⟨c, []⟩

/-- One piece of work after another in one event. -/
def ConnChange.andThen (x : ConnChange) (f : ConnectionControl → ConnChange) : ConnChange :=
  ⟨(f x.conn).conn, x.raised ++ (f x.conn).raised⟩

/-- A new connection state. The precharge timer runs in CHARGING alone, and the open-wait timer in the WAIT
phase of a NORMAL opening alone; a change of state stops them otherwise. -/
def ConnectionControl.toState (c : ConnectionControl) (new : Connection) : ConnectionControl :=
  { c with
    connection := new,
    precharge := if new = .precharging .charging then c.precharge else .stopped,
    openWait := if new = .opening .normal .wait then c.openWait else .stopped }

/-- A new connection state with its event (R155). -/
def ConnectionControl.toStateFor (c : ConnectionControl) (new : Connection) (reason : ConnectionReason) :
    ConnChange :=
  ⟨c.toState new, [.connectionState new reason]⟩

/-! ### Opening (R149 to R153) -/

/-- The state in which an opening of a kind ends (R150). -/
def Opening.ending : Opening → Connection
  | .normal => .opened
  | .abort => .opened
  | .emergency cause _ => .lockedOut cause

/-- An opening that commanded all three contactors OPEN together and ends when all three show OPEN: an ABORT
opening, or an EMERGENCY opening that took one over (R150, R151). -/
def Opening.together : Opening → Bool
  | .normal => false
  | .abort => true
  | .emergency _ fromAbort => fromAbort

/-- In phase MAINS, once POS and PRE show OPEN, NEG is commanded OPEN and the phase becomes NEG (R150). -/
def ConnectionControl.passMains (c : ConnectionControl) : ConnectionControl :=
  match c.connection with
  | .opening kind .mains =>
    if c.showsOpen .pos && c.showsOpen .pre then (c.commandTo .neg .opened).toState (.opening kind .neg) else c
  | .opening _ .wait | .opening _ .neg | .opened | .precharging _ | .closing | .closed | .lockedOut _ => c

/-- In phase NEG, once NEG shows OPEN, or all three where they were opened together, the opening ends (R150). -/
def ConnectionControl.passNeg (c : ConnectionControl) : ConnChange :=
  match c.connection with
  | .opening kind .neg =>
    if c.showsOpen .neg && (!kind.together || (c.showsOpen .pos && c.showsOpen .pre)) then
      c.toStateFor kind.ending .opened
    else .quiet c
  | .opening _ .wait | .opening _ .mains | .opened | .precharging _ | .closing | .closed | .lockedOut _ =>
    .quiet c

/-- The opening goes on as far as the feedback allows (R150). -/
def ConnectionControl.goOnOpening (c : ConnectionControl) : ConnChange := c.passMains.passNeg

/-- Phase MAINS begins: POS and PRE are commanded OPEN (R150). -/
def ConnectionControl.beginMains (c : ConnectionControl) (kind : Opening) : ConnectionControl :=
  ((c.commandTo .pos .opened).commandTo .pre .opened).toState (.opening kind .mains)

/-- An EMERGENCY opening begins, in phase MAINS at once (R151). -/
def ConnectionControl.beginEmergency (c : ConnectionControl) (cause : LockCause) (reason : ConnectionReason) :
    ConnChange :=
  (ConnChange.mk (c.beginMains (.emergency cause false))
    [.connectionState (.opening (.emergency cause false) .mains) reason]).andThen
    ConnectionControl.goOnOpening

/-- A fire confirmation or a set hard-limit flag opens, turns or locks (R151, R152). -/
def ConnectionControl.emergency (c : ConnectionControl) (cause : LockCause) (reason : ConnectionReason) :
    ConnChange :=
  match c.connection with
  | .precharging _ => c.beginEmergency cause reason
  | .closing => c.beginEmergency cause reason
  | .closed => c.beginEmergency cause reason
  | .opening .normal .wait => c.beginEmergency cause reason
  | .opening .normal .mains => c.toStateFor (.opening (.emergency cause false) .mains) reason
  | .opening .normal .neg => c.toStateFor (.opening (.emergency cause false) .neg) reason
  | .opening .abort phase => c.toStateFor (.opening (.emergency cause true) phase) reason
  | .opening (.emergency _ _) _ => .quiet c
  | .opened => c.toStateFor (.lockedOut cause) reason
  | .lockedOut _ => .quiet c

/-- The current test of an opening (R149): the string readings are KNOWN or STALE and the magnitude of their
current is at or below the open-current threshold. -/
def currentTest (config : ConfigSet) (string : StringReadings) : Bool :=
  string.state.usable && decide ((string.current.natAbs : Int) ≤ config.openCurrent)

/-- The wait of a NORMAL opening ends (R149, R150). -/
def ConnectionControl.endWait (c : ConnectionControl) : ConnChange := (c.beginMains .normal).goOnOpening

/-- A NORMAL opening starts (R149): the wait, which a passing current test ends at once. -/
def ConnectionControl.beginNormal (c : ConnectionControl) (config : ConfigSet) (string : StringReadings)
    (reason : ConnectionReason) : ConnChange :=
  let start : ConnChange :=
    ⟨{ c.toState (.opening .normal .wait) with openWait := .running config.openWait },
      [.connectionState (.opening .normal .wait) reason]⟩
  if currentTest config string then start.andThen ConnectionControl.endWait else start

/-- An ABORT opening starts (R150, R153). -/
def ConnectionControl.beginAbort (c : ConnectionControl) : ConnChange :=
  (c.allOpen.toStateFor (.opening .abort .neg) .disconnect).andThen ConnectionControl.goOnOpening

/-- A taken DISCONNECT (R153). -/
def ConnectionControl.disconnect (c : ConnectionControl) (config : ConfigSet) (string : StringReadings) :
    ConnChange :=
  match c.connection with
  | .closed => c.beginNormal config string .disconnect
  | .precharging _ => c.beginAbort
  | .closing => c.beginAbort
  | .opening _ _ => .quiet c
  | .opened => .quiet c
  | .lockedOut _ => .quiet c

/-- The open-wait timer runs out (R149, R150). -/
def ConnectionControl.waitExpired (c : ConnectionControl) (string : StringReadings) : ConnChange :=
  (ConnChange.mk c
    [.openedUnderLoad (if string.state.usable then some string.current else none)]).andThen
    ConnectionControl.endWait

/-! ### Closing (R143 to R147) -/

/-- A taken CONNECT (R143). -/
def ConnectionControl.connect (c : ConnectionControl) : ConnChange :=
  (c.commandTo .neg .closed).toStateFor (.precharging .negWait) .connect

/-- In NEG_WAIT, once NEG shows CLOSED (R144). -/
def ConnectionControl.passNegWait (c : ConnectionControl) (config : ConfigSet) : ConnChange :=
  if c.showsOpen .neg then .quiet c
  else
    .quiet
      { (c.commandTo .pre .closed).toState (.precharging .charging) with
        precharge := .running config.prechargeTimeout }

/-- The precharge test (R145), for a snapshot that leaves the hard-limit flag clear. -/
def prechargeTest (config : ConfigSet) (table : CellTable) : Bool :=
  decide (table.string.state = .known) && !table.dataLoss.holds && !table.hardLimits.flag &&
  decide (table.aggregates.vsum * config.prechargeRatio / 1000 ≤ table.string.dcLink * 100)

/-- A passing precharge test (R145). -/
def ConnectionControl.beginClosing (c : ConnectionControl) : ConnChange :=
  (c.commandTo .pos .closed).toStateFor .closing .precharged

/-- In CLOSING, once POS shows CLOSED, PRE is commanded OPEN (R147). -/
def ConnectionControl.passPos (c : ConnectionControl) : ConnectionControl :=
  if c.showsOpen .pos then c else c.commandTo .pre .opened

/-- In CLOSING, once PRE has been commanded OPEN and shows OPEN, the string is CLOSED (R147). -/
def ConnectionControl.passPre (c : ConnectionControl) : ConnChange :=
  if (c.contactors.get .pre).command = .opened ∧ c.showsOpen .pre = true then
    { c with attempts := 0 }.toStateFor .closed .connected
  else .quiet c

/-- What a change of a feedback leads to (R141, R144, R147, R150). -/
def ConnectionControl.followFeedback (c : ConnectionControl) (config : ConfigSet) : ConnChange :=
  match c.connection with
  | .precharging .negWait => c.passNegWait config
  | .precharging .charging => .quiet c
  | .closing => c.passPos.passPre
  | .opening _ _ => c.goOnOpening
  | .opened => .quiet c
  | .closed => .quiet c
  | .lockedOut _ => .quiet c

/-- A debounced feedback takes a new value (R141). -/
def ConnectionControl.feedback (c : ConnectionControl) (config : ConfigSet) (k : Contactor) (v : Switch) :
    ConnChange :=
  { c with contactors := c.contactors.set k ((c.contactors.get k).withFeedback v) }.followFeedback config

/-- The precharge timer runs out (R146). -/
def ConnectionControl.prechargeFailed (c : ConnectionControl) : ConnChange :=
  let d := (c.commandTo .pre .opened).commandTo .neg .opened
  let e : ConnectionControl := { d with attempts := c.attempts + 1, cooldown := .running Length.cooldown }
  (ConnChange.mk e [.prechargeFailed e.attempts]).andThen fun e =>
    e.toStateFor (if e.attempts = 3 then .lockedOut .precharge else .opened) .prechargeFailed

/-- Step 3 of a contactor fault (R142). -/
def ConnectionControl.lockContactor (c : ConnectionControl) : ConnChange :=
  match c.connection with
  | .lockedOut _ => .quiet c
  | .opened => c.toStateFor (.lockedOut .contactor) .contactor
  | .precharging _ => c.toStateFor (.lockedOut .contactor) .contactor
  | .closing => c.toStateFor (.lockedOut .contactor) .contactor
  | .closed => c.toStateFor (.lockedOut .contactor) .contactor
  | .opening _ _ => c.toStateFor (.lockedOut .contactor) .contactor

/-- A contactor's record as its disagreement timer runs out (R142, step 1). -/
def ContactorRecord.fault (r : ContactorRecord) : ContactorRecord :=
  { r with disagreement := .runOut, faultMark := true }

/-- A contactor fault (R142). -/
def ConnectionControl.contactorFault (c : ConnectionControl) (k : Contactor) : ConnChange :=
  (ConnChange.mk
    ({ c with contactors := c.contactors.set k (c.contactors.get k).fault }).allOpen
    [.contactorFault k (c.contactors.get k).command]).andThen ConnectionControl.lockContactor

/-- The checks of CONNECT after that of its port (R143): the refusal and its reason code, if one fails. -/
def State.connectRefusal (s : State) : Option (Reply × Option RefusalReason) :=
  if !s.config.configured then some (.unconfigured, none)
  else if s.conn.connection ≠ .opened then some (.wrongState, some .state)
  else if s.fire.status ≠ .quiet then some (.wrongState, some .fire)
  else if s.table.dataLoss.holds then some (.wrongState, some .dataLoss)
  else if s.table.hardLimits.flag then some (.wrongState, some .hardLimit)
  else if s.conn.cooldown.isRunning then some (.wrongState, some .cooldown)
  else none

/-- A contactor whose feedback shows OPEN and whose fault mark is clear. -/
def ConnectionControl.sound (c : ConnectionControl) (k : Contactor) : Bool :=
  c.showsOpen k && !(c.contactors.get k).faultMark

/-- The connection is LOCKED_OUT. -/
def Connection.isLocked : Connection → Bool
  | .lockedOut _ => true
  | .opened | .precharging _ | .closing | .closed | .opening _ _ => false

/-- The checks of UNLOCK after that of its port (R154): the reason code of the refusal, if one fails. -/
def State.unlockRefusal (s : State) : Option RefusalReason :=
  if !s.conn.connection.isLocked then some .state
  else if s.fire.status ≠ .quiet then some .fire
  else if s.table.hardLimits.flag then some .hardLimit
  else if !(s.conn.sound .neg && s.conn.sound .pre && s.conn.sound .pos) then some .contactor
  else none

/-- A taken UNLOCK (R154). -/
def ConnectionControl.unlock (c : ConnectionControl) : ConnChange :=
  { c with attempts := 0 }.toStateFor .opened .unlock

/-! ### The permit (R156, R157) -/

/-- The FALLBACK entry, if one stands, is removed from the stack (R74, R156). -/
def State.dropFallback (s : State) : State :=
  match s.conn.fallbackHandle with
  | some h => { s with stack := s.stack.remove h, conn := { s.conn with fallbackHandle := none } }
  | none => s

/-- A taken PERMIT (R156), its duration in seconds. -/
def State.grant (s : State) (duration : Nat) : State :=
  let t := s.dropFallback
  { t with
    conn :=
      { t.conn with
        permit := .granted,
        permitTimer := if duration = 0 then .stopped else .running (duration * Length.second) } }

/-- A taken WITHDRAW (R156). -/
def State.withdraw (s : State) : State :=
  let t := s.dropFallback
  { t with conn := { t.conn with permit := .withdrawn, permitTimer := .stopped } }

/-- The body of the FALLBACK entry (R74, R157). -/
def fallbackBody (config : ConfigSet) : EntryBody :=
  { owner := .port .util, origin := .fallback,
    chargeCap := clampCap config.ratedCurrent (some config.fallbackCharge),
    dischargeCap := clampCap config.ratedCurrent (some config.fallbackDischarge), remaining := none }

/-- The permit lapses (R157). -/
def State.lapse (s : State) : Change :=
  match s.stack.push s.slots .util (fallbackBody s.config) with
  | .pushed st h displaced =>
    let after := s.afterPush st h displaced
    ⟨{ after.st with
        conn := { after.st.conn with permit := .lapsed, permitTimer := .stopped, fallbackHandle := some h } },
      after.raised⟩
  | .full => ⟨{ s with conn := { s.conn with permit := .withdrawn, permitTimer := .stopped } }, []⟩

/-! ### The grid (R158, R159) -/

/-- A taken GRID_TRIP (R159): a notice of the port's origin, and for CONV the conversion notice timer if the
line is present. -/
def ConnectionControl.gridTrip (c : ConnectionControl) (config : ConfigSet) (p : Port) : ConnectionControl :=
  match p with
  | .conv =>
    { c with
      convNotice := true,
      convTimer := if c.linePresent then .running config.reconnectDelay else .stopped }
  | .util => { c with utilNotice := true }
  | .site => c

/-- A taken GRID_RESTORED (R159). -/
def ConnectionControl.gridRestored (c : ConnectionControl) : ConnectionControl :=
  { c with convNotice := false, utilNotice := false, convTimer := .stopped }

/-- The line presence takes a new value (R158, R159). -/
def ConnectionControl.gridLine (c : ConnectionControl) (config : ConfigSet) (present : Bool) :
    ConnectionControl :=
  { c with
    linePresent := present,
    convTimer := if present && c.convNotice then .running config.reconnectDelay else .stopped }

/-- The conversion notice timer runs out (R159). -/
def ConnectionControl.convExpired (c : ConnectionControl) : ConnectionControl :=
  { c with convNotice := false, convTimer := .stopped }

/-! ### What follows at the end of every event (R148, R160, R161) -/

/-- The connection is CLOSED and data loss holds (R148). -/
def State.closedBlind (s : State) : Bool := s.conn.connection.isClosed && s.table.dataLoss.holds

/-- The data-loss open timer starts when both conditions come to hold together, and stops when either ceases to
hold (R148). -/
def dataLossOpenAfter (before after : State) : Timer :=
  if !after.closedBlind then .stopped
  else if before.closedBlind then after.conn.dataLossOpen
  else .running after.config.dataLossOpenTime

/-- The reconnect timer stops at full when the grid becomes absent, and starts when it becomes present (R160). -/
def reconnectAfter (before after : State) : Timer :=
  if !after.conn.gridPresent then (if before.conn.gridPresent then .stopped else after.conn.reconnect)
  else if before.conn.gridPresent then after.conn.reconnect
  else .running after.config.reconnectDelay

/-- The connection controller at the end of an event: its two timers that follow conditions, and AC permission
derived afresh (R148, R160, R161). -/
def rederiveConn (before after : State) : ConnectionControl :=
  let conn : ConnectionControl :=
    { after.conn with
      dataLossOpen := dataLossOpenAfter before after, reconnect := reconnectAfter before after }
  { conn with acPermission := permissionNow conn after.fire.status }

end Sys2Proof.Machine
end

