-- ==== Sys2Proof/Machine/Records.lean ====
section
/-! DEFINITION. The records that the masters read, byte by byte (R169 to R171, R188, R192), and the cursor. -/

namespace Sys2Proof.Machine

/-! ### Bank 0 (R171, R192) -/

/-- The remaining seconds of the reconnect timer (R160): the delay at full, 0 once run out. -/
def reconnectSeconds (config : ConfigSet) (t : Timer) : Nat :=
  match t with
  | .stopped => config.nat 87
  | .running n => secondsUp n
  | .paused n => secondsUp n
  | .runOut => 0

/-- The grid flags (R190). -/
def ConnectionControl.gridFlags (c : ConnectionControl) : Nat :=
  setCode [c.gridPresent, c.linePresent, c.convNotice, c.utilNotice]

/-- The status record, 25 bytes. -/
def State.statusRecord (s : State) : List Byte :=
  byte1 (boolCode s.config.configured) ++ byte1 (sweepModeCode s.chain.mode) ++
  byte2 s.table.sweepNumber.toNat ++ byte1 (setCode s.table.dataLoss.members) ++
  byte1 (connectionCode s.conn.connection) ++ opt1 s.conn.connection.kindCode ++
  opt1 s.conn.connection.phaseCode ++ opt1 (s.conn.connection.lockCause.map lockCauseCode) ++
  byte1 (permitCode s.conn.permit) ++ byte1 s.conn.gridFlags ++
  byte2 (reconnectSeconds s.config s.conn.reconnect) ++ byte1 (boolCode s.conn.acPermission) ++
  byte1 (fireCode s.fire.status) ++ byte1 (setCode s.fire.causes.members) ++ byte1 (boolCode s.fire.hold) ++
  byte1 (boolCode s.fire.impaired) ++ byte1 (coolingCode s.thermal.cooling) ++
  byte1 (boolCode s.thermal.damperOpen) ++ byte1 s.stack.entries.length ++ byte4 s.uptime.toNat

/-- A governing entry: its handle, 0 when absent, and its owner, FFh when absent. -/
def governingBytes (g : Option Governing) : List Byte :=
  match g with
  | none => byte1 0 ++ opt1 none
  | some e => byte1 e.handle ++ byte1 (ownerCode e.owner)

/-- The envelope record, 25 bytes. -/
def EnvelopeRecord.bytes (r : EnvelopeRecord) : List Byte :=
  byte2 r.chargeLimit ++ byte2 r.dischargeLimit ++ byte2 r.chargePower ++ byte2 r.dischargePower ++
  byte4 r.vsum ++ byte2 (setCode r.chargeSet.members) ++ byte2 (setCode r.dischargeSet.members) ++
  governingBytes r.chargeGoverning ++ governingBytes r.dischargeGoverning ++ byte2 r.number.toNat ++
  byte1 (publicationCode r.kind) ++ byte2 r.sweepNumber.toNat

/-- An extreme voltage with its cell index, FFFFh each when absent. -/
def voltageExtremeBytes (x : Option (Int × Nat)) : List Byte :=
  opt2 (x.map fun v => v.1.toNat) ++ opt2 (x.map Prod.snd)

/-- An extreme temperature with its point index, 7Fh and FFh when absent. -/
def temperatureExtremeBytes (x : Option (Int × Nat)) : List Byte :=
  match x with
  | none => [0x7F, 0xFF]
  | some (t, i) => byte1 (twos 8 t) ++ byte1 i

/-- The aggregates record, 26 bytes. -/
def CellTable.aggregatesRecord (t : CellTable) : List Byte :=
  let a := t.aggregates
  voltageExtremeBytes a.vmax ++ voltageExtremeBytes a.vmin ++ byte4 a.vsum ++
  temperatureExtremeBytes a.tmax ++ temperatureExtremeBytes a.tmin ++ byte2 a.knownCells ++
  byte2 a.staleCells ++ byte2 a.unknownCells ++ byte1 (setCode t.dataLoss.members) ++
  byte1 (setCode t.hardLimits.members) ++ byte2 t.sweepNumber.toNat

/-! ### Banks 1 to 7 (R192) -/

/-- Bank 1: a cell record, 4 bytes. -/
def CellRecord.bytes (r : CellRecord) : List Byte :=
  byte2 r.voltage ++ byte1 (itemStateCode r.state) ++ byte1 (setCode [r.saturated, r.bleeding])

/-- Bank 2: a temperature-point record, 3 bytes. -/
def PointRecord.bytes (r : PointRecord) : List Byte :=
  byte1 (twos 8 r.temperature) ++ byte1 (itemStateCode r.state) ++ byte1 (setCode [r.clamped])

/-- Bank 3: a monitor record, 6 bytes. The last two bytes are free while the presence flag is clear (log
entry 4). -/
def monitorBytes (reads : Nat) (address : Nat) (r : MonitorRecord) : List Byte :=
  byte1 (monitorStateCode r.state) ++ byte1 r.missCount ++ opt1 (r.lastError.map errorCode) ++
  byte1 (setCode [r.lastGood.isSome]) ++
  byte2 (r.lastGood.getD (Config.absentSweepBytes reads address)).toNat

/-- Bank 4: a detector record, 6 bytes (R138). -/
def detectorBytes (kind : DetectorKind) (d : Detector) : List Byte :=
  byte1 (detectorKindCode kind) ++ byte1 (setCode [d.disablement.isSome]) ++
  opt2 (d.disablement.map secondsUp) ++ byte1 d.level ++ byte1 (detectorStateCode d.state)

/-- Bank 5: a curtailment entry, 11 bytes. -/
def Entry.bytes (e : Entry) : List Byte :=
  byte1 e.handle ++ byte1 (ownerCode e.owner) ++ byte1 (originCode e.origin) ++ opt2 e.chargeCap ++
  opt2 e.dischargeCap ++ opt4 (e.remaining.map secondsUp)

/-- Bank 5: a position of the stack; one above the depth reads as handle 0 with every other byte 0. -/
def StackState.positionBytes (st : StackState) (i : Nat) : List Byte :=
  match st.entries[i]? with
  | some e => e.bytes
  | none => List.replicate 11 0

/-- A claimed slot as its owner reads it (R84). -/
def claimBytes (chained : Bool) (c : Claim) : List Byte :=
  byte1 1 ++ byte1 (quantityCode c.spec.quantity) ++ byte2 c.spec.first ++ byte2 c.spec.last ++
  byte1 (comparisonCode c.spec.comparison) ++ byte2 (twos 16 c.spec.threshold) ++
  byte1 (actionCode c.spec.action) ++ opt2 c.spec.chargeCap ++ opt2 c.spec.dischargeCap ++
  byte1 (setCode [c.spec.chain, c.condition, c.starved, chained]) ++ byte1 (c.entry.getD 0)

/-- Bank 6: a watch slot, 16 bytes, as a port may see it (R84): FREE, CLAIMED, or ABSENT to another port. -/
def slotBytes (slots : List (Option Claim)) (reader : Port) (k : Nat) : List Byte :=
  match slots.getD k none with
  | none => byte1 0 ++ List.replicate 15 0
  | some c =>
    if c.owner = reader then claimBytes (chainedFromAbove slots k) c else byte1 2 ++ List.replicate 15 0

/-- The bytes of an output record that a tach channel alone carries: check state, retry count, measured rate,
grace and retry seconds; absent for the other outputs. -/
def tachBytes (t : Option TachRecord) : List Byte :=
  opt1 (t.map fun r => checkCode r.check) ++ opt1 (t.map TachRecord.retries) ++ opt2 (t.map TachRecord.rate) ++
  opt1 ((t.bind fun r => r.grace.left).map secondsUp) ++ opt1 ((t.bind fun r => r.retry.left).map secondsUp)

/-- The tach channel of a duty channel, if it has one. -/
def ThermalState.tachOf (t : ThermalState) : DutyChannel → Option TachRecord
  | .fanA => some t.tachs.fanA
  | .fanB => some t.tachs.fanB
  | .pump => some t.tachs.pump
  | .exhaust => none
  | .heater => none

/-- Bank 7: the record of a duty channel, 24 bytes (R112). -/
def ThermalState.channelBytes (t : ThermalState) (c : DutyChannel) : List Byte :=
  let r := t.channels.get c
  byte1 (dutyCode c) ++ byte1 (modeCode r.mode) ++
  byte1 (setCode [t.pwm.centred.get c, t.pwm.activeLow.get c, decide (c = .heater) && t.heaterOn]) ++
  opt2 r.manual ++ byte2 r.automatic ++ opt2 (t.forcing.get c) ++ byte2 r.selected ++ byte2 r.shadow ++
  byte2 r.active ++ tachBytes (t.tachOf c) ++ opt2 none ++ byte1 0

/-- The remaining milliseconds of a running pulse (R112), rounded up (DESIGN CHOICE, log entry 33). -/
def ThermalState.pulseLeft (t : ThermalState) : Option Nat :=
  if t.releasePulse.isRunning then t.releasePulse.left.map millisUp else none

/-- Bank 7: the record of RELEASE, 24 bytes (R112). -/
def ThermalState.releaseBytes (t : ThermalState) : List Byte :=
  byte1 5 ++ opt1 none ++
  byte1 (setCode [false, t.pwm.releaseActiveLow, false, t.releasePulse.isRunning]) ++
  (opt2 none ++ opt2 none ++ opt2 none ++ opt2 none ++ opt2 none ++ opt2 none) ++ tachBytes none ++
  opt2 t.pulseLeft ++ byte1 0

/-- Bank 7: an output record. -/
def ThermalState.outputBytes (t : ThermalState) (i : Nat) : List Byte :=
  match dutyOfCode i with
  | some c => t.channelBytes c
  | none => t.releaseBytes

/-! ### Reading (R169, R170) -/

/-- The number of records of a bank (R169). -/
def bankSize (bank : Nat) : Nat := [3, 384, 128, 33, 16, 8, 8, 6].getD bank 0

/-- One record of a bank, as a port reads it. -/
def State.recordBytes (s : State) (reader : Port) (bank i : Nat) : List Byte :=
  match bank with
  | 0 =>
    if i = 0 then s.statusRecord else if i = 1 then s.envelope.record.bytes else s.table.aggregatesRecord
  | 1 => (s.table.cells.getD i blankCell).bytes
  | 2 => (s.table.points.getD i blankPoint).bytes
  | 3 => monitorBytes s.freeReads i (recordAt s.chain.records i)
  | 4 => detectorBytes (s.config.detectorKind i) (s.fire.detector i)
  | 5 => s.stack.positionBytes i
  | 6 => slotBytes s.slots reader i
  | _ => s.thermal.outputBytes i

/-- A cursor may stand at this bank and index (R169). -/
def cursorValid (bank index : Nat) : Bool := decide (bank ≤ 7) && decide (index < bankSize bank)

/-- The number of records that a READ_NEXT returns (R170). -/
def returnedCount (bank index count : Nat) : Nat := min count (bankSize bank - index)

/-- The last record returned is the last of the bank (R170). -/
def reachesEnd (bank index count : Nat) : Bool := decide (bankSize bank ≤ index + count)

/-- The body of a READ_NEXT response (R170, R191). -/
def State.readBody (s : State) (reader : Port) (bank index count : Nat) : List Byte :=
  byte1 bank ++ byte2 index ++ byte1 (returnedCount bank index count) ++
  byte1 (boolCode (reachesEnd bank index count)) ++ byte2 s.table.sweepNumber.toNat ++
  (List.range (returnedCount bank index count)).flatMap fun k => s.recordBytes reader bank (index + k)

/-- The cursor's index after a READ_NEXT (R170). -/
def indexAfter (bank index count : Nat) : Nat :=
  if reachesEnd bank index count then 0 else index + returnedCount bank index count

/-! ### Event records (R172, R192) -/

/-- The subject of an event. -/
def Event.subject : Event → Option Nat
  | .contactorFault c _ => some (contactorCode c)
  | .detectorState i _ => some i
  | .monitorMissing a _ => some a
  | .monitorAbsent a _ => some a
  | .monitorReturned a _ => some a
  | .coolingFault c _ => some (tachCode c)
  | .configLeft n => some n
  | .curtailExpired h => some h
  | .curtailDisplaced h _ => some h
  | .watchHit k _ => some k
  | .watchCleared k => some k
  | .watchStarved k => some k
  | .hardLimit _ | .fireState _ _ | .releaseStarted _ | .connectionState _ _ | .prechargeFailed _ => none
  | .openedUnderLoad _ | .permitState _ | .gridState _ _ _ _ | .acPermission _ | .envelopeFell _ _ => none
  | .dataLossBegin _ | .dataLossEnd | .coolingState _ | .configAccepted _ => none

/-- The four value bytes of an event, if it has a value: one number, or the parts that R192 places. -/
def Event.valueBytes : Event → Option (List Byte)
  | .hardLimit kinds => some (byte4 (setCode kinds.members))
  | .contactorFault _ command => some (byte4 (switchCode command))
  | .detectorState _ state => some (byte4 (detectorStateCode state))
  | .fireState status causes => some ([0, 0] ++ byte1 (fireCode status) ++ byte1 (setCode causes.members))
  | .releaseStarted entry => some (byte4 (releaseEntryCode entry))
  | .connectionState now reason =>
    some (byte1 (connectionCode now) ++ opt1 now.kindCode ++ opt1 (now.lockCause.map lockCauseCode) ++
      byte1 (reasonCode reason))
  | .prechargeFailed n => some (byte4 n)
  | .openedUnderLoad current => current.map fun i => byte4 (twos 32 i)
  | .permitState state => some (byte4 (permitCode state))
  | .gridState grid line conv util => some (byte4 (setCode [grid, line, conv, util]))
  | .acPermission asserted => some (byte4 (boolCode asserted))
  | .envelopeFell charge discharge => some (byte4 (setCode [charge, discharge]))
  | .monitorMissing _ e => some (byte4 (errorCode e))
  | .monitorAbsent _ e => some (byte4 (errorCode e))
  | .monitorReturned _ n => some (byte4 n)
  | .dataLossBegin conditions => some (byte4 (setCode conditions.members))
  | .dataLossEnd => none
  | .coolingFault _ state => some (byte4 (checkCode state))
  | .coolingState state => some (byte4 (coolingCode state))
  | .configAccepted n => some (byte4 n)
  | .configLeft _ => none
  | .curtailExpired _ => none
  | .curtailDisplaced _ new => some (byte4 new)
  | .watchHit _ index => some (byte4 index)
  | .watchCleared _ => none
  | .watchStarved _ => none

/-- An event record, 15 bytes; an absent subject or value reads 0. -/
def EventRecord.bytes (r : EventRecord) : List Byte :=
  byte1 r.event.kindCode ++ byte1 r.event.eventClass.code ++
  byte1 (setCode [r.event.subject.isSome, r.event.valueBytes.isSome]) ++ byte2 (r.event.subject.getD 0) ++
  r.event.valueBytes.getD [0, 0, 0, 0] ++ byte4 r.uptime.toNat ++ byte2 r.sweepNumber.toNat

end Sys2Proof.Machine
end

