-- ==== Sys2Proof/Machine/Ops.lean ====
section
/-! DEFINITION. The shared operations of the meanings: the passing of time, the receiver of a master port, the
taking of a request, and the settling of an event, in which everything that follows from its changes comes
about in the same event. -/

namespace Sys2Proof.Machine

/-! ### The passing of time (log entry 2) -/

/-- A running timer after so many microseconds; it stays at 0 until the event of its running out. -/
def Timer.pass (dt : Nat) : Timer → Timer
  | .running n => .running (n - dt)
  | .stopped => .stopped
  | .paused n => .paused n
  | .runOut => .runOut

def ContactorRecord.pass (dt : Nat) (r : ContactorRecord) : ContactorRecord :=
  { r with disagreement := r.disagreement.pass dt }

def TachRecord.pass (dt : Nat) (r : TachRecord) : TachRecord :=
  { r with grace := r.grace.pass dt, retry := r.retry.pass dt }

def Entry.pass (dt : Nat) (e : Entry) : Entry := { e with remaining := e.remaining.map fun n => n - dt }

def Detector.pass (dt : Nat) (d : Detector) : Detector :=
  { d with disablement := d.disablement.map fun n => n - dt }

def ThermalState.pass (dt : Nat) (t : ThermalState) : ThermalState :=
  { t with
    pwm := { t.pwm with left := t.pwm.left - dt },
    tachs := ⟨t.tachs.fanA.pass dt, t.tachs.fanB.pass dt, t.tachs.pump.pass dt⟩,
    windowLeft := t.windowLeft - dt, releasePulse := t.releasePulse.pass dt }

def FireControl.pass (dt : Nat) (f : FireControl) : FireControl :=
  { f with
    detectors := f.detectors.map (Detector.pass dt), countdown := f.countdown.pass dt,
    samplingLeft := f.samplingLeft - dt }

def ConnectionControl.pass (dt : Nat) (c : ConnectionControl) : ConnectionControl :=
  { c with
    contactors := ⟨c.contactors.neg.pass dt, c.contactors.pre.pass dt, c.contactors.pos.pass dt⟩,
    precharge := c.precharge.pass dt, cooldown := c.cooldown.pass dt, openWait := c.openWait.pass dt,
    dataLossOpen := c.dataLossOpen.pass dt, permitTimer := c.permitTimer.pass dt,
    convTimer := c.convTimer.pass dt, reconnect := c.reconnect.pass dt }

/-- The part after so many microseconds in which nothing happens but that its timers run. -/
def State.advance (s : State) (dt : Nat) : State :=
  { s with
    chain :=
      { s.chain with
        periodTimer := s.chain.periodTimer.pass dt, linkTimer := s.chain.linkTimer.pass dt },
    table := { s.table with ageTimer := s.table.ageTimer.pass dt },
    stack := { s.stack with entries := s.stack.entries.map (Entry.pass dt) },
    thermal := s.thermal.pass dt, fire := s.fire.pass dt, conn := s.conn.pass dt, clock := s.clock + dt }

/-- The time left of a timer that is running. -/
def Timer.due : Timer → Option Nat
  | .running n => some n
  | .stopped => none
  | .paused _ => none
  | .runOut => none

/-- The running out of a timer, or a periodic instant: the time left passes, and then the event takes place.
Without time left to wait for, the event cannot occur, and nothing changes. -/
def State.after (s : State) (left : Option Nat) (f : State → State) : State :=
  match left with
  | some dt => f (s.advance dt)
  | none => s

/-- No event of the part takes place while power-on reset is held (R186). -/
def State.running (s : State) (f : State → State) : State := if s.resetHeld then s else f s

/-- The block idles for one step: its timers run (log entry 2). -/
def State.idle (s : State) : State := s.running fun s => s.advance Length.tick

/-! ### The settling of an event -/

/-- Whether an event publishes the envelope (R44, R45, R47): at a sweep completion; always, for an amendment
and the age timer's expiry; never, for a CONFIG_WRITE taken while UNCONFIGURED; and otherwise when it changes
an input. -/
inductive Publication where
  | sweep | always | never | ifChanged
  deriving DecidableEq, Repr

/-- The inputs whose change causes a CHANGE publication (R45). -/
structure Inputs where
  entries : List Entry
  status : FireStatus
  acPermission : Bool
  cooling : CoolingState
  impaired : Bool
  dataLoss : Bool
  configured : Bool
  deriving DecidableEq, Repr

def State.inputs (s : State) : Inputs :=
  { entries := s.stack.entries, status := s.fire.status, acPermission := s.conn.acPermission,
    cooling := s.thermal.cooling, impaired := s.fire.impaired, dataLoss := s.table.dataLoss.holds,
    configured := s.config.configured }

/-- The kind of the publication that an event makes, if it makes one (R44 to R46). -/
def publicationDue (p : Publication) (before after : Inputs) : Option PublicationKind :=
  match p with
  | .sweep => some .sweep
  | .always => some .change
  | .never => none
  | .ifChanged => if before = after then none else some .change

/-- The blocks that follow others, in their order: the relays and the impairment flag (R123, R135), the thermal
controller (R95 to R108), and the connection controller (R148, R160, R161). -/
def State.derived (before after : State) (sweep : Bool) : State :=
  let s1 : State := { after with fire := after.fire.withRelays after.config }
  let s2 : State := { s1 with thermal := rederiveThermal sweep before s1 }
  { s2 with conn := rederiveConn before s2 }

/-- The publication of an event, if it makes one (R42, R46). -/
def State.published (s : State) (due : Option PublicationKind) : State :=
  match due with
  | some kind => s.publish kind
  | none => s

/-- DATA_LOSS_BEGIN and DATA_LOSS_END (R34). -/
def dataLossEvents (before after : DataLoss) : List Raised :=
  if after.holds && !before.holds then [broadcast (.dataLossBegin after)]
  else if before.holds && !after.holds then [broadcast .dataLossEnd]
  else []

/-- HARD_LIMIT (R36, R40). -/
def hardLimitEvents (before after : HardLimits) : List Raised :=
  if before = after then [] else [broadcast (.hardLimit after)]

/-- COOLING_STATE (R110). -/
def coolingEvents (before after : CoolingState) : List Raised :=
  if before = after then [] else [broadcast (.coolingState after)]

/-- PERMIT_STATE (R156). -/
def permitEvents (before after : PermitState) : List Raised :=
  if before = after then [] else [broadcast (.permitState after)]

/-- GRID_STATE when the grid presence, the line presence or the set of notices has changed (R158). -/
def gridEvents (before after : ConnectionControl) : List Raised :=
  if before.linePresent = after.linePresent ∧ before.convNotice = after.convNotice ∧
      before.utilNotice = after.utilNotice then []
  else [broadcast (.gridState after.gridPresent after.linePresent after.convNotice after.utilNotice)]

/-- AC_PERMISSION (R161). -/
def permissionEvents (before after : Bool) : List Raised :=
  if before = after then [] else [broadcast (.acPermission after)]

/-- The events that follow from the difference an event makes. -/
def differenceEvents (before after : State) : List Raised :=
  dataLossEvents before.table.dataLoss after.table.dataLoss ++
  hardLimitEvents before.table.hardLimits after.table.hardLimits ++
  detectorEvents before.fire after.fire ++ fireEvents before.fire after.fire ++
  coolingEvents before.thermal.cooling after.thermal.cooling ++
  permitEvents before.conn.permit after.conn.permit ++ gridEvents before.conn after.conn ++
  permissionEvents before.conn.acPermission after.conn.acPermission

/-- ENVELOPE_FELL, if the event publishes (R61). -/
def publicationEvents (due : Option PublicationKind) (before after : State) : List Raised :=
  match due with
  | some _ => fellEvents after.config before.envelope.record after.envelope.record
  | none => []

/-- The end of an event that left a state and raised events: every block that follows another is derived
afresh, the envelope is published once if it is due (R46), and the events are delivered (R172). -/
def State.settle (before : State) (p : Publication) (c : Change) : State :=
  let after := State.derived before c.st (decide (p = .sweep))
  let due := publicationDue p before.inputs after.inputs
  let final := after.published due
  final.deliver (c.raised ++ differenceEvents before final ++ publicationEvents due before final)

/-- An event whose work begins from the state and publishes if an input changes. -/
def State.event (s : State) (f : State → Change) : State := s.settle .ifChanged (f s)

/-- The connection controller's part of an event. -/
def State.withConn (s : State) (x : ConnChange) : Change :=
  ⟨{ s with conn := x.conn }, x.raised.map broadcast⟩

/-! ### The receiver of a port (R163, R165) -/

/-- The FRAME_ERROR response of a failed frame (R163, R167). -/
def frameErrorFrame : List Byte := responseFrame 0xFF .frameError []

/-- The frame fails: it is answered FRAME_ERROR, and the receiver discards (R163). -/
def PortState.failFrame (q : PortState) : PortState :=
  { q with receiver := .discarding }.placeOrDiscard frameErrorFrame

/-- A complete frame joins the queue, or is answered QUEUE_FULL (R165). -/
def PortState.accept (q : PortState) (kind : Byte) (body : List Byte) : PortState :=
  if q.requests.length < 4 then { q with requests := q.requests ++ [⟨kind, body⟩] }
  else q.placeOrDiscard (responseFrame (responseKind kind) .queueFull [])

/-- A frame whose last character has come: length, kind, body and CRC (R163). -/
def PortState.complete (q : PortState) (frame : List Byte) : PortState :=
  if crc8 frame.dropLast = frame.getLastD 0 then
    { q with receiver := .hunting }.accept (frame.getD 1 0) ((frame.drop 2).dropLast)
  else q.failFrame

/-- A frame with one character more: its length fails it at once, its CRC completes it, or it goes on (R163). -/
def PortState.extend (q : PortState) (frame : List Byte) : PortState :=
  let n := (frame.getD 0 0).toNat
  if n = 0 ∨ 251 < n then q.failFrame
  else if frame.length < n + 2 then { q with receiver := .receiving frame false }
  else q.complete frame

/-- A character read with its stop bit at space: outside a frame it is discarded, and inside one it breaks the
frame, which fails when the line returns to mark (R163). The line is at space. -/
def PortState.receiveBroken (q : PortState) (b : Byte) : PortState :=
  { q with
    lineDetector := if q.lineDetector = .waitingForMark then .waitingForMark else .space,
    receiver := match q.receiver with
      | .receiving frame _ => .receiving (frame ++ [b]) true
      | .hunting => .hunting
      | .discarding => .discarding }

/-- A character read with its stop bit at mark (R163). One that follows a broken character in a frame shows that
the line has returned to mark: the frame has failed. -/
def PortState.receiveSound (q : PortState) (b : Byte) : PortState :=
  let q : PortState := { q with lineDetector := .mark }
  match q.receiver with
  | .discarding => q
  | .hunting => if b = 0xA5 then { q with receiver := .receiving [] false } else q
  | .receiving frame broken => if broken then q.failFrame else q.extend (frame ++ [b])

/-- One character of the line (R163). -/
def PortState.receive (q : PortState) (c : RxChar) : PortState :=
  if c.stopAtMark then q.receiveSound c.value else q.receiveBroken c.value

/-- One port replaced. -/
def State.setPort (s : State) (p : Port) (q : PortState) : State := { s with ports := s.ports.set p q }

/-! ### Taking a request (R166) -/

/-- What the owning block answers: at the port alone, with nothing that another block follows (a refusal, or a
request of the port controller itself); with records read, which moves the cursor and uses up free values (log
entry 4); or by an event of the part. -/
inductive Answer where
  | atPort (outcome : Reply) (body : List Byte) (q : PortState)
  | records (body : List Byte) (q : PortState)
  | event (outcome : Reply) (body : List Byte) (publish : Publication) (c : Change)
  deriving DecidableEq, Repr

/-- The request that the port can take now: its head, while no formed response waits (R166). -/
def PortState.head (q : PortState) : Option Request :=
  match q.waiting with
  | [] => q.requests.head?
  | _ :: _ => none

/-- The head request has left the queue. -/
def PortState.taken (q : PortState) : PortState := { q with requests := q.requests.tail }

/-- The outcome of an answer: what the event leaves, with the response placed (R166). -/
def State.answer (s : State) (p : Port) (kind : Byte) (a : Answer) : State :=
  match a with
  | .atPort outcome body q => (s.setPort p q).respond p kind outcome body
  | .records body q => ({ s with freeReads := s.freeReads + 1 }.setPort p q).respond p kind .ok body
  | .event outcome body publish c => (s.settle publish c).respond p kind outcome body

/-- A request with its answer (R166): the second and third checks, and then the owning block's answer, which is
given the request's body, the port's state, and the state of the part. -/
def State.handle (s : State) (p : Port) (k : RequestKind) (body : List Byte)
    (act : List Byte → PortState → State → Answer) : State :=
  if !k.permitted p then s.respond p k.code .notPermitted []
  else if body.length ≠ k.bodyLength then s.respond p k.code .range []
  else s.answer p k.code (act body (s.ports.get p) s)

/-- The taking of a head request of one kind. While the port can take no request, or its head is of another
kind, this event cannot occur and nothing changes (log entry 1). -/
def State.serve (s : State) (p : Port) (k : RequestKind) (act : List Byte → PortState → State → Answer) :
    State :=
  match (s.ports.get p).head with
  | none => s
  | some r => if r.kind = k.code then (s.setPort p (s.ports.get p).taken).handle p k r.body act else s

/-- The taking of a head request whose kind names no request (R166, check 1). -/
def State.serveUnknown (s : State) (p : Port) : State :=
  match (s.ports.get p).head with
  | none => s
  | some r =>
    match RequestKind.ofCode r.kind with
    | some _ => s
    | none => (s.setPort p (s.ports.get p).taken).respond p r.kind .unknownKind []

/-- A refusal: nothing changes (section 9.2). -/
def refuse (outcome : Reply) (q : PortState) : Answer := .atPort outcome [] q

/-- A refusal that carries a reason code (R191). -/
def refuseFor (reason : RefusalReason) (q : PortState) : Answer := .atPort .wrongState (byte1 reason.code) q

/-- OK without a response body, by an event of the part. -/
def takenBy (c : Change) : Answer := .event .ok [] .ifChanged c

end Sys2Proof.Machine
end

