-- ==== Sys2Proof/Machine/Sweep.lean ====
section
/-! DEFINITION. The end of an attempt, of an exchange and of a sweep (R7 to R12), with everything that the
other blocks do at a sweep completion. -/

namespace Sys2Proof.Machine

/-! ### The completion of a sweep -/

/-- The chain controller and the cell table at a completion (R12, R22): the sweep number advances, the monitor
records are updated with their events, the table takes the snapshot, and the chain becomes IDLE; a SINGLE sweep
ends in STOPPED, and its BLEED_OFF request is served (R19). -/
def State.takeSweep (s : State) : Change :=
  let number := s.chain.sweepNumber + 1
  let count := s.config.monitorCount
  let records := updateRecords s.chain.records count number s.chain.buffer
  let chain := ({ s.chain with sweepNumber := number, records := records }).becomeIdle
  { st :=
      { s with
        chain := if chain.mode = .single then chain.stopMode.serveBleedOff else chain,
        table := s.table.takeSnapshot s.config number records s.chain.buffer },
    raised := updateEvents s.chain.records count s.chain.buffer }

/-- The thermal controller at a completion (R99, R101): the fan demand and the heater state. -/
def State.measureThermal (s : State) : State :=
  { s with
    thermal :=
      { s.thermal with
        fanDemand := fanDemandOf s.config.fanCurve s.table.aggregates.tmax,
        heaterOn := heaterAfter s.config s.table.aggregates.tmin s.thermal.heaterOn } }

/-- The connection controller at a completion, on the new snapshot: the hard-limit action (R152), else the
precharge test (R145) or the current test of a wait (R149). -/
def State.sweepConn (s : State) : ConnChange :=
  if s.table.hardLimits.flag then s.conn.emergency .hardLimit .hardLimit
  else
    match s.conn.connection with
    | .precharging .charging =>
      if prechargeTest s.config s.table then s.conn.beginClosing else .quiet s.conn
    | .opening .normal .wait => if currentTest s.config s.table.string then s.conn.endWait else .quiet s.conn
    | .opening .abort _ | .opening (.emergency _ _) _ | .opening .normal .mains | .opening .normal .neg =>
      .quiet s.conn
    | .precharging .negWait | .closing | .closed | .opened | .lockedOut _ => .quiet s.conn

/-- A sweep completion, before the blocks that follow are derived: chain and table, watch table (R87), thermal
demand, connection controller (R12, R22, R44). -/
def State.completion (s : State) : Change :=
  (s.takeSweep.andThen State.evaluateWatch).andThen fun t =>
    let u := t.measureThermal
    u.withConn u.sweepConn

/-- The chain with the last exchange's outcome in the buffer (R9, R10). -/
def State.withChain (s : State) (c : ChainState) : State := { s with chain := c }

/-! ### The end of an exchange (R9, R11, R18) -/

/-- An exchange has ended with an outcome. In ABORTING the outcome and the partial buffer are discarded, the
chain becomes IDLE and a set BLEED_OFF request is served (R18, R19). In SWEEPING the outcome is written; the
exchange with the next address begins, or, after the last configured address, the sweep completes (R11). -/
def State.endExchange (s : State) (e : Exchange) (o : ExchangeOutcome) : State :=
  if s.chain.activity = .aborting then s.withChain s.chain.endAbort.serveBleedOff
  else
    let c := s.chain.fillEntry e o
    if e.address < s.config.monitorCount then s.withChain (c.exchangeDue (e.address + 1))
    else s.settle .sweep (s.withChain c).completion

/-- An attempt has failed (R8, R9), the line being free after so much more quiet: it is retried once, unless it
failed with MONITOR_FAULT; otherwise the exchange is missed. The quiet has been computed from the divisor active as
the attempt fails, and keeps its length if a deferred divisor is applied in the same event, or the item is written
while it runs in IDLE (DESIGN CHOICE, log entry 29). -/
def State.failAttempt (s : State) (e : Exchange) (error : ErrorKind) (quiet : Nat) : State :=
  let c := s.chain.lineBusy quiet
  if e.retry = false ∧ error ≠ .monitorFault then s.withChain (c.retryDue e)
  else (s.withChain c).endExchange e (.missed error)

/-- The exchange whose reply the part awaits or receives (R1). -/
def ChainState.awaited (c : ChainState) : Option Exchange :=
  match c.link with
  | .awaitingReply => c.exchange
  | .rest => none
  | .frameDue => none
  | .sending _ => none

/-- The last expected character of a reply has come (R7, R8): the reply is accepted, or it fails with CHECK or
MONITOR_FAULT. -/
def State.endReply (s : State) (e : Exchange) (chars : List ChainChar) : State :=
  match replyVerdict e.address chars with
  | .accepted reply =>
    (s.withChain s.chain.lineQuiet).endExchange e (.good (replyValues e.address s.config.cellsPerMonitor reply))
  | .failed .check => s.failAttempt e .check (quietLeft s.chain.divisor .check true)
  | .failed .monitorFault => s.failAttempt e .monitorFault (quietLeft s.chain.divisor .monitorFault true)
  | .failed .timeout => s
  | .failed .framing => s
  | .failed .address => s
  | .incomplete => s

/-- A character of a reply shows an error (R8): FRAMING or ADDRESS. -/
def State.breakReply (s : State) (e : Exchange) (chars : List ChainChar) : State :=
  match replyVerdict e.address chars with
  | .failed .framing => s.failAttempt e .framing (quietLeft s.chain.divisor .framing true)
  | .failed .address => s.failAttempt e .address (quietLeft s.chain.divisor .address true)
  | .failed .check => s
  | .failed .monitorFault => s
  | .failed .timeout => s
  | .accepted _ => s
  | .incomplete => s

/-- The frame that is due is begun (R4, R7, R20): a broadcast BLEED_OFF frame in CLEARING, and otherwise the
exchange's READ or READ_BALANCE frame with the mask decided at this moment. -/
def State.sendDueFrame (s : State) : ChainState :=
  match s.chain.activity, s.chain.exchange with
  | .clearing, _ => s.chain.sendFrame (commandFrame broadcastAddress .bleedOff 0) 0 none
  | .sweeping, some e | .aborting, some e =>
    let mask := if e.address = 0 then 0 else s.balanceMask e.address
    s.chain.sendFrame (commandFrame e.address (if mask = 0 then .read else .readBalance) mask) mask
      (some { e with begun := true, mask := mask })
  | .sweeping, none | .aborting, none | .idle, _ => s.chain

/-- A frame is due and the line is free (R7). -/
def ChainState.mayBeginFrame (c : ChainState) : Bool := decide (c.link = .frameDue) && c.lineFree

/-- A frame is being sent. -/
def ChainState.isSending (c : ChainState) : Bool :=
  match c.link with
  | .sending _ => true
  | .rest | .frameDue | .awaitingReply => false

/-- The last character of a READ or READ_BALANCE frame has been sent (R1, R7): the line is released, and the
reply timeout runs. -/
def ChainState.awaitReply (c : ChainState) : ChainState :=
  { c with link := .awaitingReply, linkTimer := .running Length.replyTimeout, pendingMask := 0 }

/-- The broadcast BLEED_OFF frame has been sent (R7, R19): the line is free at once and the chain becomes
IDLE. -/
def ChainState.bleedOffDone (c : ChainState) : ChainState :=
  { c with lineFree := true, linkTimer := .stopped, pendingMask := 0 }.becomeIdle.serveBleedOff

end Sys2Proof.Machine
end

