-- ==== Sys2Proof/Machine/PortCommands.lean ====
section
/-! DEFINITION. The commands of the reset input and of the master ports' lines (sections 9.1, 9.2, 9.5, 10.4). -/

namespace Sys2Proof.Machine

/-- The outcomes of a step. -/
abbrev Result := Host.Outcome State Fault Refusal

/-- The part with every block at its value after power-on reset. The model's own fields are not the part's and
stay: the waiting commands and the count of free reads (log entry 3). -/
def State.afterReset (s : State) (held : Bool) : State :=
  { State.reset with resetHeld := held, freeReads := s.freeReads, pending := s.pending }

/-- POWER_ON_RESET (R186): whatever is in progress ends at once, and every output stands at its reset level. -/
def execPowerOnReset (s : State) : Result := .next (s.afterReset true)

/-- POWER_ON_RESET_END (R187): every block takes its value after power-on reset, and no event is raised. -/
def execPowerOnResetEnd (s : State) : Result := .next (s.afterReset false)

/-- REQUEST_FRAME_RECEIVED (R163 to R165): the receiver takes the characters one by one. -/
def execRequestFrameReceived (p : Port) (chars : List RxChar) (s : State) : Result :=
  .next (s.running fun s => s.setPort p (chars.foldl PortState.receive (s.ports.get p)))

/-- A gap inside a frame fails it. A frame whose last character was broken waits for the line instead, which is
at space and may yet reset the port (R163, R178; log entry 12). -/
def PortState.gap (q : PortState) : PortState :=
  match q.receiver with
  | .receiving _ broken => if broken then q else q.failFrame
  | .hunting => q
  | .discarding => q

/-- INTER_CHARACTER_TIMEOUT (R163). -/
def execInterCharacterTimeout (p : Port) (s : State) : Result :=
  .next (s.running fun s => s.setPort p (s.ports.get p).gap)

/-- The line has been at mark for four character times: a receiver that discards hunts again, and the port-reset
detector finds the line at mark (R163, R178, R179). A frame with a broken character has then failed, the line
having returned to mark, and the receiver has waited long enough to hunt again. -/
def PortState.resumeHunt (q : PortState) : PortState :=
  match q.receiver with
  | .discarding => { q with receiver := .hunting, lineDetector := .mark }
  | .hunting => q
  | .receiving _ broken => if broken then { q.failFrame with receiver := .hunting, lineDetector := .mark } else q

/-- RECEIVER_HUNT_RESUMED (R163, R178, R179). -/
def execReceiverHuntResumed (p : Port) (s : State) : Result :=
  .next (s.running fun s => s.setPort p (s.ports.get p).resumeHunt)

/-- RESPONSE_SENT (R167): the response being sent ends, and the next one waiting is sent. -/
def execResponseSent (p : Port) (s : State) : Result :=
  .next (s.running fun s => s.setPort p (s.ports.get p).sent)

/-- The port controller at a port reset (R178, steps 1 to 6); a response being sent runs to its end. -/
def PortState.portReset (q : PortState) : PortState :=
  { receiver := .discarding, requests := [], sending := q.sending, waiting := [], cursorBank := 0,
    cursorIndex := 0, events := [], overflow := false, mask := 255, attention := 1,
    lineDetector := .waitingForMark }

/-- The site hold request is removed, and the hold acts on the fire state (R130, R131). -/
def FireControl.dropSiteHold (f : FireControl) (c : ConfigSet) : FireControl :=
  if f.siteHold then { f with siteHold := false }.applyHold c else f

/-- The whole of a port reset (R178): the port controller, the port's watch slots, and for SITE the hold. -/
def State.portReset (s : State) (p : Port) : State :=
  let t := (s.setPort p (s.ports.get p).portReset).releasePort p
  if p = .site then { t with fire := t.fire.dropSiteHold t.config } else t

/-- PORT_RESET (R178). While the detector waits for mark no reset is taken. -/
def execPortReset (p : Port) (s : State) : Result :=
  .next (s.running fun s =>
    if (s.ports.get p).lineDetector = .waitingForMark then s
    else s.event fun s => Change.quiet (s.portReset p))

/-- UNKNOWN_KIND (R166, check 1). -/
def execUnknownKind (p : Port) (s : State) : Result := .next (s.running fun s => s.serveUnknown p)

/-- The line returns to mark: a frame with a broken character fails, and the port-reset detector finds the line
at mark (R163, R178). -/
def PortState.lineToMark (q : PortState) : PortState :=
  let q : PortState := { q with lineDetector := .mark }
  match q.receiver with
  | .receiving _ broken => if broken then q.failFrame else q
  | .hunting => q
  | .discarding => q

/-- LINE_RETURNS_TO_MARK (R163, R178). -/
def execLineReturnsToMark (p : Port) (s : State) : Result :=
  .next (s.running fun s => s.setPort p (s.ports.get p).lineToMark)

end Sys2Proof.Machine
end

