-- ==== Sys2Proof/Machine/ReadCommands.lean ====
section
/-! DEFINITION. The requests that the port controllers own (sections 9.3 and 9.4). -/

namespace Sys2Proof.Machine

/-- READ_STATUS (R171). -/
def execReadStatus (p : Port) (s : State) : Result :=
  .next (s.running fun s => s.serve p .readStatus fun _ q s => .atPort .ok s.statusRecord q)

/-- READ_ENVELOPE (R42, R171). -/
def execReadEnvelope (p : Port) (s : State) : Result :=
  .next (s.running fun s => s.serve p .readEnvelope fun _ q s => .atPort .ok s.envelope.record.bytes q)

/-- The answer to SET_CURSOR (R169). -/
def answerSetCursor (body : List Byte) (q : PortState) (_ : State) : Answer :=
  if cursorValid (u8 body 0) (u16 body 1) then
    .atPort .ok [] { q with cursorBank := u8 body 0, cursorIndex := u16 body 1 }
  else refuse .range q

/-- SET_CURSOR (R169). -/
def execSetCursor (p : Port) (s : State) : Result :=
  .next (s.running fun s => s.serve p .setCursor answerSetCursor)

/-- A count, or a level, from 1 to 16 (R170, R175, R176). -/
def oneToSixteen (n : Nat) : Bool := decide (1 ≤ n) && decide (n ≤ 16)

/-- The answer to READ_NEXT (R170). -/
def answerReadNext (p : Port) (body : List Byte) (q : PortState) (s : State) : Answer :=
  if oneToSixteen (u8 body 0) then
    .records (s.readBody p q.cursorBank q.cursorIndex (u8 body 0))
      { q with cursorIndex := indexAfter q.cursorBank q.cursorIndex (u8 body 0) }
  else refuse .range q

/-- READ_NEXT (R170). -/
def execReadNext (p : Port) (s : State) : Result :=
  .next (s.running fun s => s.serve p .readNext (answerReadNext p))

/-- The answer to EVENT_READ (R175): the oldest records are removed and returned. -/
def answerEventRead (body : List Byte) (q : PortState) (_ : State) : Answer :=
  if oneToSixteen (u8 body 0) then
    let removed := q.events.take (u8 body 0)
    .atPort .ok (byte1 removed.length ++ removed.flatMap EventRecord.bytes)
      { q with events := q.events.drop (u8 body 0) }
  else refuse .range q

/-- EVENT_READ (R175). -/
def execEventRead (p : Port) (s : State) : Result :=
  .next (s.running fun s => s.serve p .eventRead answerEventRead)

/-- The event mask that a class set gives: ALARM, member 0, is added (R176). -/
def maskGiven (body : List Byte) : BitVec 8 := body.getD 0 0 ||| 1

/-- The answer to EVENT_MASK (R176). -/
def answerEventMask (body : List Byte) (q : PortState) (_ : State) : Answer :=
  .atPort .ok [maskGiven body] { q with mask := maskGiven body }

/-- EVENT_MASK (R176). -/
def execEventMask (p : Port) (s : State) : Result :=
  .next (s.running fun s => s.serve p .eventMask answerEventMask)

/-- EVENT_CLEAR_OVERFLOW (R174). -/
def execEventClearOverflow (p : Port) (s : State) : Result :=
  .next (s.running fun s =>
    s.serve p .eventClearOverflow fun _ q _ => .atPort .ok [] { q with overflow := false })

/-- The answer to ATTENTION_LEVEL (R176). -/
def answerAttentionLevel (body : List Byte) (q : PortState) (_ : State) : Answer :=
  if oneToSixteen (u8 body 0) then .atPort .ok [] { q with attention := u8 body 0 } else refuse .range q

/-- ATTENTION_LEVEL (R176). -/
def execAttentionLevel (p : Port) (s : State) : Result :=
  .next (s.running fun s => s.serve p .attentionLevel answerAttentionLevel)

end Sys2Proof.Machine
end

