-- ==== Sys2Proof/Machine/CurtailCommands.lean ====
section
/-! DEFINITION. The requests and the expiry of the curtailment stack (sections 4.3 and 4.4), and the requests of
the watch table (sections 5.2 and 5.3). -/

namespace Sys2Proof.Machine

/-! ### Values of a curtailment request (R66) -/

/-- The caps in A and the duration in s that a curtailment request carries, or that are left of it after
clamping. -/
structure CurtailValues where
  charge : Option Nat
  discharge : Option Nat
  duration : Option Nat
  deriving DecidableEq, Repr

/-- The values of a body, from a position on (R191). -/
def curtailValues (body : List Byte) (i : Nat) : CurtailValues :=
  ⟨capField body i, capField body (i + 2), durationField body (i + 4)⟩

/-- Steps 1 and 2 of R66: at least one cap, and no duration of 0. -/
def CurtailValues.valid (v : CurtailValues) : Bool :=
  (v.charge.isSome || v.discharge.isSome) && decide (v.duration ≠ some 0)

/-- Steps 4 and 5 of R66: at most 86,400 s from UTIL or SITE; from CONV always a duration, of at most 60 s. -/
def clampDuration (p : Port) (d : Option Nat) : Option Nat :=
  match p with
  | .conv => some (min 60 (d.getD 60))
  | .site => d.map (min 86400)
  | .util => d.map (min 86400)

/-- Steps 3 to 5 of R66. -/
def CurtailValues.clamp (v : CurtailValues) (rated : Nat) (p : Port) : CurtailValues :=
  ⟨clampCap rated v.charge, clampCap rated v.discharge, clampDuration p v.duration⟩

/-- The entry that a port's values make. -/
def CurtailValues.body (v : CurtailValues) (p : Port) : EntryBody :=
  { owner := .port p, origin := .direct, chargeCap := v.charge, dischargeCap := v.discharge,
    remaining := v.duration.map (· * Length.second) }

/-- CLAMPED if a value was changed, OK otherwise (R66, R68). -/
def clampOutcome (given held : CurtailValues) : Reply := if given = held then .ok else .clamped

/-! ### The requests (R66 to R71) -/

/-- The answer to PUSH_CURTAIL (R66, R67). -/
def answerPush (p : Port) (body : List Byte) (q : PortState) (s : State) : Answer :=
  let given := curtailValues body 0
  let held := given.clamp s.config.ratedCurrent p
  if given.valid then
    match s.stack.push s.slots p (held.body p) with
    | .full => refuse .stackFull q
    | .pushed st h displaced =>
      .event (clampOutcome given held) (byte1 h) .ifChanged (s.afterPush st h displaced)
  else refuse .range q

/-- PUSH_CURTAIL (R66, R67). -/
def execPushCurtail (p : Port) (s : State) : Result :=
  .next (s.running fun s => s.serve p .pushCurtail (answerPush p))

/-- The live DIRECT entry of the port that carries a handle. -/
def StackState.ownDirect (st : StackState) (p : Port) (h : Nat) : Option Entry :=
  match st.find h with
  | some e => if e.directOf p then some e else none
  | none => none

/-- An entry with its caps and its remaining time replaced (R68). -/
def Entry.amend (e : Entry) (v : CurtailValues) : Entry :=
  { e with
    chargeCap := v.charge, dischargeCap := v.discharge, remaining := v.duration.map (· * Length.second) }

/-- The stack with the entry of a handle amended in its place (R63, R68). -/
def StackState.amend (st : StackState) (h : Nat) (v : CurtailValues) : StackState :=
  { st with entries := st.entries.map fun e => if e.handle = h then e.amend v else e }

/-- The answer to AMEND_CURTAIL (R68); a taken amend is published even if it changes no value. -/
def answerAmend (p : Port) (body : List Byte) (q : PortState) (s : State) : Answer :=
  let given := curtailValues body 1
  let held := given.clamp s.config.ratedCurrent p
  if given.valid then
    match s.stack.ownDirect p (u8 body 0) with
    | none => refuse .notFound q
    | some e =>
      .event (clampOutcome given held) (byte1 e.handle) .always
        (Change.quiet { s with stack := s.stack.amend e.handle held })
  else refuse .range q

/-- AMEND_CURTAIL (R68). -/
def execAmendCurtail (p : Port) (s : State) : Result :=
  .next (s.running fun s => s.serve p .amendCurtail (answerAmend p))

/-- The answer to RELEASE_CURTAIL (R69). -/
def answerRelease (p : Port) (body : List Byte) (q : PortState) (s : State) : Answer :=
  match s.stack.ownDirect p (u8 body 0) with
  | none => refuse .notFound q
  | some e => takenBy (Change.quiet { s with stack := s.stack.remove e.handle })

/-- RELEASE_CURTAIL (R69). -/
def execReleaseCurtail (p : Port) (s : State) : Result :=
  .next (s.running fun s => s.serve p .releaseCurtail (answerRelease p))

/-- The topmost DIRECT entry of the port (R70). -/
def StackState.topDirect (st : StackState) (p : Port) : Option Entry :=
  st.entries.reverse.find? fun e => e.directOf p

/-- The answer to POP_CURTAIL (R70). -/
def answerPop (p : Port) (_ : List Byte) (q : PortState) (s : State) : Answer :=
  match s.stack.topDirect p with
  | none => refuse .notFound q
  | some e =>
    .event .ok (byte1 e.handle) .ifChanged (Change.quiet { s with stack := s.stack.remove e.handle })

/-- POP_CURTAIL (R70). -/
def execPopCurtail (p : Port) (s : State) : Result :=
  .next (s.running fun s => s.serve p .popCurtail (answerPop p))

/-- The stack without any DIRECT entry of the port (R71). -/
def StackState.withoutDirect (st : StackState) (p : Port) : StackState :=
  { st with entries := st.entries.filter fun e => !e.directOf p }

/-- The answer to RELEASE_ALL_CURTAIL (R71). -/
def answerReleaseAll (p : Port) (_ : List Byte) (_ : PortState) (s : State) : Answer :=
  .event .ok (byte1 (s.stack.entries.filter fun e => e.directOf p).length) .ifChanged
    (Change.quiet { s with stack := s.stack.withoutDirect p })

/-- RELEASE_ALL_CURTAIL (R71). -/
def execReleaseAllCurtail (p : Port) (s : State) : Result :=
  .next (s.running fun s => s.serve p .releaseAllCurtail (answerReleaseAll p))

/-! ### Expiry (R72) -/

/-- CURTAIL_EXPIRED goes to the port that owns the entry (R72, R173). -/
def expiredEvents (slots : List (Option Claim)) (e : Entry) : List Raised :=
  match ownerPort slots e.owner with
  | some p => [directed p (.curtailExpired e.handle)]
  | none => []

/-- CURTAIL_EXPIRY (R72). -/
def execCurtailExpiry (h : Nat) (s : State) : Result :=
  .next (s.running fun s =>
    match s.stack.find h with
    | none => s
    | some e =>
      s.after e.remaining fun s =>
        s.event fun s => ⟨{ s with stack := s.stack.remove h }, expiredEvents s.slots e⟩)

/-! ### Watch slots (R79 to R82) -/

/-- Slot k is claimed by a port other than this one. -/
def claimedByOther (slots : List (Option Claim)) (p : Port) (k : Nat) : Bool :=
  match slots.getD k none with
  | some c => decide (c.owner ≠ p)
  | none => false

/-- The answer to CLAIM_WATCH (R79, R80), with its checks in order. -/
def answerClaim (p : Port) (body : List Byte) (q : PortState) (s : State) : Answer :=
  let k := u8 body 0
  if 7 < k then refuse .range q
  else if claimedByOther s.slots p k then refuse .slotTaken q
  else
    match watchSpecField body with
    | none => refuse .range q
    | some w =>
      if !w.valid k then refuse .range q
      else if w.chain && !claimedBy s.slots p (k + 1) then refuse .wrongState q
      else .event .ok (byte1 k) .ifChanged (Change.quiet (s.takeClaim p k w))

/-- CLAIM_WATCH (R79 to R81). -/
def execClaimWatch (p : Port) (s : State) : Result :=
  .next (s.running fun s => s.serve p .claimWatch (answerClaim p))

/-- The answer to RELEASE_WATCH (R82), with its checks in order. -/
def answerReleaseWatch (p : Port) (body : List Byte) (q : PortState) (s : State) : Answer :=
  let k := u8 body 0
  if 7 < k then refuse .range q
  else if (s.claim k).isNone then refuse .notFound q
  else if claimedByOther s.slots p k then refuse .slotTaken q
  else if chainedFromAbove s.slots k then refuse .wrongState q
  else takenBy (Change.quiet (s.takeRelease k))

/-- RELEASE_WATCH (R82). -/
def execReleaseWatch (p : Port) (s : State) : Result :=
  .next (s.running fun s => s.serve p .releaseWatch (answerReleaseWatch p))

end Sys2Proof.Machine
end

