-- ==== Sys2Proof/Machine/ConnectCommands.lean ====
section
/-! DEFINITION. The requests, the timers and the lines of the connection controller (Chapter 8). -/

namespace Sys2Proof.Machine

/-! ### The requests -/

/-- The answer to CONNECT (R143): its checks in order, and then the connection begins and every duty channel
returns to AUTO (R98). -/
def answerConnect (_ : List Byte) (q : PortState) (s : State) : Answer :=
  match s.connectRefusal with
  | some (outcome, none) => refuse outcome q
  | some (_, some reason) => refuseFor reason q
  | none => takenBy ({ s with thermal := s.thermal.allAuto }.withConn s.conn.connect)

/-- CONNECT (R143). -/
def execConnect (p : Port) (s : State) : Result :=
  .next (s.running fun s => s.serve p .connect answerConnect)

/-- The answer to DISCONNECT (R153). -/
def answerDisconnect (_ : List Byte) (_ : PortState) (s : State) : Answer :=
  takenBy (s.withConn (s.conn.disconnect s.config s.table.string))

/-- DISCONNECT (R153). -/
def execDisconnect (p : Port) (s : State) : Result :=
  .next (s.running fun s => s.serve p .disconnect answerDisconnect)

/-- The answer to UNLOCK (R154). -/
def answerUnlock (_ : List Byte) (q : PortState) (s : State) : Answer :=
  match s.unlockRefusal with
  | some reason => refuseFor reason q
  | none => takenBy (s.withConn s.conn.unlock)

/-- UNLOCK (R154). -/
def execUnlock (p : Port) (s : State) : Result :=
  .next (s.running fun s => s.serve p .unlock answerUnlock)

/-- The answer to GRID_TRIP (R159). -/
def answerGridTrip (p : Port) (_ : List Byte) (_ : PortState) (s : State) : Answer :=
  takenBy (Change.quiet { s with conn := s.conn.gridTrip s.config p })

/-- GRID_TRIP (R159). -/
def execGridTrip (p : Port) (s : State) : Result :=
  .next (s.running fun s => s.serve p .gridTrip (answerGridTrip p))

/-- The answer to GRID_RESTORED (R159). -/
def answerGridRestored (_ : List Byte) (_ : PortState) (s : State) : Answer :=
  takenBy (Change.quiet { s with conn := s.conn.gridRestored })

/-- GRID_RESTORED (R159). -/
def execGridRestored (p : Port) (s : State) : Result :=
  .next (s.running fun s => s.serve p .gridRestored answerGridRestored)

/-- The answer to PERMIT (R156): 0 for a permit without limit, or 1 to 3600 s. -/
def answerPermit (body : List Byte) (q : PortState) (s : State) : Answer :=
  if u16 body 0 ≤ 3600 then takenBy (Change.quiet (s.grant (u16 body 0))) else refuse .range q

/-- PERMIT (R156). -/
def execPermit (p : Port) (s : State) : Result :=
  .next (s.running fun s => s.serve p .permit answerPermit)

/-- The answer to WITHDRAW (R156). -/
def answerWithdraw (_ : List Byte) (_ : PortState) (s : State) : Answer := takenBy (Change.quiet s.withdraw)

/-- WITHDRAW (R156). -/
def execWithdraw (p : Port) (s : State) : Result :=
  .next (s.running fun s => s.serve p .withdraw answerWithdraw)

/-! ### Contactors and timers -/

/-- CONTACTOR_FEEDBACK_CHANGE (R141): the feedback takes the value given, if it is another one. -/
def execContactorFeedbackChange (k : Contactor) (v : Switch) (s : State) : Result :=
  .next (s.running fun s =>
    if (s.conn.contactors.get k).feedback = v then s
    else s.event fun s => s.withConn (s.conn.feedback s.config k v))

/-- DISAGREEMENT_TIMER_EXPIRY (R142). -/
def execDisagreementTimerExpiry (k : Contactor) (s : State) : Result :=
  .next (s.running fun s =>
    s.after (s.conn.contactors.get k).disagreement.due fun s =>
      s.event fun s => s.withConn (s.conn.contactorFault k))

/-- PRECHARGE_TIMER_EXPIRY (R146). -/
def execPrechargeTimerExpiry (s : State) : Result :=
  .next (s.running fun s =>
    s.after s.conn.precharge.due fun s => s.event fun s => s.withConn s.conn.prechargeFailed)

/-- COOLDOWN_EXPIRY (R146): the cool-down timer has run out. -/
def execCooldownExpiry (s : State) : Result :=
  .next (s.running fun s =>
    s.after s.conn.cooldown.due fun s => { s with conn := { s.conn with cooldown := .runOut } })

/-- OPEN_WAIT_EXPIRY (R149, R150). -/
def execOpenWaitExpiry (s : State) : Result :=
  .next (s.running fun s =>
    s.after s.conn.openWait.due fun s =>
      s.event fun s => s.withConn (s.conn.waitExpired s.table.string))

/-- DATA_LOSS_OPEN_EXPIRY (R148). -/
def execDataLossOpenExpiry (s : State) : Result :=
  .next (s.running fun s =>
    s.after s.conn.dataLossOpen.due fun s =>
      s.event fun s => s.withConn (s.conn.beginNormal s.config s.table.string .dataLoss))

/-- PERMIT_LAPSE (R157). -/
def execPermitLapse (s : State) : Result :=
  .next (s.running fun s => s.after s.conn.permitTimer.due fun s => s.event State.lapse)

/-- GRID_LINE_CHANGE (R158, R159): the line presence takes the value given, if it is another one. -/
def execGridLineChange (present : Bool) (s : State) : Result :=
  .next (s.running fun s =>
    if s.conn.linePresent = present then s
    else s.event fun s => Change.quiet { s with conn := s.conn.gridLine s.config present })

/-- CONV_NOTICE_TIMER_EXPIRY (R159). -/
def execConvNoticeTimerExpiry (s : State) : Result :=
  .next (s.running fun s =>
    s.after s.conn.convTimer.due fun s => s.event fun s => Change.quiet { s with conn := s.conn.convExpired })

/-- RECONNECT_TIMER_EXPIRY (R160, R161). -/
def execReconnectTimerExpiry (s : State) : Result :=
  .next (s.running fun s =>
    s.after s.conn.reconnect.due fun s =>
      s.event fun s => Change.quiet { s with conn := { s.conn with reconnect := .runOut } })

end Sys2Proof.Machine
end

