-- ==== Sys2Proof/Machine/ThermalCommands.lean ====
section
/-! DEFINITION. The requests and the instants of the thermal controller (Chapter 6). -/

namespace Sys2Proof.Machine

/-! ### The requests -/

/-- One duty channel's record replaced. -/
def ThermalState.setChannel (t : ThermalState) (c : DutyChannel) (r : ChannelRecord) : ThermalState :=
  { t with channels := t.channels.set c r }

/-- A channel made MANUAL at a duty (R97). -/
def ChannelRecord.toManual (r : ChannelRecord) (duty : Nat) : ChannelRecord :=
  { r with mode := .manual, manual := some duty }

/-- The answer to COOLING_MANUAL (R97), with its checks in order. -/
def answerCoolingManual (body : List Byte) (q : PortState) (s : State) : Answer :=
  match dutyOfCode (u8 body 0) with
  | none => refuse .range q
  | some c =>
    if !s.config.configured then refuse .unconfigured q
    else if !s.conn.connection.disconnected then refuse .wrongState q
    else
      let duty := min 1000 (u16 body 1)
      let r := (s.thermal.channels.get c).toManual duty
      .event (if duty = u16 body 1 then .ok else .clamped) [] .ifChanged
        (Change.quiet { s with thermal := s.thermal.setChannel c r })

/-- COOLING_MANUAL (R97). -/
def execCoolingManual (p : Port) (s : State) : Result :=
  .next (s.running fun s => s.serve p .coolingManual answerCoolingManual)

/-- The answer to COOLING_AUTO (R98). -/
def answerCoolingAuto (body : List Byte) (q : PortState) (s : State) : Answer :=
  match dutyOfCode (u8 body 0) with
  | none => refuse .range q
  | some c =>
    takenBy (Change.quiet { s with thermal := s.thermal.setChannel c (s.thermal.channels.get c).toAuto })

/-- COOLING_AUTO (R98). -/
def execCoolingAuto (p : Port) (s : State) : Result :=
  .next (s.running fun s => s.serve p .coolingAuto answerCoolingAuto)

/-- A tach record after a taken COOLING_RETRY (R109); the grace timer stays stopped while the forcing holds the
channel at 0 (R105). -/
def TachRecord.retried (r : TachRecord) (held : Bool) : TachRecord :=
  if r.check.isFaulted then { r with check := .healthy, retries := 0, retry := .stopped }.startGrace held else r

/-- COOLING_FAULT for the channels that a taken COOLING_RETRY changes (R109). -/
def retryEvents (tachs : Tachs TachRecord) : List Raised :=
  tachOrder.flatMap fun ch =>
    if (tachs.get ch).check.isFaulted then [broadcast (.coolingFault ch .healthy)] else []

/-- The answer to COOLING_RETRY (R109). -/
def answerCoolingRetry (_ : List Byte) (_ : PortState) (s : State) : Answer :=
  let tachs := Tachs.of fun ch => (s.thermal.tachs.get ch).retried (heldAtZero s.thermal.forcing ch)
  takenBy ⟨{ s with thermal := s.thermal.withTachs tachs }, retryEvents s.thermal.tachs⟩

/-- COOLING_RETRY (R109). -/
def execCoolingRetry (p : Port) (s : State) : Result :=
  .next (s.running fun s => s.serve p .coolingRetry answerCoolingRetry)

/-! ### The timebase (R93, R95) -/

/-- PWM_PERIOD_START (R93, R95, R102). -/
def execPwmPeriodStart (s : State) : Result :=
  .next (s.running fun s =>
    s.after (some s.thermal.pwm.left) fun s =>
      s.event fun s => Change.quiet { s with thermal := s.thermal.periodStart s.config })

/-! ### Tach supervision (R104 to R107) -/

/-- A channel with the note whether it is armed from the start of the window that begins now. -/
def TachRecord.noteArmed (r : TachRecord) (now : Bool) : TachRecord := { r with armedSinceStart := now }

/-- The tach records after the end of a window (R104 to R106). -/
def State.tachsAfterWindow (s : State) : Tachs TachRecord :=
  Tachs.of fun ch =>
    (s.windowEnd ch).noteArmed (armed s.config s.thermal.forcing s.thermal.channels ch (s.windowEnd ch))

/-- COOLING_FAULT for the verdicts of a window (R106). -/
def State.windowEvents (s : State) : List Raised :=
  tachOrder.flatMap fun ch => judgeEvents ch (s.thermal.tachs.get ch).check (s.windowEnd ch).check

/-- TACH_WINDOW_END (R104 to R106, R110). -/
def execTachWindowEnd (s : State) : Result :=
  .next (s.running fun s =>
    s.after (some s.thermal.windowLeft) fun s =>
      s.event fun s =>
        ⟨{ s with thermal := { s.thermal.withTachs s.tachsAfterWindow with windowLeft := Length.tachWindow } },
          s.windowEvents⟩)

/-- A tach record whose grace timer has run out (R105). -/
def TachRecord.graceRunOut (r : TachRecord) : TachRecord := { r with grace := .runOut }

/-- One tach record replaced. -/
def State.setTach (s : State) (ch : TachChannel) (r : TachRecord) : State :=
  { s with thermal := { s.thermal with tachs := s.thermal.tachs.set ch r } }

/-- GRACE_TIMER_EXPIRY (R105). At the instant at which a window begins it counts as run out for that window. -/
def execGraceTimerExpiry (ch : TachChannel) (s : State) : Result :=
  .next (s.running fun s =>
    s.after (s.thermal.tachs.get ch).grace.due fun s =>
      let r := (s.thermal.tachs.get ch).graceRunOut
      s.setTach ch
        (if s.thermal.windowLeft = Length.tachWindow then
          r.noteArmed (armed s.config s.thermal.forcing s.thermal.channels ch r)
        else r))

/-- A channel whose retry timer has run out (R107). -/
def TachRecord.tryAgain (r : TachRecord) (held : Bool) : TachRecord :=
  { r with check := .trying, retry := .stopped }.startGrace held

/-- RETRY_TIMER_EXPIRY (R107). -/
def execRetryTimerExpiry (ch : TachChannel) (s : State) : Result :=
  .next (s.running fun s =>
    if (s.thermal.tachs.get ch).check = .faulted then
      s.after (s.thermal.tachs.get ch).retry.due fun s =>
        s.setTach ch ((s.thermal.tachs.get ch).tryAgain (heldAtZero s.thermal.forcing ch))
    else s)

/-- The filtered level of a tach input takes a value (R104): a pulse is counted at a change from low to high. -/
def TachRecord.level (r : TachRecord) (high : Bool) : TachRecord :=
  { r with filteredHigh := high, pulses := if high && !r.filteredHigh then r.pulses + 1 else r.pulses }

/-- TACH_FILTERED_LEVEL_CHANGE (R104). -/
def execTachFilteredLevelChange (ch : TachChannel) (high : Bool) (s : State) : Result :=
  .next (s.running fun s => s.setTach ch ((s.thermal.tachs.get ch).level high))

/-- RELEASE_PULSE_END (R111): the output returns to its inactive level. -/
def execReleasePulseEnd (s : State) : Result :=
  .next (s.running fun s =>
    s.after s.thermal.releasePulse.due fun s =>
      { s with thermal := { s.thermal with releasePulse := .stopped } })

end Sys2Proof.Machine
end

