-- ==== Sys2Proof/Machine/FireCommands.lean ====
section
/-! DEFINITION. The requests and the instants of the fire controller (Chapter 7). -/

namespace Sys2Proof.Machine

/-! ### The release -/

/-- RELEASED is entered (R133): the fire state, the release pulse, and RELEASE_STARTED. -/
def State.enterReleased (s : State) (entry : ReleaseEntry) : Change :=
  ⟨{ s with
      fire := s.fire.release,
      thermal := { s.thermal with releasePulse := .running s.config.releasePulse } },
    [broadcast (.releaseStarted entry)]⟩

/-- The answer to RELEASE_NOW (R132). -/
def answerReleaseNow (_ : List Byte) (q : PortState) (s : State) : Answer :=
  match s.fire.status with
  | .alarm => takenBy (s.enterReleased .releaseNow)
  | .countdown => takenBy (s.enterReleased .releaseNow)
  | .held => refuse .wrongState q
  | .quiet => refuse .wrongState q
  | .watch => refuse .wrongState q
  | .released => .atPort .ok [] q

/-- RELEASE_NOW (R132). -/
def execReleaseNow (p : Port) (s : State) : Result :=
  .next (s.running fun s => s.serve p .releaseNow answerReleaseNow)

/-- COUNTDOWN_EXPIRY (R131, R133). -/
def execCountdownExpiry (s : State) : Result :=
  .next (s.running fun s =>
    if s.fire.status = .countdown then
      s.after s.fire.countdown.due fun s => s.event fun s => s.enterReleased .countdown
    else s)

/-! ### The hold (R130, R131) -/

/-- The site hold request is set. -/
def FireControl.setSiteHold (f : FireControl) (c : ConfigSet) : FireControl :=
  if f.siteHold then f else { f with siteHold := true }.applyHold c

/-- The answer to HOLD_SET (R130). -/
def answerHoldSet (_ : List Byte) (_ : PortState) (s : State) : Answer :=
  takenBy (Change.quiet { s with fire := s.fire.setSiteHold s.config })

/-- HOLD_SET (R130). -/
def execHoldSet (p : Port) (s : State) : Result :=
  .next (s.running fun s => s.serve p .holdSet answerHoldSet)

/-- The answer to HOLD_CLEAR (R130). -/
def answerHoldClear (_ : List Byte) (_ : PortState) (s : State) : Answer :=
  takenBy (Change.quiet { s with fire := s.fire.dropSiteHold s.config })

/-- HOLD_CLEAR (R130). -/
def execHoldClear (p : Port) (s : State) : Result :=
  .next (s.running fun s => s.serve p .holdClear answerHoldClear)

/-! ### Resetting a fire (R134) -/

/-- The answer to FIRE_RESET (R134). -/
def answerFireReset (_ : List Byte) (q : PortState) (s : State) : Answer :=
  if !s.fire.status.confirmed then .atPort .ok [] q
  else if s.fire.resetAllowed s.config then takenBy (Change.quiet { s with fire := s.fire.reset })
  else refuse .wrongState q

/-- FIRE_RESET (R134). -/
def execFireReset (p : Port) (s : State) : Result :=
  .next (s.running fun s => s.serve p .fireReset answerFireReset)

/-! ### Detectors (R121, R122) -/

/-- A detector record replaced, and the fire state derived afresh outside a sampling event (R127). -/
def State.withDetector (s : State) (i : Nat) (d : Detector) : State :=
  { s with fire := (s.fire.setDetector i d).reassess s.config }

/-- The answer to DETECTOR_ENABLE (R122): it changes an enabled detector in nothing. -/
def answerDetectorEnable (body : List Byte) (q : PortState) (s : State) : Answer :=
  if 15 < u8 body 0 then refuse .range q
  else if (s.fire.detector (u8 body 0)).disablement.isNone then .atPort .ok [] q
  else takenBy (Change.quiet (s.withDetector (u8 body 0) (s.fire.detector (u8 body 0)).enable))

/-- DETECTOR_ENABLE (R122). -/
def execDetectorEnable (p : Port) (s : State) : Result :=
  .next (s.running fun s => s.serve p .detectorEnable answerDetectorEnable)

/-- The answer to DETECTOR_DISABLE (R121), with its checks in order. -/
def answerDetectorDisable (body : List Byte) (q : PortState) (s : State) : Answer :=
  if 15 < u8 body 0 then refuse .range q
  else if s.fire.status.confirmed then refuse .wrongState q
  else takenBy (Change.quiet (s.withDetector (u8 body 0) (s.fire.detector (u8 body 0)).disable))

/-- DETECTOR_DISABLE (R121). -/
def execDetectorDisable (p : Port) (s : State) : Result :=
  .next (s.running fun s => s.serve p .detectorDisable answerDetectorDisable)

/-- DISABLEMENT_EXPIRY (R122). -/
def execDisablementExpiry (i : Nat) (s : State) : Result :=
  .next (s.running fun s =>
    s.after (s.fire.detector i).disablement fun s =>
      s.event fun s => Change.quiet (s.withDetector i (s.fire.detector i).enable))

/-! ### The sampling event (R114) -/

/-- The connection controller receives an emergency open at an entry into a confirmed state from QUIET or WATCH
(R136, R151). -/
def State.openForFire (s : State) (before : FireStatus) : Change :=
  if s.fire.status.confirmed && !before.confirmed then s.withConn (s.conn.emergency .fire .fire)
  else Change.quiet s

/-- FIRE_SAMPLING (R114). -/
def execFireSampling (levels : List Byte) (panel hold : Bool) (s : State) : Result :=
  .next (s.running fun s =>
    s.after (some s.fire.samplingLeft) fun s =>
      s.event fun s =>
        ({ s with fire := s.fire.sampling s.config levels panel hold } : State).openForFire s.fire.status)

end Sys2Proof.Machine
end

