-- ==== Sys2Proof/Machine/ConfigCommands.lean ====
section
/-! DEFINITION. The requests of the configuration set (Chapter 10). -/

namespace Sys2Proof.Machine

/-! ### CONFIG_WRITE (R181, R182) -/

/-- The first check of R181 that fails, after that of the item number: the reason code of WRONG_STATE. -/
def State.writeRefusal (s : State) : Option RefusalReason :=
  if !s.conn.connection.disconnected then some .state
  else if s.fire.status ≠ .quiet then some .fire
  else none

/-- The part leaves CONFIGURED, before the value is stored (R182): the configuration state, the sweep mode with
an abort, and the duty channels. -/
def State.leaveConfigured (s : State) (item : Nat) : Change :=
  if s.config.configured then
    ⟨{ s with
        config := { s.config with configured := false }, chain := s.chain.stop, thermal := s.thermal.allAuto },
      [broadcast (.configLeft item)]⟩
  else Change.quiet s

/-- The detectors after a write of a kind's pre or alarm threshold: those of that kind have their judging runs
set to 0 (R120). -/
def FireControl.thresholdWritten (f : FireControl) (c : ConfigSet) (k : DetectorKind) : FireControl :=
  { f with
    detectors := (List.range 16).map fun i =>
      if c.detectorKind i = k then (f.detector i).clearRuns else f.detector i }

/-- The kind whose thresholds an item from 74 to 79 belongs to (R180). -/
def thresholdKind (item : Nat) : DetectorKind :=
  if item ≤ 75 then .offgas else if item ≤ 77 then .smoke else .heat

/-- What a taken write does to the state of other blocks, once the value is stored (R3, R15, R120). -/
def State.itemEffect (s : State) (item : Nat) : State :=
  if item = 1 then
    { s with chain := { s.chain with records := recordsAfterCount s.chain.records s.config.monitorCount } }
  else if item = 3 then { s with chain := s.chain.writeDivisor s.config.chainDivisor }
  else if 58 ≤ item ∧ item ≤ 73 then s.withDetector (item - 58) (s.fire.detector (item - 58)).kindWritten
  else if 74 ≤ item ∧ item ≤ 79 then
    { s with fire := s.fire.thresholdWritten s.config (thresholdKind item) }
  else s

/-- The value stored, with its effect on other blocks (R181). -/
def State.storeItem (s : State) (item : Nat) (v : ItemValue) : State :=
  { s with config := s.config.store item v }.itemEffect item

/-- A write taken while the part is UNCONFIGURED causes no publication (R45, R182; log entry 20). -/
def writePublication (configured : Bool) : Publication := if configured then .ifChanged else .never

/-- The answer to CONFIG_WRITE (R181), with its checks in order. -/
def answerConfigWrite (body : List Byte) (q : PortState) (s : State) : Answer :=
  match itemRange (u8 body 0) with
  | none => refuse .range q
  | some range =>
    match s.writeRefusal with
    | some reason => refuseFor reason q
    | none =>
      if range.admits (itemField range body 1) then
        .event .ok [] (writePublication s.config.configured)
          ((s.leaveConfigured (u8 body 0)).andThen fun t =>
            Change.quiet (t.storeItem (u8 body 0) (itemField range body 1)))
      else refuse .range q

/-- CONFIG_WRITE (R181, R182). -/
def execConfigWrite (p : Port) (s : State) : Result :=
  .next (s.running fun s => s.serve p .configWrite answerConfigWrite)

/-! ### CONFIG_READ (R183) -/

/-- The answer to CONFIG_READ (R183). -/
def answerConfigRead (body : List Byte) (q : PortState) (s : State) : Answer :=
  match itemRange (u8 body 0) with
  | none => refuse .range q
  | some _ => .atPort .ok (byte1 (u8 body 0) ++ itemBytes (s.config.value (u8 body 0))) q

/-- CONFIG_READ (R183). -/
def execConfigRead (p : Port) (s : State) : Result :=
  .next (s.running fun s => s.serve p .configRead answerConfigRead)

/-! ### CONFIG_ACCEPT (R184, R185) -/

/-- The temperatures of a curve are strictly increasing (R184, check 5). -/
def increasing : List (Int × Int) → Bool
  | [] => true
  | [_] => true
  | a :: b :: rest => decide (a.1 < b.1) && increasing (b :: rest)

/-- The first check of R184 that fails, as its number and detail. -/
def ConfigSet.firstFailure (c : ConfigSet) : Option (Nat × Nat) :=
  if c.monitorCount < 1 then some (1, 0)
  else if c.dischargeTaper ≤ c.dischargeFloor then some (2, 0)
  else if c.chargeCeiling ≤ c.chargeTaper then some (3, 0)
  else if c.hardMax < c.chargeCeiling then some (4, 1)
  else if c.dischargeFloor < c.hardMin then some (4, 2)
  else if !increasing c.chargeCurve then some (5, 0)
  else if !increasing c.dischargeCurve then some (5, 1)
  else if !increasing c.fanCurve then some (5, 2)
  else if c.alarmThreshold .offgas ≤ c.preThreshold .offgas then some (6, detectorKindCode .offgas)
  else if c.alarmThreshold .smoke ≤ c.preThreshold .smoke then some (6, detectorKindCode .smoke)
  else if c.alarmThreshold .heat ≤ c.preThreshold .heat then some (6, detectorKindCode .heat)
  else if !((List.range 16).any fun i =>
      decide (c.detectorKind i = .offgas) || decide (c.detectorKind i = .smoke)) then some (7, 0)
  else if c.heatOff ≤ c.heatOn then some (8, 0)
  else none

/-- A taken acceptance (R185): the configuration state, the monitor records, the sweep mode, the fresh table
(R40), the fan demand and the heater state. -/
def State.accept (s : State) : Change :=
  let records := recordsAfterAccept s.chain.records s.config.monitorCount
  ⟨{ s with
      config := { s.config with configured := true },
      chain := { s.chain with records := records }.startContinuous s.config.sweepPeriod,
      table := s.table.fresh s.config records,
      thermal := { s.thermal with fanDemand := 0, heaterOn := false } },
    [broadcast (.configAccepted s.config.monitorCount)]⟩

/-- The answer to CONFIG_ACCEPT (R184, R185). -/
def answerConfigAccept (_ : List Byte) (q : PortState) (s : State) : Answer :=
  if s.config.configured then .atPort .ok [] q
  else
    match s.config.firstFailure with
    | some (check, detail) => .atPort .wrongState (byte1 check ++ byte1 detail) q
    | none => takenBy s.accept

/-- CONFIG_ACCEPT (R184, R185). -/
def execConfigAccept (p : Port) (s : State) : Result :=
  .next (s.running fun s => s.serve p .configAccept answerConfigAccept)

end Sys2Proof.Machine
end

