-- ==== Sys2Proof/Machine/ChainCommands.lean ====
section
/-! DEFINITION. The requests of the chain controller, the events of the chain line, and the age timer (Chapters 1
and 2). -/

namespace Sys2Proof.Machine

/-! ### The sweep modes (R16 to R18) -/

/-- A taken SWEEP_ONCE (R16). -/
def ChainState.sweepOnce (c : ChainState) : ChainState :=
  if c.mode = .stopped then { c with mode := .single, due := true } else c

/-- The answer to SWEEP_ONCE (R16). -/
def answerSweepOnce (_ : List Byte) (q : PortState) (s : State) : Answer :=
  if s.config.configured then takenBy (Change.quiet (s.withChain s.chain.sweepOnce)) else refuse .unconfigured q

/-- SWEEP_ONCE (R16). -/
def execSweepOnce (p : Port) (s : State) : Result :=
  .next (s.running fun s => s.serve p .sweepOnce answerSweepOnce)

/-- A taken SWEEP_CONTINUOUS (R17). -/
def ChainState.sweepContinuous (c : ChainState) (period : Nat) : ChainState :=
  match c.mode with
  | .continuous => c
  | .stopped => c.startContinuous period
  | .single => c.startPeriod period

/-- The answer to SWEEP_CONTINUOUS (R17). -/
def answerSweepContinuous (_ : List Byte) (q : PortState) (s : State) : Answer :=
  if s.config.configured then
    takenBy (Change.quiet (s.withChain (s.chain.sweepContinuous s.config.sweepPeriod)))
  else refuse .unconfigured q

/-- SWEEP_CONTINUOUS (R17). -/
def execSweepContinuous (p : Port) (s : State) : Result :=
  .next (s.running fun s => s.serve p .sweepContinuous answerSweepContinuous)

/-- The answer to SWEEP_STOP (R18). -/
def answerSweepStop (_ : List Byte) (q : PortState) (s : State) : Answer :=
  if s.conn.connection.disconnected then takenBy (Change.quiet (s.withChain s.chain.sweepStop))
  else refuse .wrongState q

/-- SWEEP_STOP (R18, R19). -/
def execSweepStop (p : Port) (s : State) : Result :=
  .next (s.running fun s => s.serve p .sweepStop answerSweepStop)

/-! ### Periods and sweeps (R11, R13) -/

/-- A period boundary: the due mark is set, and the next boundary is one period away (R13). -/
def ChainState.boundary (c : ChainState) : ChainState :=
  { c with due := true, periodTimer := .running c.periodLength }

/-- PERIOD_BOUNDARY (R13). -/
def execPeriodBoundary (s : State) : Result :=
  .next (s.running fun s => s.after s.chain.periodTimer.due fun s => s.withChain s.chain.boundary)

/-- SWEEP_BEGIN (R11). -/
def execSweepBegin (s : State) : Result :=
  .next (s.running fun s => if s.chain.mayBegin then s.withChain s.chain.beginSweep else s)

/-! ### The chain line (R7, R8, R19, R20) -/

/-- CHAIN_FRAME_SEND (R4, R7, R20). -/
def execChainFrameSend (s : State) : Result :=
  .next (s.running fun s => if s.chain.mayBeginFrame then s.withChain s.sendDueFrame else s)

/-- COMMAND_FRAME_END (R7): the frame time has passed. -/
def execCommandFrameEnd (s : State) : Result :=
  .next (s.running fun s =>
    if s.chain.isSending && decide (s.chain.activity ≠ .clearing) then
      s.after s.chain.linkTimer.due fun s => s.withChain s.chain.awaitReply
    else s)

/-- The quiet interval is running: no frame is being sent and no reply awaited, and the line is not free. -/
def ChainState.isQuieting (c : ChainState) : Bool :=
  !c.lineFree && (decide (c.link = .rest) || decide (c.link = .frameDue))

/-- CHAIN_LINE_FREE (R7, limit 1). -/
def execChainLineFree (s : State) : Result :=
  .next (s.running fun s =>
    if s.chain.isQuieting then s.after s.chain.linkTimer.due fun s => s.withChain s.chain.lineQuiet else s)

/-- CHAIN_REPLY_END (R7 to R9). -/
def execChainReplyEnd (chars : List ChainChar) (s : State) : Result :=
  .next (s.running fun s =>
    match s.chain.awaited with
    | some e => s.endReply e chars
    | none => s)

/-- CHAIN_REPLY_ERROR (R8, R9). -/
def execChainReplyError (chars : List ChainChar) (s : State) : Result :=
  .next (s.running fun s =>
    match s.chain.awaited with
    | some e => s.breakReply e chars
    | none => s)

/-- CHAIN_REPLY_TIMEOUT (R7, limits 2 and 3): without a reply character, the reply timeout has passed. -/
def execChainReplyTimeout (someReceived : Bool) (s : State) : Result :=
  .next (s.running fun s =>
    match s.chain.awaited with
    | some e =>
      if someReceived then s.failAttempt e .timeout (quietLeft s.chain.divisor .timeout true)
      else
        s.after s.chain.linkTimer.due fun s => s.failAttempt e .timeout (quietLeft s.chain.divisor .timeout false)
    | none => s)

/-- BLEED_OFF_SENT (R19). -/
def execBleedOffSent (s : State) : Result :=
  .next (s.running fun s =>
    if s.chain.isSending && decide (s.chain.activity = .clearing) then
      s.after s.chain.linkTimer.due fun s => s.withChain s.chain.bleedOffDone
    else s)

/-! ### The age timer (R33, R47) -/

/-- The cell table with its data AGED (R32, R33). -/
def CellTable.aged (t : CellTable) : CellTable :=
  { t with dataLoss := { t.dataLoss with aged := true }, ageTimer := .runOut }

/-- AGE_TIMER_EXPIRY (R33, R47): the change and its publication are one event. -/
def execAgeTimerExpiry (s : State) : Result :=
  .next (s.running fun s =>
    s.after s.table.ageTimer.due fun s => s.settle .always (Change.quiet { s with table := s.table.aged }))

end Sys2Proof.Machine
end

