-- ==== Sys2Proof/Machine/Dispatch.lean ====
section
/-! DEFINITION. The dispatch: one arm per command, each a direct call of its meaning. -/

namespace Sys2Proof.Machine

/-- The effect of a command on everything but the queue. -/
def exec (i : Instr) (s : State) : Host.Outcome State Fault Refusal :=
  match i with
  | .powerOnReset => Sys2Proof.Machine.execPowerOnReset s
  | .powerOnResetEnd => Sys2Proof.Machine.execPowerOnResetEnd s
  | .requestFrameReceived p chars => Sys2Proof.Machine.execRequestFrameReceived p chars s
  | .interCharacterTimeout p => Sys2Proof.Machine.execInterCharacterTimeout p s
  | .receiverHuntResumed p => Sys2Proof.Machine.execReceiverHuntResumed p s
  | .responseSent p => Sys2Proof.Machine.execResponseSent p s
  | .portReset p => Sys2Proof.Machine.execPortReset p s
  | .unknownKind p => Sys2Proof.Machine.execUnknownKind p s
  | .readStatus p => Sys2Proof.Machine.execReadStatus p s
  | .readEnvelope p => Sys2Proof.Machine.execReadEnvelope p s
  | .setCursor p => Sys2Proof.Machine.execSetCursor p s
  | .readNext p => Sys2Proof.Machine.execReadNext p s
  | .eventRead p => Sys2Proof.Machine.execEventRead p s
  | .eventMask p => Sys2Proof.Machine.execEventMask p s
  | .eventClearOverflow p => Sys2Proof.Machine.execEventClearOverflow p s
  | .attentionLevel p => Sys2Proof.Machine.execAttentionLevel p s
  | .pushCurtail p => Sys2Proof.Machine.execPushCurtail p s
  | .amendCurtail p => Sys2Proof.Machine.execAmendCurtail p s
  | .releaseCurtail p => Sys2Proof.Machine.execReleaseCurtail p s
  | .popCurtail p => Sys2Proof.Machine.execPopCurtail p s
  | .releaseAllCurtail p => Sys2Proof.Machine.execReleaseAllCurtail p s
  | .curtailExpiry handle => Sys2Proof.Machine.execCurtailExpiry handle s
  | .claimWatch p => Sys2Proof.Machine.execClaimWatch p s
  | .releaseWatch p => Sys2Proof.Machine.execReleaseWatch p s
  | .connect p => Sys2Proof.Machine.execConnect p s
  | .disconnect p => Sys2Proof.Machine.execDisconnect p s
  | .unlock p => Sys2Proof.Machine.execUnlock p s
  | .gridTrip p => Sys2Proof.Machine.execGridTrip p s
  | .gridRestored p => Sys2Proof.Machine.execGridRestored p s
  | .permit p => Sys2Proof.Machine.execPermit p s
  | .withdraw p => Sys2Proof.Machine.execWithdraw p s
  | .sweepOnce p => Sys2Proof.Machine.execSweepOnce p s
  | .sweepContinuous p => Sys2Proof.Machine.execSweepContinuous p s
  | .sweepStop p => Sys2Proof.Machine.execSweepStop p s
  | .coolingManual p => Sys2Proof.Machine.execCoolingManual p s
  | .coolingAuto p => Sys2Proof.Machine.execCoolingAuto p s
  | .coolingRetry p => Sys2Proof.Machine.execCoolingRetry p s
  | .holdSet p => Sys2Proof.Machine.execHoldSet p s
  | .holdClear p => Sys2Proof.Machine.execHoldClear p s
  | .releaseNow p => Sys2Proof.Machine.execReleaseNow p s
  | .fireReset p => Sys2Proof.Machine.execFireReset p s
  | .detectorEnable p => Sys2Proof.Machine.execDetectorEnable p s
  | .detectorDisable p => Sys2Proof.Machine.execDetectorDisable p s
  | .configWrite p => Sys2Proof.Machine.execConfigWrite p s
  | .configRead p => Sys2Proof.Machine.execConfigRead p s
  | .configAccept p => Sys2Proof.Machine.execConfigAccept p s
  | .periodBoundary => Sys2Proof.Machine.execPeriodBoundary s
  | .sweepBegin => Sys2Proof.Machine.execSweepBegin s
  | .chainFrameSend => Sys2Proof.Machine.execChainFrameSend s
  | .commandFrameEnd => Sys2Proof.Machine.execCommandFrameEnd s
  | .chainLineFree => Sys2Proof.Machine.execChainLineFree s
  | .chainReplyEnd chars => Sys2Proof.Machine.execChainReplyEnd chars s
  | .chainReplyError chars => Sys2Proof.Machine.execChainReplyError chars s
  | .chainReplyTimeout someReceived => Sys2Proof.Machine.execChainReplyTimeout someReceived s
  | .bleedOffSent => Sys2Proof.Machine.execBleedOffSent s
  | .ageTimerExpiry => Sys2Proof.Machine.execAgeTimerExpiry s
  | .pwmPeriodStart => Sys2Proof.Machine.execPwmPeriodStart s
  | .tachWindowEnd => Sys2Proof.Machine.execTachWindowEnd s
  | .graceTimerExpiry c => Sys2Proof.Machine.execGraceTimerExpiry c s
  | .retryTimerExpiry c => Sys2Proof.Machine.execRetryTimerExpiry c s
  | .releasePulseEnd => Sys2Proof.Machine.execReleasePulseEnd s
  | .fireSampling levels panelActive holdActive => Sys2Proof.Machine.execFireSampling levels panelActive holdActive s
  | .countdownExpiry => Sys2Proof.Machine.execCountdownExpiry s
  | .disablementExpiry detector => Sys2Proof.Machine.execDisablementExpiry detector s
  | .contactorFeedbackChange c feedback => Sys2Proof.Machine.execContactorFeedbackChange c feedback s
  | .disagreementTimerExpiry c => Sys2Proof.Machine.execDisagreementTimerExpiry c s
  | .prechargeTimerExpiry => Sys2Proof.Machine.execPrechargeTimerExpiry s
  | .cooldownExpiry => Sys2Proof.Machine.execCooldownExpiry s
  | .openWaitExpiry => Sys2Proof.Machine.execOpenWaitExpiry s
  | .dataLossOpenExpiry => Sys2Proof.Machine.execDataLossOpenExpiry s
  | .permitLapse => Sys2Proof.Machine.execPermitLapse s
  | .gridLineChange present => Sys2Proof.Machine.execGridLineChange present s
  | .convNoticeTimerExpiry => Sys2Proof.Machine.execConvNoticeTimerExpiry s
  | .reconnectTimerExpiry => Sys2Proof.Machine.execReconnectTimerExpiry s
  | .tachFilteredLevelChange c high => Sys2Proof.Machine.execTachFilteredLevelChange c high s
  | .lineReturnsToMark p => Sys2Proof.Machine.execLineReturnsToMark p s

end Sys2Proof.Machine
end

