-- ==== Sys2Proof/Safety.lean ====
section
/-! DEFINITION. The terms in which claims about the part are made: when a request is taken, what an event leaves,
and the properties that every step keeps. -/

namespace Sys2Proof.Machine

/-! ### Taking a request (R166) -/

/-- The command that takes a request of a kind from a port. -/
def requestCommand (k : RequestKind) (p : Port) : Instr :=
  match k with
  | .readStatus => .readStatus p
  | .readEnvelope => .readEnvelope p
  | .setCursor => .setCursor p
  | .readNext => .readNext p
  | .eventRead => .eventRead p
  | .eventMask => .eventMask p
  | .eventClearOverflow => .eventClearOverflow p
  | .attentionLevel => .attentionLevel p
  | .pushCurtail => .pushCurtail p
  | .amendCurtail => .amendCurtail p
  | .releaseCurtail => .releaseCurtail p
  | .popCurtail => .popCurtail p
  | .releaseAllCurtail => .releaseAllCurtail p
  | .claimWatch => .claimWatch p
  | .releaseWatch => .releaseWatch p
  | .connect => .connect p
  | .disconnect => .disconnect p
  | .unlock => .unlock p
  | .gridTrip => .gridTrip p
  | .gridRestored => .gridRestored p
  | .permit => .permit p
  | .withdraw => .withdraw p
  | .sweepOnce => .sweepOnce p
  | .sweepContinuous => .sweepContinuous p
  | .sweepStop => .sweepStop p
  | .coolingManual => .coolingManual p
  | .coolingAuto => .coolingAuto p
  | .coolingRetry => .coolingRetry p
  | .holdSet => .holdSet p
  | .holdClear => .holdClear p
  | .releaseNow => .releaseNow p
  | .fireReset => .fireReset p
  | .detectorEnable => .detectorEnable p
  | .detectorDisable => .detectorDisable p
  | .configWrite => .configWrite p
  | .configRead => .configRead p
  | .configAccept => .configAccept p

/-- A request stands at the head of the port's queue, and no formed response waits: it is taken now (R166). -/
structure AtHead (s : State) (p : Port) (kind : Byte) (body : List Byte) : Prop where
  running : s.resetHeld = false
  noneWaiting : (s.ports.get p).waiting = []
  head : (s.ports.get p).requests.head? = some ⟨kind, body⟩

/-- A request of a kind is taken and passes the three checks of the port controller (R166). -/
structure Takes (s : State) (p : Port) (k : RequestKind) (body : List Byte) : Prop where
  atHead : AtHead s p k.code body
  permitted : k.permitted p = true
  length : body.length = k.bodyLength

/-- The state with the head request of the port gone and a response to it placed on the response path (R166,
R167). -/
def State.answered (s : State) (p : Port) (kind : Byte) (outcome : Reply) (body : List Byte) : State :=
  s.setPort p ((s.ports.get p).taken.place (responseFrame (responseKind kind) outcome body))

/-! ### What an event leaves -/

/-- The kinds of events that the part raises because an event has changed the state they report: data loss (R34),
hard limits (R36), detector and fire state (R124, R137), cooling state (R110), permit, grid and AC permission
(R156, R158, R161), and the fall of a limit (R61). -/
def Event.reportsChange : Event → Bool
  | .dataLossBegin _ | .dataLossEnd | .hardLimit _ | .detectorState _ _ | .fireState _ _ => true
  | .coolingState _ | .permitState _ | .gridState _ _ _ _ | .acPermission _ | .envelopeFell _ _ => true
  | .contactorFault _ _ | .releaseStarted _ | .connectionState _ _ | .prechargeFailed _ => false
  | .openedUnderLoad _ | .monitorMissing _ _ | .monitorAbsent _ _ | .monitorReturned _ _ => false
  | .coolingFault _ _ | .configAccepted _ | .configLeft _ | .curtailExpired _ => false
  | .curtailDisplaced _ _ | .watchHit _ _ | .watchCleared _ | .watchStarved _ => false

/-- R172: one event of the part offers the first of two events not after the second. The block of the first comes
first, or it is one block and the first comes first there or takes the same place. -/
def OfferedInOrder (a b : Raised) : Prop :=
  a.event.block < b.event.block ∨ (a.event.block = b.event.block ∧ a.event.place ≤ b.event.place)

/-- The events of one event of the part, as they are offered to the ports: those told, and events that report a
change besides, in the order of R172. -/
structure Offers (told raised : List Raised) : Prop where
  all : ∀ r ∈ told, r ∈ raised
  only : ∀ r ∈ raised, r ∈ told ∨ r.event.reportsChange = true
  ordered : raised.Pairwise OfferedInOrder

/-- A published limit has fallen (R61): by the fall margin or more, or to 0. -/
def LimitFell (margin old new : Nat) : Prop := (new < old ∧ margin ≤ old - new) ∨ (0 < old ∧ new = 0)

/-- Of the events that report a change, those raised are exactly those whose state differs between the states before
and after, each once and with its new value: data loss (R34), hard limits (R36), detector and fire state (R124, R137),
cooling state (R110), permit, grid and AC permission (R156, R158, R161), and the fall of a limit (R61). -/
structure ChangesReported (before after : State) (raised : List Raised) : Prop where
  dataLossBegin : ∀ x, broadcast (.dataLossBegin x) ∈ raised ↔
    x = after.table.dataLoss ∧ x.holds = true ∧ before.table.dataLoss.holds = false
  dataLossEnd : broadcast .dataLossEnd ∈ raised ↔
    before.table.dataLoss.holds = true ∧ after.table.dataLoss.holds = false
  hardLimit : ∀ x, broadcast (.hardLimit x) ∈ raised ↔ x = after.table.hardLimits ∧ before.table.hardLimits ≠ x
  detectorState : ∀ i x, broadcast (.detectorState i x) ∈ raised ↔
    i < 16 ∧ x = (after.fire.detector i).state ∧ (before.fire.detector i).state ≠ x
  fireState : ∀ x y, broadcast (.fireState x y) ∈ raised ↔
    x = after.fire.status ∧ y = after.fire.causes ∧ (before.fire.status ≠ x ∨ before.fire.causes ≠ y)
  coolingState : ∀ x, broadcast (.coolingState x) ∈ raised ↔
    x = after.thermal.cooling ∧ before.thermal.cooling ≠ x
  permitState : ∀ x, broadcast (.permitState x) ∈ raised ↔ x = after.conn.permit ∧ before.conn.permit ≠ x
  gridState : ∀ g l v u, broadcast (.gridState g l v u) ∈ raised ↔
    g = after.conn.gridPresent ∧ l = after.conn.linePresent ∧ v = after.conn.convNotice ∧ u = after.conn.utilNotice ∧
    (before.conn.linePresent ≠ l ∨ before.conn.convNotice ≠ v ∨ before.conn.utilNotice ≠ u)
  acPermission : ∀ x, broadcast (.acPermission x) ∈ raised ↔
    x = after.conn.acPermission ∧ before.conn.acPermission ≠ x
  envelopeFell : ∀ x y, broadcast (.envelopeFell x y) ∈ raised ↔
    (x = true ↔ LimitFell after.config.fallMargin before.envelope.record.chargeLimit after.envelope.record.chargeLimit) ∧
    (y = true ↔
      LimitFell after.config.fallMargin before.envelope.record.dischargeLimit after.envelope.record.dischargeLimit) ∧
    (x = true ∨ y = true)
  ownerless : ∀ r ∈ raised, r.event.reportsChange = true → r.owner = none
  once : (raised.filter fun r => r.event.reportsChange).Nodup

/-- An event whose own effect gives u leaves t: all state that does not follow from other state is as in u, and
the events raised, those told among them, have been delivered to the ports. What does follow from other state
is left open here: the envelope (R42 to R61), the relays and the impairment flag (R123, R135), the duties below
the mode and the damper (R95, R96, R100, R102, R103), the tach timers that follow the forcing (R105, R108), and
the connection controller's two timers and AC permission (R148, R160, R161). -/
structure EventLeaves (u : State) (told : List Raised) (t : State) : Prop where
  chain : t.chain = u.chain
  table : t.table = u.table
  stack : t.stack = u.stack
  slots : t.slots = u.slots
  config : t.config = u.config
  clock : t.clock = u.clock
  resetHeld : t.resetHeld = u.resetHeld
  freeReads : t.freeReads = u.freeReads
  pending : t.pending = u.pending
  fire : t.fire =
    { u.fire with
      impaired := t.fire.impaired, alarmRelay := t.fire.alarmRelay, faultRelay := t.fire.faultRelay }
  conn : t.conn =
    { u.conn with
      dataLossOpen := t.conn.dataLossOpen, reconnect := t.conn.reconnect, acPermission := t.conn.acPermission }
  thermal : t.thermal =
    { u.thermal with
      forcing := t.thermal.forcing, channels := t.thermal.channels, damperOpen := t.thermal.damperOpen,
      tachs := t.thermal.tachs }
  modes : ∀ c, (t.thermal.channels.get c).mode = (u.thermal.channels.get c).mode ∧
    (t.thermal.channels.get c).manual = (u.thermal.channels.get c).manual
  checks : ∀ ch, t.thermal.tachs.get ch =
    { u.thermal.tachs.get ch with
      grace := (t.thermal.tachs.get ch).grace, retry := (t.thermal.tachs.get ch).retry,
      armedSinceStart := (t.thermal.tachs.get ch).armedSinceStart }
  ports : ∃ raised : List Raised, Offers told raised ∧
    ∀ p, t.ports.get p = (u.ports.get p).deliver p t.uptime t.table.sweepNumber raised

/-! ### Records that the masters read (Chapter 11) -/

/-- The code of a member of an enumeration whose members are given in the order of R190 (R188). -/
def codeIn {α : Type} [DecidableEq α] (members : List α) (x : α) : Byte := BitVec.ofNat 8 (members.idxOf x)

/-- The bit mask of a set that is given member by member in the order of R190: member k is bit k (R188). -/
def maskIn (members : List Bool) : Nat := (members.zipIdx.map fun m => if m.1 then 2 ^ m.2 else 0).sum

/-- An owner byte (R190). -/
def ownerByte : Owner → Byte
  | .port p => codeIn [.conv, .site, .util] p
  | .slot k => BitVec.ofNat 8 (16 + k)

/-- Connection state, opening kind, phase and lock cause, the last three FFh where R155 has them absent (R190). -/
structure ConnectionBytes where
  state : Byte
  kind : Byte
  phase : Byte
  cause : Byte

/-- R190 and R155: the four bytes of a connection state. -/
def connectionBytes : Connection → ConnectionBytes
  | .opened => ⟨0, 0xFF, 0xFF, 0xFF⟩
  | .precharging phase => ⟨1, 0xFF, match phase with | .negWait => 0 | .charging => 1, 0xFF⟩
  | .closing => ⟨2, 0xFF, 0xFF, 0xFF⟩
  | .closed => ⟨3, 0xFF, 0xFF, 0xFF⟩
  | .opening kind phase =>
    ⟨4, match kind with | .normal => 0 | .abort => 1 | .emergency _ _ => 2,
      match phase with | .wait => 2 | .mains => 3 | .neg => 4,
      match kind with
      | .emergency cause _ => codeIn [.fire, .hardLimit, .contactor, .precharge] cause
      | .normal | .abort => 0xFF⟩
  | .lockedOut cause => ⟨5, 0xFF, 0xFF, codeIn [.fire, .hardLimit, .contactor, .precharge] cause⟩

/-- One row of the table of event kinds: kind code, class code, subject, and the bytes 5 to 8 of the value (R192). -/
structure EventRow where
  kind : Byte
  eventClass : Byte
  subject : Option Nat
  value : Option (List Byte)

/-- R192's table of event kinds, with the classes of section 9.4 in the code order of R190. -/
def eventRow : Event → EventRow
  | .hardLimit x => ⟨0x01, 0, none, some [0, 0, 0, BitVec.ofNat 8 (maskIn [x.cellHigh, x.cellLow, x.tempHigh])]⟩
  | .contactorFault k command =>
    ⟨0x02, 0, some ([Contactor.neg, .pre, .pos].idxOf k), some [0, 0, 0, codeIn [.opened, .closed] command]⟩
  | .detectorState i state =>
    ⟨0x03, 0, some i, some [0, 0, 0, codeIn [.normal, .pre, .alarm, .fault, .disabled] state]⟩
  | .fireState status x =>
    ⟨0x04, 0, none,
      some [0, 0, codeIn [.quiet, .watch, .alarm, .countdown, .held, .released] status,
        BitVec.ofNat 8 (maskIn [x.offgas, x.smoke, x.heat, x.manual, x.panel])]⟩
  | .releaseStarted entry => ⟨0x05, 0, none, some [0, 0, 0, codeIn [.countdown, .releaseNow] entry]⟩
  | .connectionState now reason =>
    ⟨0x10, 1, none,
      some [(connectionBytes now).state, (connectionBytes now).kind, (connectionBytes now).cause,
        codeIn
          [.connect, .precharged, .connected, .disconnect, .dataLoss, .fire, .hardLimit, .contactor,
            .prechargeFailed, .opened, .unlock] reason]⟩
  | .prechargeFailed n => ⟨0x11, 1, none, some (byte4 n)⟩
  | .openedUnderLoad current => ⟨0x12, 1, none, current.map fun i => byte4 (BitVec.ofInt 32 i).toNat⟩
  | .permitState state => ⟨0x13, 1, none, some [0, 0, 0, codeIn [.granted, .lapsed, .withdrawn] state]⟩
  | .gridState grid line conv util => ⟨0x14, 1, none, some [0, 0, 0, BitVec.ofNat 8 (maskIn [grid, line, conv, util])]⟩
  | .acPermission asserted => ⟨0x15, 1, none, some [0, 0, 0, if asserted then 1 else 0]⟩
  | .envelopeFell charge discharge => ⟨0x20, 2, none, some [0, 0, 0, BitVec.ofNat 8 (maskIn [charge, discharge])]⟩
  | .monitorMissing a e =>
    ⟨0x30, 3, some a, some [0, 0, 0, codeIn [.timeout, .framing, .check, .address, .monitorFault] e]⟩
  | .monitorAbsent a e =>
    ⟨0x31, 3, some a, some [0, 0, 0, codeIn [.timeout, .framing, .check, .address, .monitorFault] e]⟩
  | .monitorReturned a n => ⟨0x32, 3, some a, some (byte4 n)⟩
  | .dataLossBegin x =>
    ⟨0x33, 3, none, some [0, 0, 0, BitVec.ofNat 8 (maskIn [x.absentMonitor, x.noTemperature, x.aged])]⟩
  | .dataLossEnd => ⟨0x34, 3, none, none⟩
  | .coolingFault ch state =>
    ⟨0x40, 4, some ([TachChannel.fanA, .fanB, .pump].idxOf ch),
      some [0, 0, 0, codeIn [.healthy, .faulted, .trying, .latched] state]⟩
  | .coolingState state => ⟨0x41, 4, none, some [0, 0, 0, codeIn [.normal, .degraded, .lost] state]⟩
  | .configAccepted n => ⟨0x50, 7, none, some (byte4 n)⟩
  | .configLeft n => ⟨0x51, 7, some n, none⟩
  | .curtailExpired h => ⟨0x60, 5, some h, none⟩
  | .curtailDisplaced h new => ⟨0x61, 5, some h, some (byte4 new)⟩
  | .watchHit k i => ⟨0x70, 6, some k, some (byte4 i)⟩
  | .watchCleared k => ⟨0x71, 6, some k, none⟩
  | .watchStarved k => ⟨0x72, 6, some k, none⟩

/-! ### Watch table (Chapter 5) -/

/-- R85: an item of a quantity is usable, and this is the value that it is compared at. -/
def ItemUsableAt (s : State) (q : Quantity) (i : Nat) (v : Int) : Prop :=
  match q with
  | .cellV => ∃ r, s.table.cells[i]? = some r ∧ (r.state = .known ∨ r.state = .stale) ∧ v = r.voltage
  | .cellT => ∃ r, s.table.points[i]? = some r ∧ (r.state = .known ∨ r.state = .stale) ∧ v = r.temperature
  | .stringI => (s.table.string.state = .known ∨ s.table.string.state = .stale) ∧ v = s.table.string.current
  | .dcLinkV => (s.table.string.state = .known ∨ s.table.string.state = .stale) ∧ v = s.table.string.dcLink
  | .detector =>
    s.config.detectorKind i ≠ .none ∧
    ((s.fire.detector i).state = .normal ∨ (s.fire.detector i).state = .pre ∨ (s.fire.detector i).state = .alarm) ∧
    v = (s.fire.detector i).level

/-- R85: an item of the specification's range is usable and satisfies its comparison. -/
def ItemSatisfies (s : State) (w : WatchSpec) (i : Nat) : Prop :=
  w.first ≤ i ∧ i ≤ w.last ∧ ∃ v, ItemUsableAt s w.quantity i v ∧
    match w.comparison with
    | .ge => w.threshold ≤ v
    | .lt => v < w.threshold

/-- R86: the effective condition of a claimed slot. -/
def EffectiveCondition (s : State) (k : Nat) (c : Claim) : Prop :=
  (∃ i, ItemSatisfies s c.spec i) ∧
  (c.spec.chain = true → ∃ d, s.claim (k + 1) = some d ∧ ∃ i, ItemSatisfies s d.spec i)

/-- R81: a slot is chained from above. -/
def ChainedFromAbove (s : State) (k : Nat) : Prop := ∃ j c, k = j + 1 ∧ s.claim j = some c ∧ c.spec.chain = true

/-! ### Thermal controller and fire controller -/

/-- A tach channel is armed (R105). -/
structure Armed (s : State) (ch : TachChannel) : Prop where
  duty : 200 ≤ (s.thermal.channels.get (dutyOf ch)).active
  grace : (s.thermal.tachs.get ch).grace = .runOut
  unheld : s.thermal.forcing.get (dutyOf ch) ≠ some 0
  checked : 0 < s.config.tachMinimum ch
  judged : (s.thermal.tachs.get ch).check = .healthy ∨ (s.thermal.tachs.get ch).check = .trying

/-- A tach window that ends now is valid for a channel, and its rate is judged (R105, R106): the channel has been
armed from the window's start, and is armed at its end. -/
structure WindowValid (s : State) (ch : TachChannel) : Prop extends Armed s ch where
  fromStart : (s.thermal.tachs.get ch).armedSinceStart = true

/-- R99: the fan demand of a Tmax. From the first breakpoint on, the fan curve goes as R51 has the envelope's. -/
def fanDemandFor (c : ConfigSet) (tmax : Option (Int × Nat)) : Nat :=
  match tmax with
  | none => 0
  | some (t, _) =>
    let raw := if t < (c.fanCurve.headD (0, 0)).1 then 0 else (envelopeCurve c.fanCurve t).toNat
    if 0 < raw ∧ raw < 200 then 200 else raw

/-- R99, R101: fan demand and heater state after a sweep completion, from the snapshot it has taken. -/
structure MeasuredBy (c : ConfigSet) (a : Aggregates) (before after : ThermalState) : Prop where
  fan : after.fanDemand = fanDemandFor c a.tmax
  absent : a.tmin = none → after.heaterOn = false
  cold : ∀ t i, a.tmin = some (t, i) → t < c.heatOn → after.heaterOn = true
  warm : ∀ t i, a.tmin = some (t, i) → c.heatOn ≤ t → c.heatOff ≤ t → after.heaterOn = false
  between : ∀ t i, a.tmin = some (t, i) → c.heatOn ≤ t → t < c.heatOff → after.heaterOn = before.heaterOn

/-- R100: the automatic demands are those of its table, with this blind duty. -/
structure DemandsFollow (s : State) (blind : Nat) : Prop where
  fans : ∀ c, c = .fanA ∨ c = .fanB → (s.thermal.channels.get c).automatic =
    if s.table.dataLoss.holds then blind else s.thermal.fanDemand
  pump : s.thermal.channels.pump.automatic =
    if s.table.dataLoss.holds then blind
    else if s.conn.connection = .closed ∨ 0 < s.thermal.fanDemand then 600 else 0
  exhaust : s.thermal.channels.exhaust.automatic = 0
  heater : s.thermal.channels.heater.automatic =
    if s.table.dataLoss.holds = false ∧ s.thermal.heaterOn = true ∧ s.thermal.fanDemand = 0 ∧
      s.fire.status = .quiet then 1000 else 0

/-- R106, as its table gives it: the check state and the retry count after a valid window of this rate. -/
def verdictOf (check : CheckState) (retries : Nat) (fast : Bool) : CheckState × Nat :=
  match check, fast with
  | .healthy, false => (.faulted, 0)
  | .trying, true => (.healthy, 0)
  | .trying, false => if 3 ≤ retries + 1 then (.latched, retries + 1) else (.faulted, retries + 1)
  | c, _ => (c, retries)

/-- A detector of the kind is in service and in PRE or ALARM (section 7.1). -/
def KindAlerted (c : ConfigSet) (f : FireControl) (k : DetectorKind) : Prop :=
  k ≠ .none ∧ ∃ i < 16, c.detectorKind i = k ∧
    ((f.detector i).state = .pre ∨ (f.detector i).state = .alarm)

/-- A detector of the kind is in service and in ALARM. -/
def KindAlarmed (c : ConfigSet) (f : FireControl) (k : DetectorKind) : Prop :=
  k ≠ .none ∧ ∃ i < 16, c.detectorKind i = k ∧ (f.detector i).state = .alarm

/-- R126: what confirms a fire. -/
def FireSeen (c : ConfigSet) (f : FireControl) : Prop :=
  KindAlarmed c f .offgas ∨ KindAlarmed c f .heat ∨ KindAlarmed c f .manual ∨
  (∃ i < 16, c.detectorKind i = .smoke ∧ (f.detector i).state = .alarm ∧
    ∃ j < 16, j ≠ i ∧ c.detectorKind j ≠ .none ∧
      ((f.detector j).state = .pre ∨ (f.detector j).state = .alarm)) ∨
  f.panelLatch = true

/-- The kinds now in PRE or ALARM are the members of the cause set, PANEL as given (R127, R128). -/
structure CausesAre (c : ConfigSet) (f : FireControl) (panel : Bool) : Prop where
  offgas : f.causes.offgas = true ↔ KindAlerted c f .offgas
  smoke : f.causes.smoke = true ↔ KindAlerted c f .smoke
  heat : f.causes.heat = true ↔ KindAlerted c f .heat
  manual : f.causes.manual = true ↔ KindAlerted c f .manual
  panel : f.causes.panel = panel

/-- R127: without a confirmed fire, the fire state is WATCH or QUIET by the detectors. -/
structure WatchFollows (c : ConfigSet) (f : FireControl) : Prop where
  watch : (∃ k, KindAlerted c f k) → f.status = .watch
  quiet : (¬ ∃ k, KindAlerted c f k) → f.status = .quiet
  causes : CausesAre c f false

/-! ### Properties that every step keeps -/

/-- A fire that stops trading: the fire state is one of the confirmed states (section 7.3). -/
def State.fireConfirmed (s : State) : Prop :=
  s.fire.status = .alarm ∨ s.fire.status = .countdown ∨ s.fire.status = .held ∨ s.fire.status = .released

/-- One of the gates that force both limits to 0 holds (R56). -/
def State.bothGated (s : State) : Prop :=
  s.config.configured = false ∨ s.table.dataLoss.holds = true ∨ s.conn.acPermission = false ∨ s.fireConfirmed

/-- R56: while a gate holds for a limit, the limit is 0. -/
structure GatesHold (s : State) : Prop where
  both : s.bothGated → s.envelope.record.chargeLimit = 0 ∧ s.envelope.record.dischargeLimit = 0
  watch : s.fire.status = .watch → s.envelope.record.chargeLimit = 0

/-- R55: no published limit stands above a cap held in the stack. -/
structure WithinCaps (s : State) : Prop where
  charge : ∀ e ∈ s.stack.entries, ∀ c, e.chargeCap = some c → s.envelope.record.chargeLimit ≤ c
  discharge : ∀ e ∈ s.stack.entries, ∀ c, e.dischargeCap = some c → s.envelope.record.dischargeLimit ≤ c

/-- R180, R181, R184: every item holds a value of its range, and the items of a CONFIGURED part pass the checks of
acceptance. -/
structure ItemsSound (c : ConfigSet) : Prop where
  count : c.items.length = 89
  ranges : ∀ n range, itemRange n = some range → range.admits (c.value n) = true
  accepted : c.configured = true → c.firstFailure = none

/-- R58: both limits lie between 0 and I_rated, and each power limit is the floor of its current limit times the
published string voltage sum, divided by 1,000,000. -/
structure LimitsRated (s : State) : Prop where
  charge : s.envelope.record.chargeLimit ≤ s.config.ratedCurrent
  discharge : s.envelope.record.dischargeLimit ≤ s.config.ratedCurrent
  chargePower :
    s.envelope.record.chargePower = s.envelope.record.chargeLimit * s.envelope.record.vsum / 1000000
  dischargePower :
    s.envelope.record.dischargePower = s.envelope.record.dischargeLimit * s.envelope.record.vsum / 1000000

/-- The handle of a live entry of origin FALLBACK. -/
def StackState.holdsFallback (st : StackState) (h : Nat) : Prop :=
  ∃ e ∈ st.entries, e.handle = h ∧ e.origin = .fallback

/-- The curtailment stack with the watch slots and the permit record, which hold handles of its entries
(R63 to R65, R73, R74, R81, R89). -/
structure StackSound (s : State) : Prop where
  /-- R63: at most 8 entries. -/
  depth : s.stack.entries.length ≤ 8
  /-- R63: no two live entries carry the same handle. -/
  distinct : (s.stack.entries.map Entry.handle).Nodup
  /-- Section 4.1: handles lie from 1 to 255. -/
  handles : ∀ e ∈ s.stack.entries, 1 ≤ e.handle ∧ e.handle ≤ 255
  next : 1 ≤ s.stack.nextHandle ∧ s.stack.nextHandle ≤ 255
  /-- R63: an entry carries at least one of its two caps. -/
  capped : ∀ e ∈ s.stack.entries, e.chargeCap ≠ none ∨ e.dischargeCap ≠ none
  /-- Section 4.1: the origin and the owner go together, and only DIRECT entries carry a remaining time (R65). -/
  origins : ∀ e ∈ s.stack.entries,
    (e.origin = .direct ∧ ∃ p, e.owner = .port p) ∨
    (e.origin = .watch ∧ (∃ k, e.owner = .slot k) ∧ e.remaining = none) ∨
    (e.origin = .fallback ∧ e.owner = .port .util ∧ e.remaining = none)
  /-- There are eight slots. -/
  slots : s.slots.length = 8
  /-- R89: the entry of a slot is the live WATCH entry that the slot owns. -/
  held : ∀ k c h, s.claim k = some c → c.entry = some h →
    ∃ e ∈ s.stack.entries, e.handle = h ∧ e.owner = .slot k
  owned : ∀ e ∈ s.stack.entries, ∀ k, e.owner = .slot k →
    ∃ c, s.claim k = some c ∧ c.entry = some e.handle
  /-- R78: a CURTAIL slot carries a cap. -/
  specs : ∀ k c, s.claim k = some c → c.spec.action = .curtail →
    c.spec.chargeCap ≠ none ∨ c.spec.dischargeCap ≠ none
  /-- R81: a chained slot and the slot it chains to have one owner. -/
  chains : ∀ k c, s.claim k = some c → c.spec.chain = true →
    ∃ d, s.claim (k + 1) = some d ∧ d.owner = c.owner
  /-- R74, R156: the permit record names the FALLBACK entry, which stands while the permit is LAPSED, and a
  duration timer runs only in GRANTED. -/
  fallback : ∀ h, s.conn.fallbackHandle = some h ↔ s.stack.holdsFallback h
  lapsed : s.conn.permit = .lapsed ↔ s.conn.fallbackHandle ≠ none
  timed : s.conn.permitTimer.due ≠ none → s.conn.permit = .granted

/-- The commands of NEG, PRE and POS that go with a connection state (section 8.2, R150). -/
def Connection.commands : Connection → Switch → Switch → Switch → Prop
  | .opened, neg, pre, pos => neg = .opened ∧ pre = .opened ∧ pos = .opened
  | .lockedOut _, neg, pre, pos => neg = .opened ∧ pre = .opened ∧ pos = .opened
  | .precharging .negWait, neg, pre, pos => neg = .closed ∧ pre = .opened ∧ pos = .opened
  | .precharging .charging, neg, pre, pos => neg = .closed ∧ pre = .closed ∧ pos = .opened
  | .closing, neg, _, pos => neg = .closed ∧ pos = .closed
  | .closed, neg, pre, pos => neg = .closed ∧ pre = .opened ∧ pos = .closed
  | .opening .normal .wait, neg, pre, pos => neg = .closed ∧ pre = .opened ∧ pos = .closed
  | .opening .normal .mains, neg, pre, pos => neg = .closed ∧ pre = .opened ∧ pos = .opened
  | .opening (.emergency _ _) .mains, neg, pre, pos => neg = .closed ∧ pre = .opened ∧ pos = .opened
  | .opening _ .neg, neg, pre, pos => neg = .opened ∧ pre = .opened ∧ pos = .opened
  | .opening .abort .wait, _, _, _ => False
  | .opening .abort .mains, _, _, _ => False
  | .opening (.emergency _ _) .wait, _, _, _ => False

/-- The connection is being opened as an emergency, or is locked out. -/
def Connection.secured : Connection → Prop
  | .lockedOut _ => True
  | .opening (.emergency _ _) _ => True
  | .opening .normal _ | .opening .abort _ | .opened | .precharging _ | .closing | .closed => False

/-- The connection controller: its commands and its timers go with its state (section 8.2, R144 to R152), and its
reconnect timer with the grid (R160). -/
structure ConnectionSound (s : State) : Prop where
  commands : s.conn.connection.commands s.conn.contactors.neg.command s.conn.contactors.pre.command
    s.conn.contactors.pos.command
  precharge : s.conn.precharge.isRunning = true ↔ s.conn.connection = .precharging .charging
  openWait : s.conn.openWait.isRunning = true ↔ s.conn.connection = .opening .normal .wait
  dataLossOpen : s.conn.dataLossOpen.isRunning = true ↔
    s.conn.connection = .closed ∧ s.table.dataLoss.holds = true
  attempts : s.conn.attempts ≤ 3
  third : s.conn.attempts = 3 → s.conn.connection.isLocked = true
  /-- R151: a confirmed fire has opened or locked the string. -/
  fire : s.fireConfirmed → s.conn.connection.secured
  /-- R152: so has a set hard-limit flag. -/
  hardLimit : s.table.hardLimits.flag = true → s.conn.connection.secured

/-- R160, R161: the reconnect timer follows the grid, and AC permission its five conditions. -/
structure PermissionFollows (s : State) : Prop where
  absent : s.conn.gridPresent = false → s.conn.reconnect = .stopped
  present : s.conn.gridPresent = true → s.conn.reconnect.isRunning = true ∨ s.conn.reconnect = .runOut
  permission : s.conn.acPermission = true ↔
    s.conn.connection = .closed ∧ (s.conn.permit = .granted ∨ s.conn.permit = .lapsed) ∧
    s.conn.gridPresent = true ∧ s.conn.reconnect = .runOut ∧ (s.fire.status = .quiet ∨ s.fire.status = .watch)

/-- R123, R135: the impairment flag and the relays follow the detectors and the fire state. -/
structure RelaysFollow (s : State) : Prop where
  impaired : s.fire.impaired = true ↔
    2 ≤ ((List.range 16).filter fun i => decide (s.config.detectorKind i = .offgas) &&
      (decide ((s.fire.detector i).state = .fault) || decide ((s.fire.detector i).state = .disabled))).length
  faultRelay : s.fire.faultRelay = true ↔
    (∃ i < 16, (s.fire.detector i).state = .fault) ∨ s.fire.impaired = true
  alarmRelay : s.fire.alarmRelay = true ↔ s.fireConfirmed

/-- R127, R130, R131: the fire state goes with the detectors while no fire is confirmed, the countdown timer runs in
COUNTDOWN alone, and the hold parts COUNTDOWN from HELD. -/
structure FireSound (s : State) : Prop where
  unconfirmed : ¬ s.fireConfirmed → WatchFollows s.config s.fire
  countdown : s.fire.countdown.isRunning = true ↔ s.fire.status = .countdown
  unheld : s.fire.status = .countdown → s.fire.hold = false
  held : s.fire.status = .held → s.fire.hold = true

/-- R103, as its table gives it: the value the forcing gives each channel, if it gives one. -/
def forcedBy (status : FireStatus) (causes : CauseSet) (c : DutyChannel) : Option Nat :=
  match status, c with
  | _, .pump => none
  | .quiet, _ => none
  | _, .heater => some 0
  | .watch, .exhaust => if causes.offgas then some 1000 else none
  | .watch, _ => none
  | .released, _ => some 0
  | _, .exhaust => if causes = ⟨true, false, false, false, false⟩ then some 1000 else some 0
  | _, _ => some 0

/-- A check state other than HEALTHY (section 6.6). -/
def State.faulted (s : State) (ch : TachChannel) : Prop := (s.thermal.tachs.get ch).check ≠ .healthy

/-- R96, R102, R103, R110: forcing, selected and shadow duties, damper and cooling state follow. -/
structure DutiesFollow (s : State) : Prop where
  forcing : ∀ c, s.thermal.forcing.get c = forcedBy s.fire.status s.fire.causes c
  unconfigured : s.config.configured = false → ∀ c, (s.thermal.channels.get c).selected = 0
  forced : s.config.configured = true → ∀ c d, s.thermal.forcing.get c = some d →
    (s.thermal.channels.get c).selected = d
  manual : s.config.configured = true → ∀ c, s.thermal.forcing.get c = none →
    (s.thermal.channels.get c).mode = .manual →
    some (s.thermal.channels.get c).selected = (s.thermal.channels.get c).manual
  automatic : s.config.configured = true → ∀ c, s.thermal.forcing.get c = none →
    (s.thermal.channels.get c).mode = .auto →
    (s.thermal.channels.get c).selected = (s.thermal.channels.get c).automatic
  shadow : ∀ c, (s.thermal.channels.get c).shadow = (s.thermal.channels.get c).selected
  modes : ∀ c, (s.thermal.channels.get c).mode = .manual ↔ (s.thermal.channels.get c).manual ≠ none
  damper : s.thermal.damperOpen = true ↔
    0 < s.thermal.channels.fanA.active ∨ 0 < s.thermal.channels.fanB.active ∨
    0 < s.thermal.channels.exhaust.active
  lost : s.thermal.cooling = .lost ↔ s.faulted .pump ∨ (s.faulted .fanA ∧ s.faulted .fanB)
  normal : s.thermal.cooling = .normal ↔ ¬ s.faulted .fanA ∧ ¬ s.faulted .fanB ∧ ¬ s.faulted .pump

/-- The bounds of a port controller's state (the table that opens Chapter 9; R165, R167, R169, R174, R176). -/
structure PortBounded (q : PortState) : Prop where
  requests : q.requests.length ≤ 4
  waiting : q.waiting.length ≤ 8
  sending : q.waiting ≠ [] → q.sending ≠ none
  events : q.events.length ≤ 16
  cursor : q.cursorBank ≤ 7 ∧ q.cursorIndex < bankSize q.cursorBank
  attention : 1 ≤ q.attention ∧ q.attention ≤ 16
  mask : q.mask.getLsbD 0 = true

/-- R14, R15: a monitor record's state goes with its miss count. -/
structure RecordSound (r : MonitorRecord) : Prop where
  unconfigured : r.state = .unconfigured → r.missCount = 0 ∧ r.lastError = none ∧ r.lastGood = none
  present : r.state = .present → r.missCount = 0 ∧ r.lastError = none ∧ r.lastGood ≠ none
  missing : r.state = .missing → 1 ≤ r.missCount ∧ r.missCount ≤ 2
  absent : r.state = .absent → 3 ≤ r.missCount ∧ r.missCount ≤ 255

/-- R3, R10, R14, R15: the chain controller's records, buffer and divisors. -/
structure ChainSound (s : State) : Prop where
  count : s.chain.records.length = 33
  buffer : s.chain.buffer.length = 33
  records : ∀ r ∈ s.chain.records, RecordSound r
  /-- R3: the item's value is active, or held as the deferred divisor of a busy chain. -/
  divisor : s.chain.deferredDivisor.getD s.chain.divisor = s.config.chainDivisor
  busy : s.chain.deferredDivisor ≠ none → s.chain.activity ≠ .idle
  /-- R13: the period timer runs in CONTINUOUS alone. -/
  period : s.chain.periodTimer.isRunning = true ↔ s.chain.mode = .continuous
  due : s.chain.mode = .stopped → s.chain.due = false

end Sys2Proof.Machine
end

