-- ==== Sys2Proof/Certificates/Slice0/Obligations.lean ====
section
/-! DEFINITION. The statements about the part, for the provers. Each says which rules of the manual it formalises;
a clause that rests on a choice of the model names its log entry. -/

open Sys2Proof Sys2Proof.Machine

/-! ### The block and its queue -/

/-- A step executes the command at the front of the queue on the state with the queue's rest: each command is one step
of the part, whole and indivisible. The queue of waiting commands is the model's own (log entry 3). -/
def Obligations.StepRunsFrontCommand : Prop :=
  ∀ (c : Instr) (rest : List Instr) (s : State), s.pending = c :: rest →
    step s = exec c { s with pending := rest }

/-- On an empty queue one microsecond passes (the model's choice, log entry 2): a running timer holds one
microsecond less, a timer that does not run stays, and nothing else changes. While power-on reset is held nothing
changes at all (R186; log entry 3). -/
def Obligations.EmptyQueuePassesTime : Prop :=
  (∀ s : State, s.pending = [] →
     (s.resetHeld = true → step s = .next s) ∧
     (s.resetHeld = false →
       ∃ t, step s = .next t ∧ t.clock = s.clock + 1 ∧ t.pending = [] ∧ t.resetHeld = false ∧
         t.envelope = s.envelope ∧ t.slots = s.slots ∧ t.ports = s.ports ∧ t.config = s.config ∧
         t.freeReads = s.freeReads ∧
         t.chain = { s.chain with
           periodTimer := s.chain.periodTimer.pass 1, linkTimer := s.chain.linkTimer.pass 1 } ∧
         t.table = { s.table with ageTimer := s.table.ageTimer.pass 1 } ∧
         t.stack = { s.stack with
           entries := s.stack.entries.map fun e => { e with remaining := e.remaining.map (· - 1) } } ∧
         t.fire = { s.fire with
           detectors := s.fire.detectors.map fun d => { d with disablement := d.disablement.map (· - 1) },
           countdown := s.fire.countdown.pass 1, samplingLeft := s.fire.samplingLeft - 1 } ∧
         t.thermal = { s.thermal with
           pwm := { s.thermal.pwm with left := s.thermal.pwm.left - 1 },
           windowLeft := s.thermal.windowLeft - 1, releasePulse := s.thermal.releasePulse.pass 1,
           tachs := Tachs.of fun ch =>
             { s.thermal.tachs.get ch with
               grace := (s.thermal.tachs.get ch).grace.pass 1,
               retry := (s.thermal.tachs.get ch).retry.pass 1 } } ∧
         t.conn = { s.conn with
           contactors :=
             ⟨{ s.conn.contactors.neg with disagreement := s.conn.contactors.neg.disagreement.pass 1 },
              { s.conn.contactors.pre with disagreement := s.conn.contactors.pre.disagreement.pass 1 },
              { s.conn.contactors.pos with disagreement := s.conn.contactors.pos.disagreement.pass 1 }⟩,
           precharge := s.conn.precharge.pass 1, cooldown := s.conn.cooldown.pass 1,
           openWait := s.conn.openWait.pass 1, dataLossOpen := s.conn.dataLossOpen.pass 1,
           permitTimer := s.conn.permitTimer.pass 1, convTimer := s.conn.convTimer.pass 1,
           reconnect := s.conn.reconnect.pass 1 })) ∧
  (∀ n dt : Nat, (Timer.running n).pass dt = .running (n - dt) ∧ Timer.stopped.pass dt = .stopped ∧
     (Timer.paused n).pass dt = .paused n ∧ Timer.runOut.pass dt = .runOut)

/-- Every command answers a next state: the manual gives each an outcome or an effect in every state (DEDUCED, log
entry 25). And no command touches the queue of those that wait (the model's choice, log entry 3: a power-on reset
keeps the queue as well). -/
def Obligations.EveryCommandCompletesAndKeepsQueue : Prop :=
  ∀ (c : Instr) (s : State), ∃ t, exec c s = .next t ∧ t.pending = s.pending

/-- POWER_ON_RESET and POWER_ON_RESET_END, taken in any state, give every block its value after reset, with the
outputs of R186 while the reset is held; and while it is held, no other command changes anything. Beside R186 and R187
this rests on log entry 3: the queue and the count of free reads are the model's own and are kept; that the blocks stand
at their reset values while the reset is held, and that other commands change nothing then, is DEDUCED; and that
POWER_ON_RESET_END has its effect with no reset held is a DESIGN CHOICE. -/
def Obligations.PowerOnResetGivesResetState : Prop :=
  (∀ s : State,
     exec .powerOnReset s =
       .next { State.reset with resetHeld := true, freeReads := s.freeReads, pending := s.pending } ∧
     exec .powerOnResetEnd s =
       .next { State.reset with resetHeld := false, freeReads := s.freeReads, pending := s.pending } ∧
     ({ State.reset with resetHeld := true, freeReads := s.freeReads, pending := s.pending } : State).lines =
       { rdy := ⟨false, false, false⟩, atn := ⟨false, false, false⟩, transmitting := ⟨false, false, false⟩,
         acPermit := false, zeroLimit := true, chainDriven := false, drives := ⟨.opened, .opened, .opened⟩,
         outputs := ⟨false, false, false, false, false⟩, release := false, alarmRelay := false,
         faultRelay := false, damper := false }) ∧
  (∀ (c : Instr) (s : State), s.resetHeld = true → c ≠ .powerOnReset → c ≠ .powerOnResetEnd →
     exec c s = .next s)

/-- The values after power-on reset that the chapters state: chain (R21, R15), cell table (R41), envelope record
(R43), stack (R77), slots (R92), thermal (R113 but for the automatic demand of a channel, 0 by log entry 32), fire
(R139), connection (R162 but for the feedback, log entry 5), ports (R179), configuration (R180). -/
def Obligations.ResetValuesOfEveryBlock : Prop :=
  State.reset.chain.mode = .stopped ∧ State.reset.chain.activity = .clearing ∧ State.reset.chain.due = false ∧
  State.reset.chain.periodTimer = .stopped ∧ State.reset.chain.sweepNumber = 0 ∧
  State.reset.chain.buffer = List.replicate 33 none ∧
  State.reset.chain.records = ⟨.absent, 3, none, none⟩ :: List.replicate 32 ⟨.unconfigured, 0, none, none⟩ ∧
  State.reset.chain.divisor = 7 ∧ State.reset.chain.deferredDivisor = none ∧
  State.reset.chain.pendingMask = 0 ∧ State.reset.chain.bleedOffRequest = false ∧
  State.reset.chain.lineFree = true ∧
  State.reset.table.cells = List.replicate 384 ⟨0, .unknown, false, false⟩ ∧
  State.reset.table.points = List.replicate 128 ⟨0, .unknown, false⟩ ∧
  State.reset.table.string = ⟨0, 0, .unknown⟩ ∧
  State.reset.table.monitorStates = .absent :: List.replicate 32 .unconfigured ∧
  State.reset.table.shapeMonitors = 0 ∧ State.reset.table.shapeCells = 12 ∧
  State.reset.table.sweepNumber = 0 ∧
  State.reset.table.aggregates = ⟨none, none, 0, none, none, 0, 0, 0⟩ ∧
  State.reset.table.dataLoss = ⟨true, true, true⟩ ∧ State.reset.table.ageTimer = .stopped ∧
  State.reset.table.hardLimits = ⟨false, false, false⟩ ∧
  State.reset.envelope.record.chargeLimit = 0 ∧ State.reset.envelope.record.dischargeLimit = 0 ∧
  State.reset.envelope.record.chargePower = 0 ∧ State.reset.envelope.record.dischargePower = 0 ∧
  State.reset.envelope.record.vsum = 0 ∧
  State.reset.envelope.record.chargeSet = ⟨false, false, false, false, false, false, false, true, true, true⟩ ∧
  State.reset.envelope.record.dischargeSet =
    ⟨false, false, false, false, false, false, false, true, true, true⟩ ∧
  State.reset.envelope.record.chargeGoverning = none ∧ State.reset.envelope.record.dischargeGoverning = none ∧
  State.reset.envelope.record.number = 0 ∧ State.reset.envelope.record.kind = .change ∧
  State.reset.envelope.record.sweepNumber = 0 ∧ State.reset.zeroLimit = true ∧
  State.reset.stack = ⟨[], 1⟩ ∧ State.reset.slots = List.replicate 8 none ∧
  State.reset.thermal.pwm.period = 40 ∧ State.reset.thermal.fanDemand = 0 ∧
  State.reset.thermal.heaterOn = false ∧ State.reset.thermal.damperOpen = false ∧
  State.reset.thermal.cooling = .normal ∧ State.reset.thermal.releasePulse = .stopped ∧
  (∀ c, State.reset.thermal.channels.get c = ⟨.auto, none, 0, 0, 0, 0⟩ ∧
    State.reset.thermal.forcing.get c = none) ∧
  (∀ ch, (State.reset.thermal.tachs.get ch).filteredHigh = false ∧
    (State.reset.thermal.tachs.get ch).pulses = 0 ∧ (State.reset.thermal.tachs.get ch).rate = 0 ∧
    (State.reset.thermal.tachs.get ch).grace = .stopped ∧ (State.reset.thermal.tachs.get ch).check = .healthy ∧
    (State.reset.thermal.tachs.get ch).retries = 0 ∧ (State.reset.thermal.tachs.get ch).retry = .stopped) ∧
  State.reset.fire.detectors = List.replicate 16 ⟨none, 0, .normal, 0, 0, 0, 0, 0⟩ ∧
  State.reset.fire.panelRun = 0 ∧ State.reset.fire.panelLatch = false ∧ State.reset.fire.hold = false ∧
  State.reset.fire.siteHold = false ∧ State.reset.fire.status = .quiet ∧
  State.reset.fire.causes = ⟨false, false, false, false, false⟩ ∧ State.reset.fire.countdown = .stopped ∧
  State.reset.fire.impaired = false ∧ State.reset.fire.alarmRelay = false ∧
  State.reset.fire.faultRelay = false ∧ State.reset.fire.samplingLeft = 100000 ∧
  (∀ k, (State.reset.conn.contactors.get k).command = .opened ∧
    (State.reset.conn.contactors.get k).disagreement = .stopped ∧
    (State.reset.conn.contactors.get k).faultMark = false) ∧
  State.reset.conn.connection = .opened ∧ State.reset.conn.precharge = .stopped ∧
  State.reset.conn.openWait = .stopped ∧ State.reset.conn.dataLossOpen = .stopped ∧
  State.reset.conn.attempts = 0 ∧ State.reset.conn.cooldown = .runOut ∧
  State.reset.conn.permit = .withdrawn ∧ State.reset.conn.permitTimer = .stopped ∧
  State.reset.conn.fallbackHandle = none ∧ State.reset.conn.convNotice = false ∧
  State.reset.conn.utilNotice = false ∧ State.reset.conn.convTimer = .stopped ∧
  State.reset.conn.linePresent = false ∧ State.reset.conn.reconnect = .stopped ∧
  State.reset.acPermit = false ∧
  (∀ p, (State.reset.ports.get p).receiver = .discarding ∧ (State.reset.ports.get p).requests = [] ∧
    State.reset.rdy p = true ∧ (State.reset.ports.get p).sending = none ∧
    (State.reset.ports.get p).waiting = [] ∧ (State.reset.ports.get p).cursorBank = 0 ∧
    (State.reset.ports.get p).cursorIndex = 0 ∧ (State.reset.ports.get p).events = [] ∧
    (State.reset.ports.get p).overflow = false ∧ (State.reset.ports.get p).mask = 255 ∧
    (State.reset.ports.get p).attention = 1 ∧ State.reset.atn p = false ∧
    (State.reset.ports.get p).lineDetector = .waitingForMark) ∧
  State.reset.config.configured = false ∧ State.reset.config.items = defaultItems ∧
  State.reset.uptime = 0

/-! ### Receiver and response path (sections 9.1, 9.2) -/

/-- DECODE AND ENCODE AGREE on the frames of the master ports: the characters of a sound request frame, sent to a
hunting receiver whose queue holds fewer than four requests, are read back as exactly that request at the tail of
the queue, and the receiver hunts at once (R163 to R165); and a CRC run over covered bytes and their CRC together
gives 00h (R164). Characters that come in several commands do what they do in one (log entry 19). -/
def Obligations.SoundRequestFrameJoinsQueue : Prop :=
  (∀ (s : State) (p : Port) (kind : Byte) (body : List Byte),
     s.resetHeld = false → (s.ports.get p).receiver = .hunting → (s.ports.get p).requests.length < 4 →
     body.length ≤ 250 →
     exec (.requestFrameReceived p (requestChars kind body)) s =
       .next (s.setPort p
         { s.ports.get p with
           requests := (s.ports.get p).requests ++ [⟨kind, body⟩], lineDetector := .mark })) ∧
  (∀ bytes : List Byte, crc8 (bytes ++ [crc8 bytes]) = 0) ∧
  (∀ (s t : State) (p : Port) (first later : List RxChar),
     exec (.requestFrameReceived p first) s = .next t →
     exec (.requestFrameReceived p later) t = exec (.requestFrameReceived p (first ++ later)) s)

/-- A complete frame that finds four requests queued is answered QUEUE_FULL at once, with its kind, 80h set, and no
body, and has no other effect (R165). A frame whose CRC differs from the one computed, and one whose length is 0 or
above 251, fails: it is not queued, FRAME_ERROR with the kind FFh is formed, and the receiver discards (R163, R164).
Either response is discarded while eight wait (R167). The line RDY is asserted while fewer than four requests are queued
(R165), and released while power-on reset is held (R186). -/
def Obligations.UnqueuedFramesAreAnswered : Prop :=
  (∀ (s : State) (p : Port) (kind : Byte) (body : List Byte),
     s.resetHeld = false → (s.ports.get p).receiver = .hunting → (s.ports.get p).requests.length = 4 →
     body.length ≤ 250 →
     exec (.requestFrameReceived p (requestChars kind body)) s =
       .next (s.setPort p
         (let q : PortState := { s.ports.get p with lineDetector := .mark }
          if q.waiting.length < 8 then q.place (responseFrame (kind ||| 0x80) .queueFull []) else q))) ∧
  (∀ (s : State) (p : Port), s.resetHeld = false → (s.ports.get p).receiver = .hunting →
     let failed : State := s.setPort p
       (let q : PortState := { s.ports.get p with lineDetector := .mark, receiver := .discarding }
        if q.waiting.length < 8 then q.place (responseFrame 0xFF .frameError []) else q)
     (∀ (kind crc : Byte) (body : List Byte), body.length ≤ 250 →
       crc ≠ crc8 (BitVec.ofNat 8 (body.length + 1) :: kind :: body) →
       exec (.requestFrameReceived p
         ((0xA5 :: BitVec.ofNat 8 (body.length + 1) :: kind :: (body ++ [crc])).map fun b => ⟨b, true⟩)) s =
         .next failed) ∧
     (∀ length : Byte, length.toNat = 0 ∨ 251 < length.toNat →
       exec (.requestFrameReceived p [⟨0xA5, true⟩, ⟨length, true⟩]) s = .next failed)) ∧
  (∀ (s : State) (p : Port),
     s.lines.rdy.get p = true ↔ s.resetHeld = false ∧ (s.ports.get p).requests.length < 4)

/-- Inside a frame, a gap of more than four character times fails the frame, and a return to mark fails a frame
with a broken character; after a failure, four character times at mark make the receiver hunt again. Otherwise the
receiver is unchanged (R163, R178): a gap changes nothing outside a frame, and four character times at mark change nothing
while the receiver hunts or inside a frame without a broken character (these cannot occur there, log entry 1). A gap after
a broken character leaves the receiver, which waits for the line, and four character times at mark fail such a frame and
make the receiver hunt (log entry 12). When the response being sent
ends, the response that was formed first of those waiting is sent; with none waiting the path is empty (R167). The
transmit line is busy while a response is being sent. -/
def Obligations.ReceiverAndResponsePath : Prop :=
  (∀ (s : State) (p : Port), s.resetHeld = false →
     let q := s.ports.get p
     let failed : PortState → PortState := fun q =>
       if q.waiting.length < 8 then
         { q with receiver := .discarding }.place (responseFrame 0xFF .frameError [])
       else { q with receiver := .discarding }
     (∀ frame, q.receiver = .receiving frame false →
       exec (.interCharacterTimeout p) s = .next (s.setPort p (failed q)) ∧
       exec (.lineReturnsToMark p) s = .next (s.setPort p { q with lineDetector := .mark }) ∧
       exec (.receiverHuntResumed p) s = .next s) ∧
     (∀ frame, q.receiver = .receiving frame true →
       exec (.interCharacterTimeout p) s = .next (s.setPort p q) ∧
       exec (.lineReturnsToMark p) s = .next (s.setPort p (failed { q with lineDetector := .mark })) ∧
       exec (.receiverHuntResumed p) s =
         .next (s.setPort p { failed q with receiver := .hunting, lineDetector := .mark })) ∧
     (q.receiver = .discarding →
       exec (.receiverHuntResumed p) s =
         .next (s.setPort p { q with receiver := .hunting, lineDetector := .mark }) ∧
       exec (.lineReturnsToMark p) s = .next (s.setPort p { q with lineDetector := .mark }) ∧
       exec (.interCharacterTimeout p) s = .next s) ∧
     (q.receiver = .hunting →
       exec (.lineReturnsToMark p) s = .next (s.setPort p { q with lineDetector := .mark }) ∧
       exec (.interCharacterTimeout p) s = .next s ∧ exec (.receiverHuntResumed p) s = .next s)) ∧
  (∀ (s : State) (p : Port), s.resetHeld = false →
     ((s.ports.get p).waiting = [] →
       exec (.responseSent p) s = .next (s.setPort p { s.ports.get p with sending := none })) ∧
     (∀ frame rest, (s.ports.get p).waiting = frame :: rest →
       exec (.responseSent p) s =
         .next (s.setPort p { s.ports.get p with sending := some frame, waiting := rest }))) ∧
  (∀ (s : State) (p : Port), s.lines.transmitting.get p = true ↔ (s.ports.get p).sending ≠ none)

/-- The checks of the port controller (R166, R168): a kind that names no request, a port that may not ask, a body
of the wrong length. Nothing changes but that the request is gone and the response placed. -/
def Obligations.PortControllerChecksEveryRequest : Prop :=
  ∀ (s : State) (p : Port) (kind : Byte) (body : List Byte), AtHead s p kind body →
    (RequestKind.ofCode kind = none →
      exec (.unknownKind p) s = .next (s.answered p kind .unknownKind [])) ∧
    (∀ k : RequestKind, kind = k.code →
      (k.permitted p = false → exec (requestCommand k p) s = .next (s.answered p kind .notPermitted [])) ∧
      (k.permitted p = true → body.length ≠ k.bodyLength →
        exec (requestCommand k p) s = .next (s.answered p kind .range [])))

/-- A command whose event cannot occur changes nothing (the model's choice, log entry 1): a request command while
a response waits or while the head of the queue is not a request of its kind, UNKNOWN_KIND while a response waits, the
queue is empty or its head names a kind; the running out of a timer that does not run, the end of a disablement of a
detector that is not disabled, and the end of a retry timer in another check state than FAULTED; a PORT_RESET while the
detector waits for mark; the beginning of a sweep that may not begin, or of a frame that is not due or finds the line
busy; the end of a frame that is not being sent, of a READ frame in CLEARING and of a BLEED_OFF frame elsewhere; the
line's quiet outside the quiet interval; a reply that no exchange awaits, and characters that do not make the event (log
entry 24); and a level given to an input that has it. -/
def Obligations.EventThatCannotOccurChangesNothing : Prop :=
  (∀ (s : State) (p : Port) (k : RequestKind),
    ((s.ports.get p).waiting ≠ [] ∨ ∀ body, (s.ports.get p).requests.head? ≠ some ⟨k.code, body⟩) →
    exec (requestCommand k p) s = .next s) ∧
  (∀ s : State,
    (s.chain.periodTimer.isRunning = false → exec .periodBoundary s = .next s) ∧
    (s.table.ageTimer.isRunning = false → exec .ageTimerExpiry s = .next s) ∧
    (s.conn.precharge.isRunning = false → exec .prechargeTimerExpiry s = .next s) ∧
    (s.conn.cooldown.isRunning = false → exec .cooldownExpiry s = .next s) ∧
    (s.conn.openWait.isRunning = false → exec .openWaitExpiry s = .next s) ∧
    (s.conn.dataLossOpen.isRunning = false → exec .dataLossOpenExpiry s = .next s) ∧
    (s.conn.permitTimer.isRunning = false → exec .permitLapse s = .next s) ∧
    (s.conn.convTimer.isRunning = false → exec .convNoticeTimerExpiry s = .next s) ∧
    (s.conn.reconnect.isRunning = false → exec .reconnectTimerExpiry s = .next s) ∧
    (s.fire.countdown.isRunning = false → exec .countdownExpiry s = .next s) ∧
    (s.thermal.releasePulse.isRunning = false → exec .releasePulseEnd s = .next s) ∧
    (∀ ch, (s.thermal.tachs.get ch).grace.isRunning = false → exec (.graceTimerExpiry ch) s = .next s) ∧
    (∀ ch, (s.thermal.tachs.get ch).retry.isRunning = false → exec (.retryTimerExpiry ch) s = .next s) ∧
    (∀ k, (s.conn.contactors.get k).disagreement.isRunning = false →
      exec (.disagreementTimerExpiry k) s = .next s) ∧
    (∀ h, (∀ e ∈ s.stack.entries, e.handle ≠ h) → exec (.curtailExpiry h) s = .next s)) ∧
  (∀ s : State,
    (∀ p, ((s.ports.get p).waiting ≠ [] ∨
        ∀ r, (s.ports.get p).requests.head? = some r → ∃ k : RequestKind, r.kind = k.code) →
      exec (.unknownKind p) s = .next s) ∧
    (∀ p, (s.ports.get p).lineDetector = .waitingForMark → exec (.portReset p) s = .next s) ∧
    (∀ i, (s.fire.detector i).disablement = none → exec (.disablementExpiry i) s = .next s) ∧
    (∀ ch, (s.thermal.tachs.get ch).check ≠ .faulted → exec (.retryTimerExpiry ch) s = .next s) ∧
    (∀ ch, exec (.tachFilteredLevelChange ch (s.thermal.tachs.get ch).filteredHigh) s = .next s) ∧
    (∀ k, exec (.contactorFeedbackChange k (s.conn.contactors.get k).feedback) s = .next s) ∧
    exec (.gridLineChange s.conn.linePresent) s = .next s) ∧
  (∀ s : State,
    let c := s.chain
    let quiet := c.lineFree = false ∧ (c.link = .rest ∨ c.link = .frameDue)
    (c.due = false ∨ c.mode = .stopped ∨ c.activity ≠ .idle → exec .sweepBegin s = .next s) ∧
    (c.link ≠ .frameDue ∨ c.lineFree = false → exec .chainFrameSend s = .next s) ∧
    ((∀ frame, c.link ≠ .sending frame) ∨ c.activity = .clearing ∨ c.linkTimer.isRunning = false →
      exec .commandFrameEnd s = .next s) ∧
    ((∀ frame, c.link ≠ .sending frame) ∨ c.activity ≠ .clearing ∨ c.linkTimer.isRunning = false →
      exec .bleedOffSent s = .next s) ∧
    (¬ quiet ∨ c.linkTimer.isRunning = false → exec .chainLineFree s = .next s) ∧
    (c.link ≠ .awaitingReply ∨ c.exchange = none →
      ∀ chars some, exec (.chainReplyEnd chars) s = .next s ∧ exec (.chainReplyError chars) s = .next s ∧
        exec (.chainReplyTimeout some) s = .next s) ∧
    (c.linkTimer.isRunning = false → exec (.chainReplyTimeout false) s = .next s) ∧
    (∀ e, c.exchange = some e → ∀ chars,
      let verdict := replyVerdict e.address chars
      (verdict = .incomplete ∨ verdict = .failed .framing ∨ verdict = .failed .address →
        exec (.chainReplyEnd chars) s = .next s) ∧
      (verdict = .incomplete ∨ verdict = .failed .check ∨ verdict = .failed .monitorFault ∨
          (∃ reply, verdict = .accepted reply) →
        exec (.chainReplyError chars) s = .next s)))

/-- PORT_RESET of a port whose detector does not wait for mark (R178): the eight steps, in one event. The
response being sent runs on, the port's watch slots and their entries go (R83), and for SITE the hold request
(R130, R131). If an entry was removed, one CHANGE publication is made. While the detector waits for mark nothing
happens. That the reset is taken while the detector holds mark is a DESIGN CHOICE (log entry 12). -/
def Obligations.PortResetClearsThePort : Prop :=
  ∀ (s : State) (p : Port), s.resetHeld = false →
    ((s.ports.get p).lineDetector = .waitingForMark → exec (.portReset p) s = .next s) ∧
    ((s.ports.get p).lineDetector ≠ .waitingForMark → (s.fire.status = .countdown → s.fire.hold = false) →
      ∃ t, exec (.portReset p) s = .next t ∧
        EventLeaves
          { s with
            ports := s.ports.set p
              { receiver := .discarding, requests := [], sending := (s.ports.get p).sending, waiting := [],
                cursorBank := 0, cursorIndex := 0, events := [], overflow := false, mask := 255, attention := 1,
                lineDetector := .waitingForMark },
            slots := s.slots.map fun o => o.filter fun c => decide (c.owner ≠ p),
            stack := { s.stack with
              entries := s.stack.entries.filter fun e =>
                match e.owner with
                | .slot k => decide ((s.claim k).map Claim.owner ≠ some p)
                | .port _ => true },
            fire :=
              if p = .site ∧ s.fire.siteHold = true then
                if s.fire.status = .held ∧ s.fire.holdSample = false then
                  { s.fire with
                    siteHold := false, status := .countdown, countdown := .running s.config.releaseDelay }
                else { s.fire with siteHold := false }
              else s.fire }
          [] t ∧
        (t.stack.entries ≠ s.stack.entries →
          t.envelope.record.kind = .change ∧
          t.envelope.publicationNumber = s.envelope.publicationNumber + 1))

/-! ### Reading (section 9.3) -/

/-- READ_STATUS and READ_ENVELOPE answer OK with the status record and the envelope record, and neither moves the
cursor or changes anything else (R171, R42). The two records byte by byte, as R192 lays them out with the codes of R190:
25 bytes each. R188: two and four bytes go more significant byte first, and an absent optional field is all ones. The
reconnect seconds are those of R160. SET_CURSOR (R169): a bank above 7, or an index at or above the bank's number of
records, is refused with RANGE and the cursor is unchanged; otherwise the cursor takes the bank and index given. -/
def Obligations.ReadRequestsAndTheCursor : Prop :=
  (∀ (s : State) (p : Port),
     (Takes s p .readStatus [] →
       exec (.readStatus p) s = .next (s.answered p 0x10 .ok s.statusRecord) ∧ s.statusRecord.length = 25) ∧
     (Takes s p .readEnvelope [] →
       exec (.readEnvelope p) s = .next (s.answered p 0x11 .ok s.envelope.record.bytes) ∧
       s.envelope.record.bytes.length = 25)) ∧
  (∀ (s : State) (p : Port) (bank high low : Byte), Takes s p .setCursor [bank, high, low] →
     let index := high.toNat * 256 + low.toNat
     let sizes := [3, 384, 128, 33, 16, 8, 8, 6]
     ((∀ size, sizes[bank.toNat]? = some size → size ≤ index) →
       exec (.setCursor p) s = .next (s.answered p 0x12 .range [])) ∧
     (∀ size, sizes[bank.toNat]? = some size → index < size →
       exec (.setCursor p) s =
         .next (s.setPort p
           (PortState.place { (s.ports.get p).taken with cursorBank := bank.toNat, cursorIndex := index }
             (responseFrame 0x92 .ok []))))) ∧
  (∀ n : Nat, byte1 n = [BitVec.ofNat 8 n] ∧ byte2 n = [BitVec.ofNat 8 (n / 256), BitVec.ofNat 8 n] ∧
     byte4 n =
       [BitVec.ofNat 8 (n / 16777216), BitVec.ofNat 8 (n / 65536), BitVec.ofNat 8 (n / 256), BitVec.ofNat 8 n] ∧
     opt1 (some n) = byte1 n ∧ opt2 (some n) = byte2 n ∧ opt4 (some n) = byte4 n ∧
     opt1 none = [0xFF] ∧ opt2 none = [0xFF, 0xFF] ∧ opt4 none = [0xFF, 0xFF, 0xFF, 0xFF]) ∧
  (∀ s : State,
     let flag : Bool → Byte := fun b => if b then 1 else 0
     let c := connectionBytes s.conn.connection
     let seconds : Nat := match s.conn.reconnect with
       | .stopped => s.config.reconnectDelay / 1000000
       | .running n | .paused n => (n + 999999) / 1000000
       | .runOut => 0
     s.statusRecord =
       [flag s.config.configured, codeIn [.stopped, .continuous, .single] s.chain.mode] ++
       byte2 s.table.sweepNumber.toNat ++
       [BitVec.ofNat 8
          (maskIn [s.table.dataLoss.absentMonitor, s.table.dataLoss.noTemperature, s.table.dataLoss.aged]),
        c.state, c.kind, c.phase, c.cause, codeIn [.granted, .lapsed, .withdrawn] s.conn.permit,
        BitVec.ofNat 8
          (maskIn [s.conn.linePresent && !s.conn.convNotice && !s.conn.utilNotice, s.conn.linePresent,
            s.conn.convNotice, s.conn.utilNotice])] ++
       byte2 seconds ++
       [flag s.conn.acPermission,
        codeIn [.quiet, .watch, .alarm, .countdown, .held, .released] s.fire.status,
        BitVec.ofNat 8
          (maskIn [s.fire.causes.offgas, s.fire.causes.smoke, s.fire.causes.heat, s.fire.causes.manual,
            s.fire.causes.panel]),
        flag (s.fire.holdSample || s.fire.siteHold), flag s.fire.impaired,
        codeIn [.normal, .degraded, .lost] s.thermal.cooling, flag s.thermal.damperOpen,
        BitVec.ofNat 8 s.stack.entries.length] ++
       byte4 (s.clock / 1000000 % 4294967296)) ∧
  (∀ r : EnvelopeRecord,
     let set : LimitingSet → List Byte := fun x =>
       byte2 (maskIn [x.voltage, x.temperature, x.cooling, x.detection, x.curtail, x.rise, x.fire, x.permission,
         x.dataLoss, x.unconfigured])
     let governed : Option Governing → List Byte := fun g => match g with
       | none => [0x00, 0xFF]
       | some e => [BitVec.ofNat 8 e.handle, ownerByte e.owner]
     r.bytes =
       byte2 r.chargeLimit ++ byte2 r.dischargeLimit ++ byte2 r.chargePower ++ byte2 r.dischargePower ++
       byte4 r.vsum ++ set r.chargeSet ++ set r.dischargeSet ++ governed r.chargeGoverning ++
       governed r.dischargeGoverning ++ byte2 r.number.toNat ++ [codeIn [.sweep, .change] r.kind] ++
       byte2 r.sweepNumber.toNat)

/-- READ_NEXT (R170): a count outside 1 to 16 is refused with RANGE. Otherwise the body carries the bank, the first
index, the number returned, the END flag, the sweep number and the records in rising order; at the end of the bank
the END flag is set and the index becomes 0, and otherwise it advances by the number returned. The count of reads
is the model's own (log entry 4). Every record of a bank is as long as section 11.4 lays it out, and is laid out byte
by byte as R192 gives it, with the codes of R190: the three of bank 0, and cells, points, monitors, detectors (R138),
entries, slots as their owner and as another port reads them (R84), and outputs (R112). The last two bytes of a monitor
record without a last good sweep are free (log entry 4); the milliseconds of a pulse are rounded up (log entry 33). -/
def Obligations.ReadNextReturnsRecords : Prop :=
  (∀ (s : State) (p : Port) (count : Byte), Takes s p .readNext [count] →
     let q := s.ports.get p
     let n := count.toNat
     let size := bankSize q.cursorBank
     (n = 0 ∨ 16 < n → exec (.readNext p) s = .next (s.answered p 0x13 .range [])) ∧
     (1 ≤ n → n ≤ 16 → q.cursorIndex + n < size →
       exec (.readNext p) s =
         .next ({ s with freeReads := s.freeReads + 1 }.setPort p
           (PortState.place { q.taken with cursorIndex := q.cursorIndex + n }
             (responseFrame 0x93 .ok
               (byte1 q.cursorBank ++ byte2 q.cursorIndex ++ byte1 n ++ [0x00] ++
                 byte2 s.table.sweepNumber.toNat ++
                 (List.range n).flatMap fun k => s.recordBytes p q.cursorBank (q.cursorIndex + k)))))) ∧
     (1 ≤ n → n ≤ 16 → q.cursorIndex < size → size ≤ q.cursorIndex + n →
       exec (.readNext p) s =
         .next ({ s with freeReads := s.freeReads + 1 }.setPort p
           (PortState.place { q.taken with cursorIndex := 0 }
             (responseFrame 0x93 .ok
               (byte1 q.cursorBank ++ byte2 q.cursorIndex ++ byte1 (size - q.cursorIndex) ++ [0x01] ++
                 byte2 s.table.sweepNumber.toNat ++
                 (List.range (size - q.cursorIndex)).flatMap fun k =>
                   s.recordBytes p q.cursorBank (q.cursorIndex + k))))))) ∧
  (∀ (s : State) (p : Port) (bank index : Nat), bank ≤ 7 → index < bankSize bank →
     (s.recordBytes p bank index).length = [25, 4, 3, 6, 6, 11, 16, 24].getD bank 0 +
       (if bank = 0 ∧ index = 2 then 1 else 0)) ∧
  (∀ (s : State) (p : Port),
     let a := s.table.aggregates
     let states : List ItemState := [.known, .stale, .unknown, .openSensor]
     let seconds : Nat → Nat := fun n => (n + 999999) / 1000000
     let voltage : Option (Int × Nat) → List Byte := fun x => match x with
       | none => [0xFF, 0xFF, 0xFF, 0xFF]
       | some (v, i) => byte2 v.toNat ++ byte2 i
     let temperature : Option (Int × Nat) → List Byte := fun x => match x with
       | none => [0x7F, 0xFF]
       | some (v, i) => [BitVec.ofInt 8 v, BitVec.ofNat 8 i]
     let timer : Timer → List Byte := fun x => match x with
       | .running n | .paused n => byte1 (seconds n)
       | .stopped | .runOut => [0xFF]
     s.recordBytes p 0 0 = s.statusRecord ∧ s.recordBytes p 0 1 = s.envelope.record.bytes ∧
     s.recordBytes p 0 2 =
       voltage a.vmax ++ voltage a.vmin ++ byte4 a.vsum ++ temperature a.tmax ++ temperature a.tmin ++
       byte2 a.knownCells ++ byte2 a.staleCells ++ byte2 a.unknownCells ++
       [BitVec.ofNat 8
          (maskIn [s.table.dataLoss.absentMonitor, s.table.dataLoss.noTemperature, s.table.dataLoss.aged]),
        BitVec.ofNat 8
          (maskIn [s.table.hardLimits.cellHigh, s.table.hardLimits.cellLow, s.table.hardLimits.tempHigh])] ++
       byte2 s.table.sweepNumber.toNat ∧
     (∀ i (r : CellRecord), s.table.cells[i]? = some r →
       s.recordBytes p 1 i =
         byte2 r.voltage ++ [codeIn states r.state, BitVec.ofNat 8 (maskIn [r.saturated, r.bleeding])]) ∧
     (∀ i (r : PointRecord), s.table.points[i]? = some r →
       s.recordBytes p 2 i =
         [BitVec.ofInt 8 r.temperature, codeIn states r.state, BitVec.ofNat 8 (maskIn [r.clamped])]) ∧
     (∀ i (r : MonitorRecord), s.chain.records[i]? = some r →
       (s.recordBytes p 3 i).take 4 =
         [codeIn [.unconfigured, .present, .missing, .absent] r.state, BitVec.ofNat 8 r.missCount,
          match r.lastError with
          | none => 0xFF
          | some e => codeIn [.timeout, .framing, .check, .address, .monitorFault] e,
          if r.lastGood = none then 0 else 1] ∧
       ∀ n, r.lastGood = some n → (s.recordBytes p 3 i).drop 4 = byte2 n.toNat) ∧
     (∀ i,
       let d := s.fire.detector i
       s.recordBytes p 4 i =
         [codeIn [.none, .offgas, .smoke, .heat, .manual] (s.config.detectorKind i),
          if d.disablement = none then 0 else 1] ++
         opt2 (d.disablement.map seconds) ++
         [BitVec.ofNat 8 d.level, codeIn [.normal, .pre, .alarm, .fault, .disabled] d.state]) ∧
     (∀ i (e : Entry), s.stack.entries[i]? = some e →
       s.recordBytes p 5 i =
         [BitVec.ofNat 8 e.handle, ownerByte e.owner, codeIn [.direct, .watch, .fallback] e.origin] ++
         opt2 e.chargeCap ++ opt2 e.dischargeCap ++ opt4 (e.remaining.map seconds)) ∧
     (∀ i, s.stack.entries.length ≤ i → s.recordBytes p 5 i = List.replicate 11 0) ∧
     (∀ k, s.claim k = none → s.recordBytes p 6 k = List.replicate 16 0) ∧
     (∀ k c, s.claim k = some c →
       (c.owner ≠ p → s.recordBytes p 6 k = 2 :: List.replicate 15 0) ∧
       (c.owner = p → ∀ chained : Bool, (chained = true ↔ ChainedFromAbove s k) →
         s.recordBytes p 6 k =
           [1, codeIn [.cellV, .cellT, .stringI, .dcLinkV, .detector] c.spec.quantity] ++
           byte2 c.spec.first ++ byte2 c.spec.last ++ [codeIn [.ge, .lt] c.spec.comparison] ++
           byte2 (BitVec.ofInt 16 c.spec.threshold).toNat ++
           [codeIn [.notifyRise, .notifyBoth, .curtail] c.spec.action] ++ opt2 c.spec.chargeCap ++
           opt2 c.spec.dischargeCap ++
           [BitVec.ofNat 8 (maskIn [c.spec.chain, c.condition, c.starved, chained]),
            BitVec.ofNat 8 (c.entry.getD 0)])) ∧
     (∀ c,
       let r := s.thermal.channels.get c
       let tach : TachRecord → List Byte := fun x =>
         [codeIn [.healthy, .faulted, .trying, .latched] x.check, BitVec.ofNat 8 x.retries] ++ byte2 x.rate ++
         timer x.grace ++ timer x.retry
       s.recordBytes p 7 ([DutyChannel.fanA, .fanB, .pump, .exhaust, .heater].idxOf c) =
         [codeIn [.fanA, .fanB, .pump, .exhaust, .heater] c, codeIn [.auto, .manual] r.mode,
          BitVec.ofNat 8
            (maskIn [s.thermal.pwm.centred.get c, s.thermal.pwm.activeLow.get c,
              decide (c = .heater) && s.thermal.heaterOn])] ++
         opt2 r.manual ++ byte2 r.automatic ++ opt2 (s.thermal.forcing.get c) ++ byte2 r.selected ++
         byte2 r.shadow ++ byte2 r.active ++
         (match c with
          | .fanA => tach s.thermal.tachs.fanA
          | .fanB => tach s.thermal.tachs.fanB
          | .pump => tach s.thermal.tachs.pump
          | .exhaust | .heater => List.replicate 6 0xFF) ++ [0xFF, 0xFF, 0x00]) ∧
     s.recordBytes p 7 5 =
       [0x05, 0xFF,
        BitVec.ofNat 8 (maskIn [false, s.thermal.pwm.releaseActiveLow, false, s.thermal.releasePulse.isRunning])] ++
       List.replicate 18 0xFF ++
       (match s.thermal.releasePulse with
        | .running n => byte2 ((n + 999) / 1000)
        | .stopped | .paused _ | .runOut => [0xFF, 0xFF]) ++ [0x00])

/-! ### Events (section 9.4) -/

/-- R173, R174: of the events offered in order to a port with its mark clear, those that the queue has room for are
stored at its tail, and the mark is set exactly when one found no room; with the mark set none is stored. An
owner-directed event is offered to its owner alone; an ALARM event to every port; any other to the ports whose
mask holds its class. R172: the events of one event of the part are all offered, once each, block by block (1
configuration, 2 chain, 3 cell table, 4 fire, 5 thermal, 6 connection, 7 stack, 8 watch, 9 envelope), and within a
block in the order that its chapter gives: data loss before hard limit, detectors before the fire state before the
release, tach channels before the cooling state, the seven of the connection in the order of R172, and the watch
events by slot; those of one place keep the order in which they were raised. -/
def Obligations.OfferedEventsAreStoredWhileRoomRemains : Prop :=
  (∀ (p : Port) (uptime : BitVec 32) (sweep : Serial) (raised : List Raised) (q : PortState),
    let offered := (raised.filter (offeredTo p q.mask)).map fun r => (⟨r.event, uptime, sweep⟩ : EventRecord)
    (q.overflow = true → q.deliver p uptime sweep raised = q) ∧
    (q.overflow = false → q.events.length ≤ 16 →
      q.deliver p uptime sweep raised =
        { q with
          events := q.events ++ offered.take (16 - q.events.length),
          overflow := decide (16 - q.events.length < offered.length) })) ∧
  (∀ (p : Port) (mask : BitVec 8) (e : Event),
    (∀ owner, offeredTo p mask ⟨e, some owner⟩ = decide (owner = p)) ∧
    offeredTo p mask ⟨e, none⟩ = (decide (e.eventClass = .alarm) || mask.getLsbD e.eventClass.code)) ∧
  (∀ (s : State) (raised : List Raised), ∃ ordered : List Raised,
    ordered.Perm raised ∧ ordered.Pairwise OfferedInOrder ∧
    (∀ block place,
      (ordered.filter fun r => decide (r.event.block = block ∧ r.event.place = place)) =
        raised.filter fun r => decide (r.event.block = block ∧ r.event.place = place)) ∧
    ∀ p, (s.deliver raised).ports.get p = (s.ports.get p).deliver p s.uptime s.table.sweepNumber ordered) ∧
  (∀ (n h i : Nat) (b1 b2 b3 b4 : Bool) (x : DataLoss) (y : HardLimits) (d : DetectorState) (f : FireStatus)
      (g : CauseSet) (e : ReleaseEntry) (ch : TachChannel) (z : CheckState) (w : CoolingState) (k : Contactor)
      (v : Switch) (j : Connection) (m : ConnectionReason) (l : Option Int) (u : PermitState) (a : ErrorKind),
    (∀ o ∈ [Event.configLeft n, .configAccepted n], o.block = 1) ∧
    (∀ o ∈ [Event.monitorMissing n a, .monitorAbsent n a, .monitorReturned n h], o.block = 2 ∧ o.place = 0) ∧
    (∀ o ∈ [Event.dataLossBegin x, .dataLossEnd], o.block = 3 ∧ o.place = 0) ∧
    (Event.hardLimit y).block = 3 ∧ (Event.hardLimit y).place = 1 ∧
    (∀ o ∈ [Event.detectorState n d, .fireState f g, .releaseStarted e], o.block = 4) ∧
    ([Event.detectorState n d, .fireState f g, .releaseStarted e].map Event.place).Pairwise (· < ·) ∧
    (∀ o ∈ [Event.coolingFault ch z, .coolingState w], o.block = 5) ∧
    (Event.coolingFault ch z).place < (Event.coolingState w).place ∧
    (let connection : List Event :=
       [.contactorFault k v, .prechargeFailed n, .openedUnderLoad l, .connectionState j m, .permitState u,
        .gridState b1 b2 b3 b4, .acPermission b1]
     (∀ o ∈ connection, o.block = 6) ∧ (connection.map Event.place).Pairwise (· < ·)) ∧
    (∀ o ∈ [Event.curtailExpired h, .curtailDisplaced h n], o.block = 7 ∧ o.place = 0) ∧
    (∀ o ∈ [Event.watchHit n i, .watchCleared n, .watchStarved n], o.block = 8 ∧ o.place = n) ∧
    (Event.envelopeFell b1 b2).block = 9)

/-- EVENT_READ (R175): a count outside 1 to 16 is refused with RANGE; otherwise the oldest records, as many as the
count or as the queue holds, are removed and returned, oldest first; the overflow mark stays. EVENT_MASK,
EVENT_CLEAR_OVERFLOW and ATTENTION_LEVEL (R174, R176): the mask becomes the set given with ALARM added, and is
returned; the mark is cleared and the queue left; a level outside 1 to 16 is refused with RANGE. An event record is
laid out in 15 bytes as R192 gives it, with the kinds, classes, subjects and values of its table of event kinds. The
line ATN is asserted while the queue holds as many records as the attention level, or an ALARM record, or the mark is
set (R177), and released while power-on reset is held (R186). -/
def Obligations.EventRequestsOfThePort : Prop :=
  (∀ (s : State) (p : Port) (count : Byte), Takes s p .eventRead [count] →
     let q := s.ports.get p
     (count.toNat = 0 ∨ 16 < count.toNat → exec (.eventRead p) s = .next (s.answered p 0x14 .range [])) ∧
     (1 ≤ count.toNat → count.toNat ≤ 16 → ∀ removed kept, q.events = removed ++ kept →
       (removed.length = count.toNat ∨ (removed.length < count.toNat ∧ kept = [])) →
       exec (.eventRead p) s =
         .next (s.setPort p
           (PortState.place { q.taken with events := kept }
             (responseFrame 0x94 .ok (byte1 removed.length ++ removed.flatMap EventRecord.bytes)))))) ∧
  (∀ (s : State) (p : Port),
     let q := s.ports.get p
     (∀ classes : Byte, Takes s p .eventMask [classes] →
       exec (.eventMask p) s =
         .next (s.setPort p
           (PortState.place { q.taken with mask := classes ||| 0x01 }
             (responseFrame 0x95 .ok [classes ||| 0x01])))) ∧
     (Takes s p .eventClearOverflow [] →
       exec (.eventClearOverflow p) s =
         .next (s.setPort p
           (PortState.place { q.taken with overflow := false } (responseFrame 0x96 .ok [])))) ∧
     (∀ level : Byte, Takes s p .attentionLevel [level] →
       (level.toNat = 0 ∨ 16 < level.toNat →
         exec (.attentionLevel p) s = .next (s.answered p 0x17 .range [])) ∧
       (1 ≤ level.toNat → level.toNat ≤ 16 →
         exec (.attentionLevel p) s =
           .next (s.setPort p
             (PortState.place { q.taken with attention := level.toNat } (responseFrame 0x97 .ok [])))))) ∧
  (∀ r : EventRecord,
     let row := eventRow r.event
     r.bytes =
       [row.kind, row.eventClass, BitVec.ofNat 8 (maskIn [row.subject.isSome, row.value.isSome])] ++
       byte2 (row.subject.getD 0) ++ row.value.getD [0, 0, 0, 0] ++ byte4 r.uptime.toNat ++
       byte2 r.sweepNumber.toNat ∧
     r.bytes.length = 15) ∧
  (∀ (s : State) (p : Port),
     let q := s.ports.get p
     s.lines.atn.get p = true ↔ s.resetHeld = false ∧
       (q.attention ≤ q.events.length ∨ (∃ r ∈ q.events, (eventRow r.event).eventClass = 0) ∨ q.overflow = true))

/-- The settling of an event offers to the ports what the event's own work raised and, of the events that report a
change, exactly those whose state the event has changed, each once and with the new value: data loss (R34), hard limits
(R36), cooling state (R110), detector and fire state (R124, R137), permit, grid and AC permission (R156, R158, R161), and
the fall of a limit (R61). They are offered in the order of R172, by raising block and by place within it. The same over
whole commands: every command but the resets offers, of these events, exactly those whose state differs between the
states before and after it, in the order of R172, to the event queues as it finds them, or, for a PORT_RESET that is
taken, to that port's queue as the reset leaves it: empty, with the overflow mark clear and every class in the mask
(R178). The requests that act on a port's own event queue change none of that state and offer nothing (R175). -/
def Obligations.ChangesAreReported : Prop :=
  (∀ (before : State) (w : Publication) (c : Change),
    (∀ r ∈ c.raised, r.event.reportsChange = false) → c.st.envelope = before.envelope →
    let t := State.settle before w c
    ∃ raised : List Raised, Offers c.raised raised ∧
      (∀ p, t.ports.get p = (c.st.ports.get p).deliver p t.uptime t.table.sweepNumber raised) ∧
      ChangesReported before t raised) ∧
  (∀ (c : Instr) (s t : State), c ≠ .powerOnReset → c ≠ .powerOnResetEnd → exec c s = .next t →
    let ownQueue := ∃ p, c = .eventRead p ∨ c = .eventMask p ∨ c = .eventClearOverflow p
    let found : Port → PortState := fun p =>
      let q := s.ports.get p
      if c = .portReset p ∧ s.resetHeld = false ∧ q.lineDetector ≠ .waitingForMark then
        { q with events := [], overflow := false, mask := 255 }
      else q
    ∃ raised : List Raised, raised.Pairwise OfferedInOrder ∧ ChangesReported s t raised ∧
      (ownQueue → raised = []) ∧
      (¬ ownQueue → ∀ p,
        let q := (found p).deliver p t.uptime t.table.sweepNumber raised
        (t.ports.get p).events = q.events ∧ (t.ports.get p).overflow = q.overflow ∧
        (t.ports.get p).mask = q.mask))

/-! ### Curtailment stack (Chapter 4) -/

/-- A stack of at most 8 entries finds a handle for a new one (R64): the first value from the next handle upward,
wrapping from 255 to 1, that no live entry carries; the next handle becomes the value after it. A removal does not
move the next handle back. -/
def Obligations.NewHandleIsFirstFree : Prop :=
  ∀ (st : StackState) (b : EntryBody), st.entries.length ≤ 8 → 1 ≤ st.nextHandle → st.nextHandle ≤ 255 →
    let h := st.freeHandle
    let value : Nat → Nat := fun n => (st.nextHandle - 1 + n) % 255 + 1
    (1 ≤ h ∧ h ≤ 255 ∧ ∀ e ∈ st.entries, e.handle ≠ h) ∧
    (∃ n < 255, h = value n ∧ ∀ m < n, ∃ e ∈ st.entries, e.handle = value m) ∧
    (st.add b).entries = st.entries ++ [⟨h, b.owner, b.origin, b.chargeCap, b.dischargeCap, b.remaining⟩] ∧
    (st.add b).nextHandle = (if h = 255 then 1 else h + 1) ∧
    ∀ g, (st.remove g).nextHandle = st.nextHandle

/-- PUSH_CURTAIL with room in the stack (R66): RANGE without a cap or with a duration of 0; otherwise an entry of
the asking port, with the values after clamping, stands on top with the free handle of R64, and every other entry
stays. The answer is CLAMPED if a value was changed and OK otherwise, with the handle. -/
def Obligations.PushCurtailAddsEntryOnTop : Prop :=
  ∀ (s : State) (p : Port) (body : List Byte), Takes s p .pushCurtail body →
    let charge := capField body 0
    let discharge := capField body 2
    let duration := durationField body 4
    let rated := s.config.ratedCurrent
    let heldCharge := charge.map fun c => min c rated
    let heldDischarge := discharge.map fun c => min c rated
    let heldDuration := match p with
      | .conv => some (min 60 (duration.getD 60))
      | .site | .util => duration.map fun d => min 86400 d
    let h := s.stack.freeHandle
    let entry : Entry :=
      ⟨h, .port p, .direct, heldCharge, heldDischarge, heldDuration.map fun d => d * 1000000⟩
    let stack : StackState :=
      { entries := s.stack.entries ++ [entry], nextHandle := if h < 255 then h + 1 else 1 }
    ((charge = none ∧ discharge = none) ∨ duration = some 0 →
      exec (.pushCurtail p) s = .next (s.answered p 0x20 .range [])) ∧
    ((charge ≠ none ∨ discharge ≠ none) → duration ≠ some 0 → s.stack.entries.length < 8 →
      ∃ t, exec (.pushCurtail p) s = .next t ∧
        EventLeaves
          (({ s with stack := stack } : State).answered p 0x20
            (if heldCharge = charge ∧ heldDischarge = discharge ∧ heldDuration = duration then .ok else .clamped)
            (byte1 h))
          [] t)

/-- PUSH_CURTAIL at a full stack (R67). From CONV or SITE, and from UTIL when every entry is utility-owned, it is
refused with STACK_FULL. Otherwise the lowest entry that is not utility-owned is displaced, the new entry stands on
top, and the displaced entry's owner is told: a port by CURTAIL_DISPLACED, a watch slot by its starved flag and
WATCH_STARVED to its claiming port (R91). -/
def Obligations.PushAtFullStackDisplaces : Prop :=
  ∀ (s : State) (p : Port) (body : List Byte), Takes s p .pushCurtail body →
    let given := curtailValues body 0
    let held := given.clamp s.config.ratedCurrent p
    let utility : Entry → Prop := fun e =>
      e.owner = .port .util ∨ ∃ k c, e.owner = .slot k ∧ s.claim k = some c ∧ c.owner = .util
    given.valid = true → s.stack.entries.length = 8 →
    (p ≠ .util → exec (.pushCurtail p) s = .next (s.answered p 0x20 .stackFull [])) ∧
    ((∀ e ∈ s.stack.entries, utility e) →
      exec (.pushCurtail p) s = .next (s.answered p 0x20 .stackFull [])) ∧
    (p = .util → (s.stack.entries.map Entry.handle).Nodup →
      ∀ below e above, s.stack.entries = below ++ e :: above → (∀ x ∈ below, utility x) → ¬ utility e →
      let rest : StackState := { s.stack with entries := below ++ above }
      let entry : Entry :=
        ⟨rest.freeHandle, .port .util, .direct, held.charge, held.discharge,
          held.duration.map fun d => d * 1000000⟩
      let stack : StackState :=
        { entries := below ++ above ++ [entry],
          nextHandle := if rest.freeHandle < 255 then rest.freeHandle + 1 else 1 }
      let outcome : Reply := if given = held then .ok else .clamped
      (∀ q, e.owner = .port q →
        ∃ t, exec (.pushCurtail p) s = .next t ∧
          EventLeaves (({ s with stack := stack } : State).answered p 0x20 outcome (byte1 rest.freeHandle))
            [directed q (.curtailDisplaced e.handle rest.freeHandle)] t) ∧
      (∀ k c, e.owner = .slot k → s.claim k = some c →
        ∃ t, exec (.pushCurtail p) s = .next t ∧
          EventLeaves
            (({ s with
                stack := stack,
                slots := s.slots.set k (some { c with entry := none, starved := true }) } : State).answered p 0x20
              outcome (byte1 rest.freeHandle))
            [directed c.owner (.watchStarved k)] t))

/-- AMEND_CURTAIL (R68): its values are checked and clamped first; a handle that no live DIRECT entry of the asking
port carries is answered NOT_FOUND; otherwise that entry takes the caps and the remaining time given, in its place
and with its handle, and the change is published though it leave every value as it was. RELEASE_CURTAIL,
POP_CURTAIL and RELEASE_ALL_CURTAIL act on the DIRECT entries of the asking port alone (R69 to R71): the entry that
is named, the topmost one, or all of them go, and the entries above move down; without such an entry the first two
are answered NOT_FOUND, and the third with the number 0. CURTAIL_EXPIRY (R72): when the time left to an entry passes,
the entry is removed, those above it move down, and CURTAIL_EXPIRED goes to the port that owns it; an entry without a
remaining time does not expire (R65). -/
def Obligations.OwnEntriesChangeAndGo : Prop :=
  (∀ (s : State) (p : Port) (body : List Byte), Takes s p .amendCurtail body →
     let given := curtailValues body 1
     let held := given.clamp s.config.ratedCurrent p
     let own : Entry → Prop := fun e => e.origin = .direct ∧ e.owner = .port p
     ((given.charge = none ∧ given.discharge = none) ∨ given.duration = some 0 →
       exec (.amendCurtail p) s = .next (s.answered p 0x21 .range [])) ∧
     ((given.charge ≠ none ∨ given.discharge ≠ none) → given.duration ≠ some 0 →
       (s.stack.entries.map Entry.handle).Nodup →
       ((∀ e ∈ s.stack.entries, e.handle = u8 body 0 → ¬ own e) →
         exec (.amendCurtail p) s = .next (s.answered p 0x21 .notFound [])) ∧
       (∀ below e above, s.stack.entries = below ++ e :: above → e.handle = u8 body 0 → own e →
         ∃ t, exec (.amendCurtail p) s = .next t ∧
           EventLeaves
             (({ s with
                 stack := { s.stack with
                   entries := below ++
                     { e with
                       chargeCap := held.charge, dischargeCap := held.discharge,
                       remaining := held.duration.map fun d => d * 1000000 } :: above } } : State).answered p 0x21
               (if given = held then .ok else .clamped) (byte1 e.handle))
             [] t ∧
           t.envelope.record.kind = .change ∧
           t.envelope.record.number = s.envelope.publicationNumber + 1))) ∧
  (∀ (s : State) (p : Port),
     let own : Entry → Prop := fun e => e.origin = .direct ∧ e.owner = .port p
     let keeping : List Entry → State := fun entries => { s with stack := { s.stack with entries := entries } }
     (s.stack.entries.map Entry.handle).Nodup →
     (∀ h : Byte, Takes s p .releaseCurtail [h] →
       ((∀ e ∈ s.stack.entries, e.handle = h.toNat → ¬ own e) →
         exec (.releaseCurtail p) s = .next (s.answered p 0x22 .notFound [])) ∧
       (∀ below e above, s.stack.entries = below ++ e :: above → e.handle = h.toNat → own e →
         ∃ t, exec (.releaseCurtail p) s = .next t ∧
           EventLeaves ((keeping (below ++ above)).answered p 0x22 .ok []) [] t)) ∧
     (Takes s p .popCurtail [] →
       ((∀ e ∈ s.stack.entries, ¬ own e) →
         exec (.popCurtail p) s = .next (s.answered p 0x23 .notFound [])) ∧
       (∀ below e above, s.stack.entries = below ++ e :: above → own e → (∀ x ∈ above, ¬ own x) →
         ∃ t, exec (.popCurtail p) s = .next t ∧
           EventLeaves ((keeping (below ++ above)).answered p 0x23 .ok (byte1 e.handle)) [] t)) ∧
     (Takes s p .releaseAllCurtail [] →
       ∃ t, exec (.releaseAllCurtail p) s = .next t ∧
         EventLeaves
           ((keeping (s.stack.entries.filter fun e => decide ¬ (e.origin = .direct ∧ e.owner = .port p))).answered
             p 0x24 .ok
             (byte1 (s.stack.entries.filter fun e => decide (e.origin = .direct ∧ e.owner = .port p)).length))
           [] t)) ∧
  (∀ s : State, s.resetHeld = false → (s.stack.entries.map Entry.handle).Nodup →
     ∀ below e above, s.stack.entries = below ++ e :: above →
       (e.remaining = none → exec (.curtailExpiry e.handle) s = .next s) ∧
       (∀ left p, e.remaining = some left → e.owner = .port p →
         ∃ t, exec (.curtailExpiry e.handle) s = .next t ∧
           EventLeaves
             { s.advance left with
               stack := { s.stack with entries := (below ++ above).map fun x => x.pass left } }
             [directed p (.curtailExpired e.handle)] t))

/-! ### Watch slots (Chapter 5) -/

/-- CLAIM_WATCH (R78 to R81), its checks in order: a slot number above 7, another port's slot, an invalid
specification, a chain flag to a slot that the port has not claimed. A claim that is taken writes the owner and the
specification, without the caps of a NOTIFY action, with the condition false, the starved flag clear and no entry;
an entry that the slot held is removed; and slot k + 1 is cleared in the same way if its being chained from above
changes. -/
def Obligations.ClaimWatchWritesTheSlot : Prop :=
  ∀ (s : State) (p : Port) (body : List Byte), Takes s p .claimWatch body → s.slots.length = 8 →
    let k := u8 body 0
    let others := ∃ c, s.claim k = some c ∧ c.owner ≠ p
    let valid : WatchSpec → Prop := fun w =>
      w.first ≤ w.last ∧
      w.last ≤ (match w.quantity with
        | .cellV => 383 | .cellT => 127 | .stringI => 0 | .dcLinkV => 0 | .detector => 15) ∧
      (w.quantity = .detector → 0 ≤ w.threshold ∧ w.threshold ≤ 255) ∧
      (w.action = .curtail → (w.chargeCap ≠ none ∨ w.dischargeCap ≠ none) ∧
        (∀ c, w.chargeCap = some c → c ≤ 1000) ∧ (∀ c, w.dischargeCap = some c → c ≤ 1000)) ∧
      (w.chain = true → k ≠ 7)
    let ownsNext := ∃ c, s.claim (k + 1) = some c ∧ c.owner = p
    let flag : Bool := match s.claim k with
      | some c => c.spec.chain
      | none => false
    let entryOf : Nat → Option Nat := fun j => (s.claim j).bind Claim.entry
    (7 < k → exec (.claimWatch p) s = .next (s.answered p 0x28 .range [])) ∧
    (k ≤ 7 → others → exec (.claimWatch p) s = .next (s.answered p 0x28 .slotTaken [])) ∧
    (k ≤ 7 → ¬ others → (∀ w, watchSpecField body = some w → ¬ valid w) →
      exec (.claimWatch p) s = .next (s.answered p 0x28 .range [])) ∧
    (∀ w, k ≤ 7 → ¬ others → watchSpecField body = some w → valid w →
      (w.chain = true → ¬ ownsNext → exec (.claimWatch p) s = .next (s.answered p 0x28 .wrongState [])) ∧
      ((w.chain = true → ownsNext) →
        let held : WatchSpec := if w.action = .curtail then w else { w with chargeCap := none, dischargeCap := none }
        ∃ t, exec (.claimWatch p) s = .next t ∧
          EventLeaves
            (({ s with
                stack := { s.stack with
                  entries := s.stack.entries.filter fun e =>
                    decide ¬ (entryOf k = some e.handle ∨
                      (flag ≠ w.chain ∧ entryOf (k + 1) = some e.handle)) },
                slots := (List.range 8).map fun j =>
                  if j = k then some ⟨p, held, false, false, none⟩
                  else if j = k + 1 ∧ flag ≠ w.chain then
                    (s.claim j).map fun c => { c with condition := false, starved := false, entry := none }
                  else s.claim j } : State).answered p 0x28 .ok (byte1 k))
            [] t))

/-- RELEASE_WATCH (R82), its checks in order: a slot number above 7, a free slot, another port's slot, a slot that
is chained from above. A release that is taken frees the slot and removes its entry; if it was chained, slot k + 1
has its condition and its starved flag cleared and holds no entry (R81). -/
def Obligations.ReleaseWatchFreesTheSlot : Prop :=
  ∀ (s : State) (p : Port) (slot : Byte), Takes s p .releaseWatch [slot] → s.slots.length = 8 →
    let k := slot.toNat
    let chained := ∃ j c, k = j + 1 ∧ s.claim j = some c ∧ c.spec.chain = true
    let entryOf : Nat → Option Nat := fun j => (s.claim j).bind Claim.entry
    (7 < k → exec (.releaseWatch p) s = .next (s.answered p 0x29 .range [])) ∧
    (k ≤ 7 → s.claim k = none → exec (.releaseWatch p) s = .next (s.answered p 0x29 .notFound [])) ∧
    (∀ c, k ≤ 7 → s.claim k = some c →
      (c.owner ≠ p → exec (.releaseWatch p) s = .next (s.answered p 0x29 .slotTaken [])) ∧
      (c.owner = p → chained → exec (.releaseWatch p) s = .next (s.answered p 0x29 .wrongState [])) ∧
      (c.owner = p → ¬ chained →
        ∃ t, exec (.releaseWatch p) s = .next t ∧
          EventLeaves
            (({ s with
                stack := { s.stack with
                  entries := s.stack.entries.filter fun e =>
                    decide ¬ (entryOf k = some e.handle ∨
                      (c.spec.chain = true ∧ entryOf (k + 1) = some e.handle)) },
                slots := (List.range 8).map fun j =>
                  if j = k then none
                  else if j = k + 1 ∧ c.spec.chain = true then
                    (s.claim j).map fun c => { c with condition := false, starved := false, entry := none }
                  else s.claim j } : State).answered p 0x29 .ok [])
            [] t))

/-! ### Thermal controller (Chapter 6) -/

/-- COOLING_MANUAL and COOLING_AUTO (R97, R98): a code that names no duty channel is refused with RANGE; then
COOLING_MANUAL is refused with UNCONFIGURED or, unless the connection is OPEN or LOCKED_OUT, WRONG_STATE. Taken, it
makes the channel MANUAL at the duty given, 1000 at most; COOLING_AUTO makes it AUTO without a manual duty. The
channel's selected duty follows (R96). COOLING_RETRY (R109): every faulted tach channel becomes HEALTHY with retry
count 0, its retry timer stopped and its grace timer started for 5 s, and COOLING_FAULT is raised for it; a healthy
channel is not changed. A channel that the forcing holds at 0 keeps its grace timer stopped (R105; log entry 11). -/
def Obligations.CoolingRequests : Prop :=
  (∀ (s : State) (p : Port) (code high low : Byte),
     let given := high.toNat * 256 + low.toNat
     let duty := min 1000 given
     let setTo : DutyChannel → ChannelRecord → State := fun c r =>
       { s with thermal := { s.thermal with channels := s.thermal.channels.set c r } }
     (Takes s p .coolingManual [code, high, low] →
       (5 ≤ code.toNat → exec (.coolingManual p) s = .next (s.answered p 0x48 .range [])) ∧
       (∀ c, code.toNat = dutyCode c →
         (s.config.configured = false →
           exec (.coolingManual p) s = .next (s.answered p 0x48 .unconfigured [])) ∧
         (s.config.configured = true → s.conn.connection ≠ .opened → s.conn.connection.isLocked = false →
           exec (.coolingManual p) s = .next (s.answered p 0x48 .wrongState [])) ∧
         (s.config.configured = true → (s.conn.connection = .opened ∨ s.conn.connection.isLocked = true) →
           ∃ t, exec (.coolingManual p) s = .next t ∧
             EventLeaves
               ((setTo c { s.thermal.channels.get c with mode := .manual, manual := some duty }).answered p 0x48
                 (if given ≤ 1000 then .ok else .clamped) [])
               [] t ∧
             (t.thermal.channels.get c).selected = (forcedBy s.fire.status s.fire.causes c).getD duty))) ∧
     (Takes s p .coolingAuto [code] →
       (5 ≤ code.toNat → exec (.coolingAuto p) s = .next (s.answered p 0x49 .range [])) ∧
       (∀ c, code.toNat = dutyCode c →
         ∃ t, exec (.coolingAuto p) s = .next t ∧
           EventLeaves
             ((setTo c { s.thermal.channels.get c with mode := .auto, manual := none }).answered p 0x49 .ok [])
             [] t ∧
           (s.config.configured = true →
             (t.thermal.channels.get c).selected =
               (forcedBy s.fire.status s.fire.causes c).getD (s.thermal.channels.get c).automatic)))) ∧
  (∀ (s : State) (p : Port), Takes s p .coolingRetry [] →
     (∀ c, s.thermal.forcing.get c = forcedBy s.fire.status s.fire.causes c) →
     ∃ t, exec (.coolingRetry p) s = .next t ∧
       EventLeaves
         (({ s with
             thermal := { s.thermal with
               tachs := Tachs.of fun ch =>
                 if (s.thermal.tachs.get ch).check = .healthy then s.thermal.tachs.get ch
                 else { s.thermal.tachs.get ch with check := .healthy, retries := 0 },
               cooling := .normal } } : State).answered p 0x4A .ok [])
         ([TachChannel.fanA, .fanB, .pump].filterMap fun ch =>
           if (s.thermal.tachs.get ch).check = .healthy then none else some (broadcast (.coolingFault ch .healthy)))
         t ∧
       ∀ ch,
         ((s.thermal.tachs.get ch).check ≠ .healthy →
           (t.thermal.tachs.get ch).retry = .stopped ∧
           (t.thermal.tachs.get ch).grace =
             if s.thermal.forcing.get (dutyOf ch) = some 0 then .stopped else .running 5000000) ∧
         ((s.thermal.tachs.get ch).check = .healthy →
           (t.thermal.tachs.get ch).retry = (s.thermal.tachs.get ch).retry ∧
           (t.thermal.tachs.get ch).grace = (s.thermal.tachs.get ch).grace))

/-- The tach inputs and timers (R104, R105, R107): a change of the filtered level from low to high counts one pulse
and no other change counts; a grace timer that runs out stays run out, and at the instant at which a window begins it
counts as run out for that window: the channel is then armed from the window's start exactly when it is armed now. A
FAULTED channel whose retry timer runs out enters TRYING, with the grace timer started for 5 s unless the forcing
holds the channel at 0 (DEDUCED, log entry 11). The note that a channel has been armed since the window's start is the
model's own field (DEDUCED, log entry 18). -/
def Obligations.TachInputsAndTimers : Prop :=
  ∀ (s : State) (ch : TachChannel), s.resetHeld = false →
    let r := s.thermal.tachs.get ch
    (∀ high, exec (.tachFilteredLevelChange ch high) s =
      .next (s.setTach ch
        { r with
          filteredHigh := high,
          pulses := if r.filteredHigh = false ∧ high = true then r.pulses + 1 else r.pulses })) ∧
    (∀ left, r.grace = .running left →
      let a := s.advance left
      let expired : TachRecord := { a.thermal.tachs.get ch with grace := .runOut }
      (a.thermal.windowLeft ≠ 1000000 → exec (.graceTimerExpiry ch) s = .next (a.setTach ch expired)) ∧
      (a.thermal.windowLeft = 1000000 →
        (Armed (a.setTach ch expired) ch →
          exec (.graceTimerExpiry ch) s = .next (a.setTach ch { expired with armedSinceStart := true })) ∧
        (¬ Armed (a.setTach ch expired) ch →
          exec (.graceTimerExpiry ch) s = .next (a.setTach ch { expired with armedSinceStart := false })))) ∧
    (∀ left, r.retry = .running left → r.check = .faulted →
      exec (.retryTimerExpiry ch) s =
        .next ((s.advance left).setTach ch
          { (s.advance left).thermal.tachs.get ch with
            check := .trying, retry := .stopped,
            grace :=
              if s.thermal.forcing.get (dutyOf ch) = some 0 then .stopped else .running 5000000 }))

/-- PWM_PERIOD_START (R93, R95, R102): the period, the alignments and the polarities written since take effect, and
the next period start is one period away; every shadow duty becomes the active duty; the damper follows; and a tach
channel whose active duty rises from 0 starts its grace timer for 5 s (R105), while no other grace timer changes. At
every moment the level of a duty output is that of R94: active inside the window of its compare time, which begins with
the period or, for CENTRE, at half of what the period leaves, and inactive outside it, by its polarity. At a duty of 0 it
is never active, and at a duty of 1000 it is active at every moment, the end of a period among them. While a period start
is due and not yet taken, the period in progress is read at its last microsecond (DESIGN CHOICE, log entry 34). -/
def Obligations.PeriodStartTakesShadowDuties : Prop :=
  (∀ s : State, s.resetHeld = false → DutiesFollow s →
    let a := s.advance s.thermal.pwm.left
    ∃ t, exec .pwmPeriodStart s = .next t ∧
      EventLeaves
        { a with
          thermal := { a.thermal with
            pwm := ⟨s.config.pwmPeriod, s.config.pwmPeriod, s.config.centred, s.config.activeLow,
              s.config.releaseActiveLow⟩ } }
        [] t ∧
      (∀ c, t.thermal.channels.get c =
        { s.thermal.channels.get c with active := (s.thermal.channels.get c).shadow }) ∧
      (t.thermal.damperOpen = true ↔
        0 < s.thermal.channels.fanA.shadow ∨ 0 < s.thermal.channels.fanB.shadow ∨
        0 < s.thermal.channels.exhaust.shadow) ∧
      ∀ ch,
        let old := s.thermal.channels.get (dutyOf ch)
        (t.thermal.tachs.get ch).retry = (a.thermal.tachs.get ch).retry ∧
        (t.thermal.tachs.get ch).grace =
          if old.active = 0 ∧ 0 < old.shadow then .running 5000000 else (a.thermal.tachs.get ch).grace) ∧
  (∀ (s : State) (c : DutyChannel),
     let p := s.thermal.pwm
     let duty := (s.thermal.channels.get c).active
     let compare := p.period * duty / 1000
     let start := if p.centred.get c = true then (p.period - compare) / 2 else 0
     let position := min (p.period - p.left) (p.period - 1)
     let inside := start ≤ position ∧ position < start + compare
     (s.lines.outputs.get c = true ↔ (inside ↔ p.activeLow.get c = false)) ∧
     (duty = 0 → (s.lines.outputs.get c = true ↔ p.activeLow.get c = true)) ∧
     (duty = 1000 → 0 < p.period → (s.lines.outputs.get c = true ↔ p.activeLow.get c = false)))

/-- TACH_WINDOW_END (R104, R106): the count of each channel becomes its measured rate, 65535 at most, and restarts
from 0; a channel for which the window is valid is judged by its minimum rate as the table of R106 gives, with its
retry timer started for 60 s on the way to FAULTED; the changes are told in the order FAN_A, FAN_B, PUMP, but not
the return of a TRYING channel to FAULTED; and the next window begins, from whose start a channel is armed exactly when
it is armed now (R105; the field that notes it is the model's own, log entry 18). -/
def Obligations.WindowEndJudgesTheChannels : Prop :=
  ∀ s : State, s.resetHeld = false →
    (∀ c, s.thermal.forcing.get c = forcedBy s.fire.status s.fire.causes c) →
    let a := s.advance s.thermal.windowLeft
    ∀ verdict : TachChannel → CheckState × Nat,
      (∀ ch, (WindowValid a ch →
          verdict ch = verdictOf (a.thermal.tachs.get ch).check (a.thermal.tachs.get ch).retries
            (decide (s.config.tachMinimum ch ≤ min 65535 (a.thermal.tachs.get ch).pulses))) ∧
        (¬ WindowValid a ch →
          verdict ch = ((a.thermal.tachs.get ch).check, (a.thermal.tachs.get ch).retries))) →
      ∃ t, exec .tachWindowEnd s = .next t ∧
        EventLeaves
          { a with
            thermal := { a.thermal with
              windowLeft := 1000000, cooling := t.thermal.cooling,
              tachs := Tachs.of fun ch =>
                { a.thermal.tachs.get ch with
                  rate := min 65535 (a.thermal.tachs.get ch).pulses, pulses := 0,
                  check := (verdict ch).1, retries := (verdict ch).2 } } }
          ([TachChannel.fanA, .fanB, .pump].filterMap fun ch =>
            if (verdict ch).1 = (a.thermal.tachs.get ch).check ∨
                ((a.thermal.tachs.get ch).check = .trying ∧ (verdict ch).1 = .faulted) then none
            else some (broadcast (.coolingFault ch (verdict ch).1)))
          t ∧
        ∀ ch, (t.thermal.tachs.get ch).grace = (a.thermal.tachs.get ch).grace ∧
          ((t.thermal.tachs.get ch).retry =
            if (verdict ch).1 = (a.thermal.tachs.get ch).check then (a.thermal.tachs.get ch).retry
            else if (verdict ch).1 = .faulted then .running 60000000
            else if (verdict ch).1 = .latched then .stopped
            else (a.thermal.tachs.get ch).retry) ∧
          ((t.thermal.tachs.get ch).armedSinceStart = true ↔ Armed t ch)

/-! ### Fire controller (Chapter 7) -/

/-- A sample moves a detector's run counts and state (R116 to R119, R121): each count of its kind goes up by one,
255 at most, when the level meets the count's test, and returns to 0 otherwise; the counts then decide the state, the
first row of R117's table that applies; ALARM and DISABLED stay; FAULT ends after ten levels in range, with the
judging runs at 0. A detector of kind NONE takes its level alone. -/
def Obligations.SampleMovesRunsAndState : Prop :=
  ∀ (d : Detector) (c : ConfigSet) (level : Nat),
    d.sample c .none level = { d with level := level } ∧
    ∀ k : DetectorKind, k ≠ .none →
      let e := d.sample c k level
      let ok := 1 ≤ level ∧ level ≤ 254
      let run : Nat → Prop → Nat → Prop := fun old meets new =>
        (meets → new = min 255 (old + 1)) ∧ (¬ meets → new = 0)
      e.level = level ∧ e.disablement = d.disablement ∧
      run d.faultRun (¬ ok) e.faultRun ∧ run d.inRangeRun ok e.inRangeRun ∧
      (¬ (d.state = .fault ∧ e.state = .normal) →
        run d.alarmRun (ok ∧ c.alarmThreshold k ≤ level) e.alarmRun ∧
        run d.preRun (k ≠ .manual ∧ ok ∧ c.preThreshold k ≤ level) e.preRun ∧
        run d.clearRun (k ≠ .manual ∧ ok ∧ level + 8 < c.preThreshold k) e.clearRun) ∧
      (d.state = .alarm → e.state = .alarm) ∧ (d.state = .disabled → e.state = .disabled) ∧
      (d.state = .fault →
        (10 ≤ e.inRangeRun → e.state = .normal ∧ e.preRun = 0 ∧ e.alarmRun = 0 ∧ e.clearRun = 0) ∧
        (e.inRangeRun < 10 → e.state = .fault)) ∧
      (d.state = .normal ∨ d.state = .pre →
        (3 ≤ e.faultRun → e.state = .fault) ∧
        (e.faultRun < 3 → 3 ≤ e.alarmRun → e.state = .alarm) ∧
        (e.faultRun < 3 → e.alarmRun < 3 → d.state = .normal → 3 ≤ e.preRun → e.state = .pre) ∧
        (e.faultRun < 3 → e.alarmRun < 3 → d.state = .normal → e.preRun < 3 → e.state = .normal) ∧
        (e.faultRun < 3 → e.alarmRun < 3 → d.state = .pre → 10 ≤ e.clearRun → e.state = .normal) ∧
        (e.faultRun < 3 → e.alarmRun < 3 → d.state = .pre → e.clearRun < 10 → e.state = .pre))

/-- FIRE_SAMPLING (R114, R125 to R131): in one event, after the time left to the sampling instant, every detector is
sampled, the panel's run count and latch and the HOLD sample are taken, and the fire state follows. Without a
confirmed fire it is WATCH or QUIET by the detectors; a confirmation gives ALARM, HELD or COUNTDOWN by auto-release
and the hold, and opens the string as an emergency (R136, R151). In a confirmed state the hold moves COUNTDOWN and
HELD alone, and the cause set takes exactly the kinds of the in-service detectors that enter PRE or ALARM at this event,
and PANEL if the latch is set at it, beside its old members (R129). A level that is missing is read as 0 (DESIGN CHOICE,
log entry 24), and an emergency opening that ends in its own event raises two CONNECTION_STATE (DEDUCED, log entry 8). -/
def Obligations.SamplingMovesTheFireState : Prop :=
  ∀ (s : State) (levels : List Byte) (panel hold : Bool),
    s.resetHeld = false →
    let a := s.advance s.fire.samplingLeft
    let run := if panel then min 255 (s.fire.panelRun + 1) else 0
    let opening := a.conn.emergency .fire .fire
    ∃ t, exec (.fireSampling levels panel hold) s = .next t ∧
      let confirmedNow := ¬ s.fireConfirmed ∧ t.fireConfirmed
      (∀ told conn, (confirmedNow → conn = opening.conn ∧ told = opening.raised.map broadcast) →
        (¬ confirmedNow → conn = a.conn ∧ told = []) →
        EventLeaves
          { a with
            conn := conn,
            fire := { a.fire with
              detectors := (List.range 16).map fun i =>
                (a.fire.detector i).sample s.config (s.config.detectorKind i) (levels.getD i 0).toNat,
              panelRun := run, panelLatch := s.fire.panelLatch || decide (3 ≤ run), holdSample := hold,
              samplingLeft := 100000, status := t.fire.status, causes := t.fire.causes,
              countdown := t.fire.countdown } }
          told t) ∧
      (¬ s.fireConfirmed → ¬ FireSeen s.config t.fire →
        WatchFollows s.config t.fire ∧ t.fire.countdown = a.fire.countdown) ∧
      (¬ s.fireConfirmed → FireSeen s.config t.fire →
        CausesAre s.config t.fire t.fire.panelLatch ∧
        (s.config.autoRelease = false → t.fire.status = .alarm ∧ t.fire.countdown = a.fire.countdown) ∧
        (s.config.autoRelease = true → t.fire.hold = true →
          t.fire.status = .held ∧ t.fire.countdown = a.fire.countdown) ∧
        (s.config.autoRelease = true → t.fire.hold = false →
          t.fire.status = .countdown ∧ t.fire.countdown = .running s.config.releaseDelay)) ∧
      (s.fireConfirmed →
        (s.fire.status = .countdown ∧ t.fire.hold = true →
          t.fire.status = .held ∧ t.fire.countdown = .stopped) ∧
        (s.fire.status = .held ∧ t.fire.hold = false →
          t.fire.status = .countdown ∧ t.fire.countdown = .running s.config.releaseDelay) ∧
        (¬ (s.fire.status = .countdown ∧ t.fire.hold = true) →
          ¬ (s.fire.status = .held ∧ t.fire.hold = false) →
          t.fire.status = s.fire.status ∧ t.fire.countdown = a.fire.countdown) ∧
        (let enters : DetectorKind → Prop := fun k =>
           ∃ i < 16, s.config.detectorKind i = k ∧
             ((t.fire.detector i).state = .pre ∨ (t.fire.detector i).state = .alarm) ∧
             (t.fire.detector i).state ≠ (s.fire.detector i).state
         (t.fire.causes.offgas = true ↔ s.fire.causes.offgas = true ∨ enters .offgas) ∧
         (t.fire.causes.smoke = true ↔ s.fire.causes.smoke = true ∨ enters .smoke) ∧
         (t.fire.causes.heat = true ↔ s.fire.causes.heat = true ∨ enters .heat) ∧
         (t.fire.causes.manual = true ↔ s.fire.causes.manual = true ∨ enters .manual) ∧
         (t.fire.causes.panel = true ↔
           s.fire.causes.panel = true ∨ (s.fire.panelLatch = false ∧ t.fire.panelLatch = true))))

/-- HOLD_SET and HOLD_CLEAR (R130, R131): the site hold request is set or removed; a hold that becomes active turns
COUNTDOWN to HELD and stops the timer, and one that becomes inactive turns HELD to COUNTDOWN with the full delay; a
HOLD_SET while the request stands, and a HOLD_CLEAR while it does not, change nothing. The release (R131 to R133):
RELEASE_NOW in ALARM or COUNTDOWN, and the countdown's end, enter RELEASED, with the release pulse started at the
stored length and RELEASE_STARTED raised; RELEASE_NOW is refused in HELD, QUIET and WATCH, and changes nothing in
RELEASED. The pulse ends when its time has passed, and the RELEASE output is at its active level exactly while a pulse
runs, by its polarity (R111). -/
def Obligations.HoldAndRelease : Prop :=
  (∀ (s : State) (p : Port),
     let withFire : FireControl → State := fun f => { s with fire := f }
     (Takes s p .holdSet [] →
       ∃ t, exec (.holdSet p) s = .next t ∧
         EventLeaves
           ((withFire
             (if s.fire.siteHold = true then s.fire
              else if s.fire.status = .countdown then
                { s.fire with siteHold := true, status := .held, countdown := .stopped }
              else { s.fire with siteHold := true })).answered p 0x50 .ok [])
           [] t) ∧
     (Takes s p .holdClear [] → (s.fire.status = .countdown → s.fire.hold = false) →
       ∃ t, exec (.holdClear p) s = .next t ∧
         EventLeaves
           ((withFire
             (if s.fire.siteHold = false then s.fire
              else if s.fire.status = .held ∧ s.fire.holdSample = false then
                { s.fire with
                  siteHold := false, status := .countdown, countdown := .running s.config.releaseDelay }
              else { s.fire with siteHold := false })).answered p 0x51 .ok [])
           [] t)) ∧
  (∀ s : State,
     let released : State → State := fun a =>
       { a with
         fire := { a.fire with status := .released, countdown := .stopped },
         thermal := { a.thermal with releasePulse := .running s.config.releasePulse } }
     (∀ p, Takes s p .releaseNow [] →
       ((s.fire.status = .alarm ∨ s.fire.status = .countdown) →
         ∃ t, exec (.releaseNow p) s = .next t ∧
           EventLeaves ((released s).answered p 0x52 .ok []) [broadcast (.releaseStarted .releaseNow)] t) ∧
       ((s.fire.status = .held ∨ s.fire.status = .quiet ∨ s.fire.status = .watch) →
         exec (.releaseNow p) s = .next (s.answered p 0x52 .wrongState [])) ∧
       (s.fire.status = .released → exec (.releaseNow p) s = .next (s.answered p 0x52 .ok []))) ∧
     (s.resetHeld = false →
       (∀ left, s.fire.status = .countdown → s.fire.countdown = .running left →
         ∃ t, exec .countdownExpiry s = .next t ∧
           EventLeaves (released (s.advance left)) [broadcast (.releaseStarted .countdown)] t) ∧
       (s.fire.status ≠ .countdown → exec .countdownExpiry s = .next s) ∧
       (∀ left, s.thermal.releasePulse = .running left →
         let a := s.advance left
         exec .releasePulseEnd s = .next { a with thermal := { a.thermal with releasePulse := .stopped } }))) ∧
  (∀ s : State,
     s.lines.release = true ↔ ((∃ left, s.thermal.releasePulse = .running left) ↔ s.thermal.pwm.releaseActiveLow = false))

/-- FIRE_RESET (R134): in QUIET and WATCH it is answered OK and changes nothing; in a confirmed state it is refused
with WRONG_STATE while an in-service detector's latest level lies from 1 to 254 and is not below its pre threshold,
and otherwise every detector in ALARM or PRE becomes NORMAL with its judging runs at 0, the panel latch and run are
cleared, the countdown is stopped, the cause set is emptied and the fire state becomes QUIET. -/
def Obligations.FireResetEndsTheFire : Prop :=
  ∀ (s : State) (p : Port), Takes s p .fireReset [] →
    let blocked := ∃ i < 16, inService (s.config.detectorKind i) (s.fire.detector i) = true ∧
      1 ≤ (s.fire.detector i).level ∧ (s.fire.detector i).level ≤ 254 ∧
      s.config.preThreshold (s.config.detectorKind i) ≤ (s.fire.detector i).level
    (¬ s.fireConfirmed → exec (.fireReset p) s = .next (s.answered p 0x53 .ok [])) ∧
    (s.fireConfirmed → blocked → exec (.fireReset p) s = .next (s.answered p 0x53 .wrongState [])) ∧
    (s.fireConfirmed → ¬ blocked →
      ∃ t, exec (.fireReset p) s = .next t ∧
        EventLeaves
          (({ s with
              fire := { s.fire with
                detectors := s.fire.detectors.map fun d =>
                  if d.state = .alarm ∨ d.state = .pre then
                    { d with state := .normal, preRun := 0, alarmRun := 0, clearRun := 0 }
                  else d,
                panelLatch := false, panelRun := 0, countdown := .stopped, status := .quiet,
                causes := ⟨false, false, false, false, false⟩ } } : State).answered p 0x53 .ok [])
          [] t)

/-- DETECTOR_DISABLE, DETECTOR_ENABLE and the end of a disablement (R121, R122, R127): an index above 15 is refused
with RANGE, and a disablement in a confirmed state with WRONG_STATE. A disabled detector is DISABLED for 8 h with its
runs at 0; one whose disablement ends is NORMAL with its runs at 0; and in QUIET or WATCH the fire state follows. An
enabled detector is not changed by DETECTOR_ENABLE. -/
def Obligations.DisablementStopsAndRestartsADetector : Prop :=
  ∀ s : State,
    let disabled : Nat → Detector := fun i => ⟨some 28800000000, (s.fire.detector i).level, .disabled, 0, 0, 0, 0, 0⟩
    let enabled : Nat → Detector := fun i => ⟨none, (s.fire.detector i).level, .normal, 0, 0, 0, 0, 0⟩
    let replaced : State → Nat → Detector → State → State := fun a i d t =>
      { a with
        fire := { a.fire with
          detectors := a.fire.detectors.set i d, status := t.fire.status, causes := t.fire.causes } }
    let follows : State → Prop := fun t =>
      (s.fireConfirmed → t.fire.status = s.fire.status ∧ t.fire.causes = s.fire.causes) ∧
      (¬ s.fireConfirmed → WatchFollows s.config t.fire)
    (∀ (p : Port) (index : Byte), Takes s p .detectorDisable [index] →
      (16 ≤ index.toNat → exec (.detectorDisable p) s = .next (s.answered p 0x55 .range [])) ∧
      (index.toNat < 16 → s.fireConfirmed →
        exec (.detectorDisable p) s = .next (s.answered p 0x55 .wrongState [])) ∧
      (index.toNat < 16 → ¬ s.fireConfirmed →
        ∃ t, exec (.detectorDisable p) s = .next t ∧ follows t ∧
          EventLeaves ((replaced s index.toNat (disabled index.toNat) t).answered p 0x55 .ok []) [] t)) ∧
    (∀ (p : Port) (index : Byte), Takes s p .detectorEnable [index] →
      (16 ≤ index.toNat → exec (.detectorEnable p) s = .next (s.answered p 0x54 .range [])) ∧
      (index.toNat < 16 → (s.fire.detector index.toNat).disablement = none →
        exec (.detectorEnable p) s = .next (s.answered p 0x54 .ok [])) ∧
      (index.toNat < 16 → (s.fire.detector index.toNat).disablement ≠ none →
        ∃ t, exec (.detectorEnable p) s = .next t ∧ follows t ∧
          EventLeaves ((replaced s index.toNat (enabled index.toNat) t).answered p 0x54 .ok []) [] t)) ∧
    (s.resetHeld = false → ∀ i left, (s.fire.detector i).disablement = some left →
      ∃ t, exec (.disablementExpiry i) s = .next t ∧ follows t ∧
        EventLeaves (replaced (s.advance left) i (enabled i) t) [] t)

/-! ### Connection controller (Chapter 8) -/

/-- A contactor's disagreement timer (R142): it is started for 100 ms when command and feedback come to differ by a
change of either, and stopped, with the fault mark cleared, when they come to agree; a command or a feedback that
does not change leaves the record as it was. Its running out is a contactor fault: the fault mark is set,
CONTACTOR_FAULT is raised with the command the contactor had (DEDUCED, log entry 15), all three contactors are commanded
OPEN, and a string that is not LOCKED_OUT becomes so with cause CONTACTOR; a LOCKED_OUT string keeps its cause. Each
drive output follows its contactor's command (R141). -/
def Obligations.ContactorsAreTimedAndFault : Prop :=
  (∀ (r : ContactorRecord) (v : Switch),
     let timed : ContactorRecord → ContactorRecord := fun n =>
       if n.command = n.feedback then { n with disagreement := .stopped, faultMark := false }
       else { n with disagreement := .running 100000 }
     (r.command = v → r.withCommand v = r) ∧
     (r.command ≠ v → r.withCommand v = timed { r with command := v }) ∧
     (r.feedback = v → r.withFeedback v = r) ∧
     (r.feedback ≠ v → r.withFeedback v = timed { r with feedback := v })) ∧
  (∀ (s : State) (k : Contactor) (left : Nat), s.resetHeld = false →
     (s.conn.contactors.get k).disagreement = .running left →
     let a := s.advance left
     let marked : Contactors ContactorRecord :=
       a.conn.contactors.set k { a.conn.contactors.get k with disagreement := .runOut, faultMark := true }
     let contactors : Contactors ContactorRecord :=
       ⟨marked.neg.withCommand .opened, marked.pre.withCommand .opened, marked.pos.withCommand .opened⟩
     let told := Event.contactorFault k (s.conn.contactors.get k).command
     ((∃ cause, s.conn.connection = .lockedOut cause) →
       ∃ t, exec (.disagreementTimerExpiry k) s = .next t ∧
         EventLeaves { a with conn := { a.conn with contactors := contactors } } [broadcast told] t) ∧
     ((∀ cause, s.conn.connection ≠ .lockedOut cause) →
       ∃ t, exec (.disagreementTimerExpiry k) s = .next t ∧
         EventLeaves
           { a with
             conn := { a.conn with
               contactors := contactors, connection := .lockedOut .contactor, precharge := .stopped,
               openWait := .stopped } }
           [broadcast told, broadcast (.connectionState (.lockedOut .contactor) .contactor)] t)) ∧
  (∀ (s : State) (k : Contactor), s.lines.drives.get k = (s.conn.contactors.get k).command)

/-- What an opening does next (R150): in phase MAINS, once POS and PRE show OPEN, NEG is commanded OPEN and the phase
becomes NEG; in phase NEG, once NEG shows OPEN, or all three where they were opened together, it ends: in LOCKED_OUT
with its cause for an EMERGENCY opening, and in OPEN otherwise, with CONNECTION_STATE and the reason OPENED. An
emergency open with a cause, from a fire (R151) or a set hard-limit flag (R152), by connection state: it begins phase
MAINS at once, or cuts a wait short, or turns a NORMAL or ABORT opening with its steps as they stand, or locks an OPEN
string out; an EMERGENCY opening and a LOCKED_OUT string keep their cause. An EMERGENCY opening that took over an ABORT
one ends when all three show OPEN (DEDUCED, log entry 14), and an opening that ends in the event of its start raises two
CONNECTION_STATE (DEDUCED, log entry 8). -/
def Obligations.OpeningsGoOnAndTurn : Prop :=
  (∀ (c : ConnectionControl) (kind : Opening),
     let feedback : Contactor → Switch := fun k => (c.contactors.get k).feedback
     let together := kind = .abort ∨ ∃ cause, kind = .emergency cause true
     let final : Connection := match kind with
       | .normal | .abort => .opened
       | .emergency cause _ => .lockedOut cause
     let passed : ConnectionControl → ConnectionControl := fun c =>
       { c with
         contactors := { c.contactors with neg := c.contactors.neg.withCommand .opened },
         connection := .opening kind .neg, precharge := .stopped, openWait := .stopped }
     let ended : ConnectionControl → ConnChange := fun c =>
       ⟨{ c with connection := final, precharge := .stopped, openWait := .stopped },
         [.connectionState final .opened]⟩
     (c.connection = .opening kind .mains →
       (feedback .pos = .closed ∨ feedback .pre = .closed → c.goOnOpening = ⟨c, []⟩) ∧
       (feedback .pos = .opened → feedback .pre = .opened →
         (feedback .neg = .closed → c.goOnOpening = ⟨passed c, []⟩) ∧
         (feedback .neg = .opened → c.goOnOpening = ended (passed c)))) ∧
     (c.connection = .opening kind .neg →
       (feedback .neg = .closed → c.goOnOpening = ⟨c, []⟩) ∧
       (feedback .neg = .opened → ¬ together → c.goOnOpening = ended c) ∧
       (feedback .neg = .opened → together →
         (feedback .pos = .closed ∨ feedback .pre = .closed → c.goOnOpening = ⟨c, []⟩) ∧
         (feedback .pos = .opened → feedback .pre = .opened → c.goOnOpening = ended c))) ∧
     (c.connection = .opening kind .wait → c.goOnOpening = ⟨c, []⟩)) ∧
  (∀ (c : ConnectionControl) (cause : LockCause) (reason : ConnectionReason),
     let turned : Connection → ConnChange := fun n =>
       ⟨{ c with connection := n, precharge := .stopped, openWait := .stopped }, [.connectionState n reason]⟩
     let mains : ConnectionControl :=
       { c with
         contactors := ⟨c.contactors.neg, c.contactors.pre.withCommand .opened, c.contactors.pos.withCommand .opened⟩,
         connection := .opening (.emergency cause false) .mains, precharge := .stopped, openWait := .stopped }
     ((∃ phase, c.connection = .precharging phase) ∨ c.connection = .closing ∨ c.connection = .closed ∨
         c.connection = .opening .normal .wait →
       c.emergency cause reason =
         ⟨mains.goOnOpening.conn,
           .connectionState (.opening (.emergency cause false) .mains) reason :: mains.goOnOpening.raised⟩) ∧
     (∀ phase, phase ≠ .wait → c.connection = .opening .normal phase →
       c.emergency cause reason = turned (.opening (.emergency cause false) phase)) ∧
     (∀ phase, c.connection = .opening .abort phase →
       c.emergency cause reason = turned (.opening (.emergency cause true) phase)) ∧
     (c.connection = .opened → c.emergency cause reason = turned (.lockedOut cause)) ∧
     (∀ held fromAbort phase, c.connection = .opening (.emergency held fromAbort) phase →
       c.emergency cause reason = ⟨c, []⟩) ∧
     (∀ held, c.connection = .lockedOut held → c.emergency cause reason = ⟨c, []⟩))

/-- CONNECT (R143), its checks in order, each refusal of WRONG_STATE with its reason code. A CONNECT that is taken
commands NEG CLOSED, makes the connection PRECHARGING in NEG_WAIT, returns every duty channel to AUTO (R98) and
raises CONNECTION_STATE with the reason CONNECT. UNLOCK (R154), its checks in order, each refusal with its reason
code: LOCKED_OUT, the fire state QUIET, the hard-limit flag clear, and every contactor showing OPEN with its fault
mark clear. Taken, it gives OPEN with attempt count 0 and CONNECTION_STATE with the reason UNLOCK. -/
def Obligations.ConnectAndUnlock : Prop :=
  (∀ (s : State) (p : Port), Takes s p .connect [] →
     let refused : Byte → Prop := fun reason =>
       exec (.connect p) s = .next (s.answered p 0x30 .wrongState [reason])
     (s.config.configured = false → exec (.connect p) s = .next (s.answered p 0x30 .unconfigured [])) ∧
     (s.config.configured = true →
       (s.conn.connection ≠ .opened → refused 0x00) ∧
       (s.conn.connection = .opened →
         (s.fire.status ≠ .quiet → refused 0x01) ∧
         (s.fire.status = .quiet →
           (s.table.dataLoss.holds = true → refused 0x02) ∧
           (s.table.dataLoss.holds = false →
             (s.table.hardLimits.flag = true → refused 0x03) ∧
             (s.table.hardLimits.flag = false →
               (s.conn.cooldown.isRunning = true → refused 0x04) ∧
               (s.conn.cooldown.isRunning = false →
                 ∃ t, exec (.connect p) s = .next t ∧
                   EventLeaves
                     (({ s with
                         conn := { s.conn with
                           contactors :=
                             { s.conn.contactors with neg := s.conn.contactors.neg.withCommand .closed },
                           connection := .precharging .negWait, precharge := .stopped, openWait := .stopped },
                         thermal := { s.thermal with
                           channels := Channels.of fun c =>
                             { s.thermal.channels.get c with mode := .auto, manual := none } } } : State).answered
                       p 0x30 .ok [])
                     [broadcast (.connectionState (.precharging .negWait) .connect)] t))))))) ∧
  (∀ (s : State) (p : Port), Takes s p .unlock [] →
     let refused : Byte → Prop := fun reason =>
       exec (.unlock p) s = .next (s.answered p 0x32 .wrongState [reason])
     let sound := ∀ k, (s.conn.contactors.get k).feedback = .opened ∧
       (s.conn.contactors.get k).faultMark = false
     ((∀ cause, s.conn.connection ≠ .lockedOut cause) → refused 0x00) ∧
     ∀ cause, s.conn.connection = .lockedOut cause →
       (s.fire.status ≠ .quiet → refused 0x01) ∧
       (s.fire.status = .quiet →
         (s.table.hardLimits.flag = true → refused 0x03) ∧
         (s.table.hardLimits.flag = false →
           (¬ sound → refused 0x05) ∧
           (sound →
             ∃ t, exec (.unlock p) s = .next t ∧
               EventLeaves
                 (({ s with
                     conn := { s.conn with
                       attempts := 0, connection := .opened, precharge := .stopped,
                       openWait := .stopped } } : State).answered p 0x32 .ok [])
                 [broadcast (.connectionState .opened .unlock)] t))))

/-- DISCONNECT (R153, R149, R150) from every port: in CLOSED a NORMAL opening starts with its wait, which a passing
current test ends at once; in PRECHARGING and CLOSING an ABORT opening commands all three contactors OPEN; in every
other state nothing changes. An opening that ends in the event of its start raises two CONNECTION_STATE (DEDUCED, log
entry 8). -/
def Obligations.DisconnectStartsAnOpening : Prop :=
  ∀ (s : State) (p : Port), Takes s p .disconnect [] →
    let c := s.conn
    let atRest := (s.table.string.state = .known ∨ s.table.string.state = .stale) ∧
      (s.table.string.current.natAbs : Int) ≤ s.config.openCurrent
    let openings : ConnectionControl → ConnectionControl := fun c =>
      { c with
        contactors :=
          ⟨c.contactors.neg, c.contactors.pre.withCommand .opened, c.contactors.pos.withCommand .opened⟩,
        connection := .opening .normal .mains, precharge := .stopped, openWait := .stopped }
    let aborting : ConnectionControl :=
      { c with
        contactors :=
          ⟨c.contactors.neg.withCommand .opened, c.contactors.pre.withCommand .opened,
            c.contactors.pos.withCommand .opened⟩,
        connection := .opening .abort .neg, precharge := .stopped, openWait := .stopped }
    let leaves : ConnectionControl → List Event → Prop := fun conn raised =>
      ∃ t, exec (.disconnect p) s = .next t ∧
        EventLeaves (({ s with conn := conn } : State).answered p 0x31 .ok []) (raised.map broadcast) t
    (c.connection = .closed → ¬ atRest →
      leaves
        { c with
          connection := .opening .normal .wait, openWait := .running s.config.openWait, precharge := .stopped }
        [.connectionState (.opening .normal .wait) .disconnect]) ∧
    (c.connection = .closed → atRest →
      leaves (openings c).goOnOpening.conn
        (.connectionState (.opening .normal .wait) .disconnect :: (openings c).goOnOpening.raised)) ∧
    ((∃ phase, c.connection = .precharging phase) ∨ c.connection = .closing →
      leaves aborting.goOnOpening.conn
        (.connectionState (.opening .abort .neg) .disconnect :: aborting.goOnOpening.raised)) ∧
    ((∃ kind phase, c.connection = .opening kind phase) ∨ c.connection = .opened ∨
        (∃ cause, c.connection = .lockedOut cause) → leaves c [])

/-- CONTACTOR_FEEDBACK_CHANGE (R141, R144, R147, R150): a feedback that already has the value changes nothing;
otherwise the record takes it, and the connection goes on by its state: NEG closed in NEG_WAIT begins CHARGING, with
PRE commanded CLOSED and the precharge timer started; POS closed in CLOSING has PRE commanded OPEN, and PRE then
open makes the string CLOSED with attempt count 0; an opening goes on; in any other state nothing else follows. That
NEG_WAIT is left at a change of any feedback once NEG shows CLOSED, and that POS closed with PRE open already makes the
string CLOSED in one event, is DEDUCED (log entry 13). -/
def Obligations.FeedbackMovesTheConnection : Prop :=
  ∀ (s : State) (k : Contactor) (v : Switch), s.resetHeld = false →
    ((s.conn.contactors.get k).feedback = v → exec (.contactorFeedbackChange k v) s = .next s) ∧
    ((s.conn.contactors.get k).feedback ≠ v →
      let d : ConnectionControl :=
        { s.conn with contactors := s.conn.contactors.set k ((s.conn.contactors.get k).withFeedback v) }
      let pre : ConnectionControl :=
        if d.contactors.pos.feedback = .closed then
          { d with contactors := { d.contactors with pre := d.contactors.pre.withCommand .opened } }
        else d
      let leaves : ConnectionControl → List Event → Prop := fun conn raised =>
        ∃ t, exec (.contactorFeedbackChange k v) s = .next t ∧
          EventLeaves { s with conn := conn } (raised.map broadcast) t
      (s.conn.connection = .precharging .negWait → d.contactors.neg.feedback = .closed →
        leaves
          { d with
            contactors := { d.contactors with pre := d.contactors.pre.withCommand .closed },
            connection := .precharging .charging, precharge := .running s.config.prechargeTimeout,
            openWait := .stopped }
          []) ∧
      (s.conn.connection = .precharging .negWait → d.contactors.neg.feedback = .opened → leaves d []) ∧
      (s.conn.connection = .closing →
        pre.contactors.pre.command = .opened → pre.contactors.pre.feedback = .opened →
        leaves
          { pre with attempts := 0, connection := .closed, precharge := .stopped, openWait := .stopped }
          [.connectionState .closed .connected]) ∧
      (s.conn.connection = .closing →
        ¬ (pre.contactors.pre.command = .opened ∧ pre.contactors.pre.feedback = .opened) → leaves pre []) ∧
      (∀ kind phase, s.conn.connection = .opening kind phase →
        leaves d.goOnOpening.conn d.goOnOpening.raised) ∧
      (s.conn.connection = .precharging .charging ∨ s.conn.connection = .opened ∨
          s.conn.connection = .closed ∨ (∃ cause, s.conn.connection = .lockedOut cause) → leaves d []))

/-- The running out of the connection controller's other timers: a precharge fails (R146), with the third failure in
a row locking the string out; the cool-down ends (R146); an open wait ends under load (R149, R150); the data-loss
open timer starts a NORMAL opening (R148, R149); and the reconnect timer stays run out (R160). An opening that ends in
the event of its start raises two CONNECTION_STATE (DEDUCED, log entry 8). -/
def Obligations.ConnectionTimersRunOut : Prop :=
  ∀ (s : State) (left : Nat), s.resetHeld = false →
    let a := s.advance left
    let c := a.conn
    let leaves : Instr → ConnectionControl → List Event → Prop := fun i conn raised =>
      ∃ t, exec i s = .next t ∧ EventLeaves { a with conn := conn } (raised.map broadcast) t
    let mains : ConnectionControl :=
      { c with
        contactors :=
          ⟨c.contactors.neg, c.contactors.pre.withCommand .opened, c.contactors.pos.withCommand .opened⟩,
        connection := .opening .normal .mains, precharge := .stopped, openWait := .stopped }
    let usable := s.table.string.state = .known ∨ s.table.string.state = .stale
    (s.conn.precharge = .running left →
      let next : Connection := if s.conn.attempts = 2 then .lockedOut .precharge else .opened
      leaves .prechargeTimerExpiry
        { c with
          contactors :=
            ⟨c.contactors.neg.withCommand .opened, c.contactors.pre.withCommand .opened, c.contactors.pos⟩,
          attempts := s.conn.attempts + 1, cooldown := .running 30000000, connection := next,
          precharge := .stopped, openWait := .stopped }
        [.prechargeFailed (s.conn.attempts + 1), .connectionState next .prechargeFailed]) ∧
    (s.conn.cooldown = .running left →
      exec .cooldownExpiry s = .next { a with conn := { c with cooldown := .runOut } }) ∧
    (s.conn.openWait = .running left →
      leaves .openWaitExpiry mains.goOnOpening.conn
        (.openedUnderLoad (if s.table.string.state = .known ∨ s.table.string.state = .stale then
            some s.table.string.current else none) :: mains.goOnOpening.raised)) ∧
    (s.conn.dataLossOpen = .running left →
      (usable ∧ (s.table.string.current.natAbs : Int) ≤ s.config.openCurrent →
        leaves .dataLossOpenExpiry mains.goOnOpening.conn
          (.connectionState (.opening .normal .wait) .dataLoss :: mains.goOnOpening.raised)) ∧
      (¬ (usable ∧ (s.table.string.current.natAbs : Int) ≤ s.config.openCurrent) →
        leaves .dataLossOpenExpiry
          { c with
            connection := .opening .normal .wait, openWait := .running s.config.openWait,
            precharge := .stopped }
          [.connectionState (.opening .normal .wait) .dataLoss])) ∧
    (s.conn.reconnect = .running left → s.conn.gridPresent = true →
      ∃ t, exec .reconnectTimerExpiry s = .next t ∧ EventLeaves a [] t ∧ t.conn.reconnect = .runOut)

/-! ### Permit and grid (sections 8.4, 8.5) -/

/-- PERMIT and WITHDRAW (R156): a duration above 3600 is refused with RANGE; a taken PERMIT grants, with the duration
timer started for the duration or stopped for 0, a taken WITHDRAW withdraws and stops the timer, and each removes the
FALLBACK entry if one stands. -/
def Obligations.PermitAndWithdraw : Prop :=
  ∀ (s : State) (p : Port),
    let without : StackState := match s.conn.fallbackHandle with
      | some h => { s.stack with entries := s.stack.entries.filter fun e => decide (e.handle ≠ h) }
      | none => s.stack
    let leaves : Instr → Byte → PermitState → Timer → Prop := fun i kind state timer =>
      ∃ t, exec i s = .next t ∧
        EventLeaves
          (({ s with
              stack := without,
              conn := { s.conn with permit := state, permitTimer := timer, fallbackHandle := none } } : State).answered
            p kind .ok [])
          [] t
    (∀ high low : Byte, Takes s p .permit [high, low] →
      let seconds := high.toNat * 256 + low.toNat
      (3600 < seconds → exec (.permit p) s = .next (s.answered p 0x35 .range [])) ∧
      (seconds ≤ 3600 →
        leaves (.permit p) 0x35 .granted (if seconds = 0 then .stopped else .running (seconds * 1000000)))) ∧
    (Takes s p .withdraw [] → leaves (.withdraw p) 0x36 .withdrawn .stopped)

/-- PERMIT_LAPSE (R157, R74): the FALLBACK entry of UTIL, with both fallback caps at I_rated or below and no remaining
time, goes on top, displacing as a utility push does; its handle is kept and the permit is LAPSED. At a stack of eight
utility-owned entries none is added and the permit is WITHDRAWN. -/
def Obligations.LapsePushesTheFallbackEntry : Prop :=
  ∀ (s : State) (left : Nat), s.resetHeld = false → s.conn.permitTimer = .running left →
    let a := s.advance left
    let rated := s.config.ratedCurrent
    let utility : Entry → Prop := fun e =>
      e.owner = .port .util ∨ ∃ k c, e.owner = .slot k ∧ s.claim k = some c ∧ c.owner = .util
    let lapsed : List Entry → Nat → List (Option Claim) → State := fun entries h slots =>
      { a with
        stack :=
          { entries := entries ++
              [⟨h, .port .util, .fallback, some (min s.config.fallbackCharge rated),
                some (min s.config.fallbackDischarge rated), none⟩],
            nextHandle := if h < 255 then h + 1 else 1 },
        slots := slots,
        conn := { a.conn with permit := .lapsed, permitTimer := .stopped, fallbackHandle := some h } }
    (s.stack.entries.length < 8 →
      ∃ t, exec .permitLapse s = .next t ∧
        EventLeaves (lapsed a.stack.entries a.stack.freeHandle s.slots) [] t) ∧
    (s.stack.entries.length = 8 → (∀ e ∈ s.stack.entries, utility e) →
      ∃ t, exec .permitLapse s = .next t ∧
        EventLeaves { a with conn := { a.conn with permit := .withdrawn, permitTimer := .stopped } } [] t) ∧
    (s.stack.entries.length = 8 → (s.stack.entries.map Entry.handle).Nodup →
      ∀ below e above, a.stack.entries = below ++ e :: above → (∀ x ∈ below, utility x) → ¬ utility e →
        let h := ({ a.stack with entries := below ++ above } : StackState).freeHandle
        (∀ q, e.owner = .port q →
          ∃ t, exec .permitLapse s = .next t ∧
            EventLeaves (lapsed (below ++ above) h s.slots) [directed q (.curtailDisplaced e.handle h)] t) ∧
        (∀ k c, e.owner = .slot k → s.claim k = some c →
          ∃ t, exec .permitLapse s = .next t ∧
            EventLeaves
              (lapsed (below ++ above) h (s.slots.set k (some { c with entry := none, starved := true })))
              [directed c.owner (.watchStarved k)] t))

/-- The grid (R158, R159): GRID_TRIP places a notice of the asking port's origin, and one from CONV starts the
conversion notice timer if the line is present; GRID_RESTORED empties the set and stops the timer; the line's presence
takes its new value, and the timer starts or stops with it while a CONV notice stands; at its end the CONV notice
goes. Where one of these makes the grid present, the reconnect timer is started for the reconnect delay, and where one
makes it absent, the timer is stopped (R160). -/
def Obligations.GridNoticesAndLine : Prop :=
  ∀ s : State,
    let c := s.conn
    let delay := s.config.reconnectDelay
    let present : ConnectionControl → Prop := fun c =>
      c.linePresent = true ∧ c.convNotice = false ∧ c.utilNotice = false
    let timed : State → Prop := fun t =>
      (¬ present c → present t.conn → t.conn.reconnect = .running delay) ∧
      (present c → ¬ present t.conn → t.conn.reconnect = .stopped)
    let answered : Instr → Port → Byte → ConnectionControl → Prop := fun i p kind conn =>
      ∃ t, exec i s = .next t ∧ EventLeaves (({ s with conn := conn } : State).answered p kind .ok []) [] t ∧
        timed t
    (Takes s .conv .gridTrip [] →
      answered (.gridTrip .conv) .conv 0x33
        { c with convNotice := true, convTimer := if c.linePresent = true then .running delay else .stopped }) ∧
    (Takes s .util .gridTrip [] → answered (.gridTrip .util) .util 0x33 { c with utilNotice := true }) ∧
    (∀ p, Takes s p .gridRestored [] →
      answered (.gridRestored p) p 0x34
        { c with convNotice := false, utilNotice := false, convTimer := .stopped }) ∧
    (s.resetHeld = false →
      (∀ line, c.linePresent = line → exec (.gridLineChange line) s = .next s) ∧
      (∀ line, c.linePresent ≠ line →
        ∃ t, exec (.gridLineChange line) s = .next t ∧
          EventLeaves
            { s with
              conn := { c with
                linePresent := line,
                convTimer := if line = true ∧ c.convNotice = true then .running delay else .stopped } }
            [] t ∧ timed t) ∧
      (∀ left, c.convTimer = .running left →
        ∃ t, exec .convNoticeTimerExpiry s = .next t ∧
          EventLeaves
            (let a := s.advance left
             { a with conn := { a.conn with convNotice := false, convTimer := .stopped } })
            [] t ∧ timed t))

/-! ### Chain controller (Chapter 1) -/

/-- SWEEP_ONCE and SWEEP_CONTINUOUS (R16, R17): refused with UNCONFIGURED while the part is UNCONFIGURED; in STOPPED
they set the due mark, and SWEEP_CONTINUOUS starts the period timer; SWEEP_CONTINUOUS in SINGLE starts the timer and
leaves the due mark; in every other mode they have no effect. SWEEP_STOP (R18, R19): refused with WRONG_STATE unless
the connection is OPEN or LOCKED_OUT. Taken, it makes the mode STOPPED with the timer stopped and the due mark clear;
a sweep in progress is aborted, at once between two exchanges (log entry 9) and otherwise at the end of the exchange
in progress; and an IDLE chain sends BLEED_OFF. In STOPPED it sends BLEED_OFF from IDLE and changes nothing in
ABORTING and CLEARING. -/
def Obligations.SweepRequestsSetTheMode : Prop :=
  (∀ (s : State) (p : Port),
     let c := s.chain
     let period := s.config.sweepPeriod
     let leaves : Instr → Byte → ChainState → Prop := fun i kind chain =>
       ∃ t, exec i s = .next t ∧ EventLeaves ((s.withChain chain).answered p kind .ok []) [] t
     (Takes s p .sweepOnce [] →
       (s.config.configured = false → exec (.sweepOnce p) s = .next (s.answered p 0x40 .unconfigured [])) ∧
       (s.config.configured = true →
         (c.mode = .stopped → leaves (.sweepOnce p) 0x40 { c with mode := .single, due := true }) ∧
         (c.mode ≠ .stopped → leaves (.sweepOnce p) 0x40 c))) ∧
     (Takes s p .sweepContinuous [] →
       (s.config.configured = false →
         exec (.sweepContinuous p) s = .next (s.answered p 0x41 .unconfigured [])) ∧
       (s.config.configured = true →
         (c.mode = .continuous → leaves (.sweepContinuous p) 0x41 c) ∧
         (c.mode = .stopped → leaves (.sweepContinuous p) 0x41
           { c with mode := .continuous, due := true, periodTimer := .running period, periodLength := period }) ∧
         (c.mode = .single → leaves (.sweepContinuous p) 0x41
           { c with mode := .continuous, periodTimer := .running period, periodLength := period })))) ∧
  (∀ (s : State) (p : Port), Takes s p .sweepStop [] →
     let c := s.chain
     let stopped : ChainState := { c with mode := .stopped, periodTimer := .stopped, due := false }
     let clearing : ChainState → ChainState := fun c =>
       { c with bleedOffRequest := false, activity := .clearing, link := .frameDue, exchange := none }
     let leaves : ChainState → Prop := fun chain =>
       ∃ t, exec (.sweepStop p) s = .next t ∧ EventLeaves ((s.withChain chain).answered p 0x42 .ok []) [] t
     (s.conn.connection ≠ .opened → s.conn.connection.isLocked = false →
       exec (.sweepStop p) s = .next (s.answered p 0x42 .wrongState [])) ∧
     (s.conn.connection = .opened ∨ s.conn.connection.isLocked = true →
       (c.mode = .stopped →
         (c.activity = .aborting ∨ c.activity = .clearing → leaves c) ∧
         (c.activity = .idle → leaves (clearing c))) ∧
       (c.mode ≠ .stopped →
         (c.activity = .clearing → leaves stopped) ∧
         (c.activity = .aborting → leaves { stopped with bleedOffRequest := true }) ∧
         (c.activity = .idle → leaves (clearing stopped)) ∧
         (∀ e, c.activity = .sweeping → c.exchange = some e → e.begun = true →
           leaves { stopped with bleedOffRequest := true, activity := .aborting }) ∧
         (∀ e, c.activity = .sweeping → c.exchange = some e → e.begun = false →
           leaves
             (clearing
               { stopped with
                 buffer := List.replicate 33 none, divisor := c.deferredDivisor.getD c.divisor,
                 deferredDivisor := none })))))

/-- PERIOD_BOUNDARY, SWEEP_BEGIN and AGE_TIMER_EXPIRY: a boundary sets the due mark and the next one is a period away
(R13); a due sweep of an IDLE chain begins with an empty buffer and the string monitor (R10, R11), and otherwise no
sweep begins; and the age timer's end makes AGED true and publishes in the same event (R33, R47). -/
def Obligations.PeriodsSweepsAndAge : Prop :=
  ∀ s : State, s.resetHeld = false →
    (∀ left, s.chain.periodTimer = .running left →
      let a := s.advance left
      exec .periodBoundary s =
        .next (a.withChain { a.chain with due := true, periodTimer := .running s.chain.periodLength })) ∧
    (s.chain.due = true → s.chain.mode ≠ .stopped → s.chain.activity = .idle →
      exec .sweepBegin s =
        .next (s.withChain
          { s.chain with
            due := false, activity := .sweeping, buffer := List.replicate 33 none, link := .frameDue,
            exchange := some ⟨0, false, false, 0⟩ })) ∧
    (s.chain.due = false ∨ s.chain.mode = .stopped ∨ s.chain.activity ≠ .idle →
      exec .sweepBegin s = .next s) ∧
    (∀ left, s.table.ageTimer = .running left →
      let a := s.advance left
      ∃ t, exec .ageTimerExpiry s = .next t ∧
        EventLeaves
          { a with
            table := { a.table with dataLoss := { a.table.dataLoss with aged := true }, ageTimer := .runOut } }
          [] t ∧
        t.envelope.record.kind = .change ∧
        t.envelope.publicationNumber = s.envelope.publicationNumber + 1)

/-- The frames of the chain (R1, R2, R4, R5, R7, R19, R20): a due frame is begun once the line is free, five
characters with the ninth bit on the address alone and a sum of 0 mod 256; it takes five character times of
11 × (N + 1) µs; after a READ or READ_BALANCE frame the reply is awaited for 1 ms, and after BLEED_OFF the line is
free and the chain IDLE, with a deferred divisor applied; and the line becomes free when the quiet interval ends. The
part drives the chain line exactly while a frame is being sent. -/
def Obligations.ChainFramesAndTheLine : Prop :=
  ∀ s : State, s.resetHeld = false →
    let c := s.chain
    let frame : Byte → Byte → Mask → List ChainChar → Prop := fun address command mask chars =>
      ∃ check, chars =
        [⟨address, true, true⟩, ⟨command, false, true⟩, ⟨mask.setWidth 8, false, true⟩,
          ⟨(mask >>> 8).setWidth 8, false, true⟩, ⟨check, false, true⟩] ∧
        ((chars.map fun x => x.value.toNat).sum) % 256 = 0
    let sent : List ChainChar → Mask → Option Exchange → State := fun chars mask e =>
      s.withChain
        { c with
          link := .sending chars, linkTimer := .running (5 * (11 * (c.divisor + 1))), lineFree := false,
          pendingMask := mask, exchange := e }
    (c.link ≠ .frameDue ∨ c.lineFree = false → exec .chainFrameSend s = .next s) ∧
    (c.link = .frameDue → c.lineFree = true → c.activity = .clearing →
      ∃ chars, frame 63 0x03 0 chars ∧ exec .chainFrameSend s = .next (sent chars 0 none)) ∧
    (∀ e, c.link = .frameDue → c.lineFree = true → (c.activity = .sweeping ∨ c.activity = .aborting) →
      c.exchange = some e → e.address ≤ 32 →
      let mask := if e.address = 0 then 0 else s.balanceMask e.address
      ∃ chars, frame (BitVec.ofNat 8 e.address) (if mask = 0 then 0x01 else 0x02) mask chars ∧
        exec .chainFrameSend s = .next (sent chars mask (some { e with begun := true, mask := mask }))) ∧
    (∀ chars left, c.link = .sending chars → c.linkTimer = .running left →
      let a := s.advance left
      (c.activity ≠ .clearing →
        exec .commandFrameEnd s =
          .next (a.withChain
            { a.chain with link := .awaitingReply, linkTimer := .running 1000, pendingMask := 0 })) ∧
      (c.activity = .clearing → c.bleedOffRequest = false →
        exec .bleedOffSent s =
          .next (a.withChain
            { a.chain with
              activity := .idle, link := .rest, linkTimer := .stopped, lineFree := true, pendingMask := 0,
              exchange := none, divisor := c.deferredDivisor.getD c.divisor, deferredDivisor := none }))) ∧
    (∀ left, c.lineFree = false → (c.link = .rest ∨ c.link = .frameDue) → c.linkTimer = .running left →
      exec .chainLineFree s =
        .next ((s.advance left).withChain { (s.advance left).chain with lineFree := true, linkTimer := .stopped })) ∧
    (s.lines.chainDriven = true ↔ ∃ chars, c.link = .sending chars)

/-- The verdict on a reply (R5, R6, R8): the first error in the order of arrival decides, a stop bit at space or a
later ninth bit (FRAMING), a first character that is not the address (ADDRESS); all characters having come, the check
and then the status decide; and a reply of the expected length without an error is accepted. A first character that
shows both errors fails with FRAMING (DESIGN CHOICE, log entry 30). -/
def Obligations.RepliesAreJudgedInOrder : Prop :=
  ∀ address : Nat, address ≤ 32 →
    let n := if address = 0 then 7 else 31
    let sound : Bool → ChainChar → Prop := fun first c =>
      c.stopAtMark = true ∧ c.ninth = first ∧ (first = true → c.value = BitVec.ofNat 8 address)
    (∀ (before : List ChainChar) (c : ChainChar) (after : List ChainChar), before.length < n →
      (∀ i x, before[i]? = some x → sound (decide (i = 0)) x) →
      (c.stopAtMark = false → replyVerdict address (before ++ c :: after) = .failed .framing) ∧
      (c.stopAtMark = true → before ≠ [] → c.ninth = true →
        replyVerdict address (before ++ c :: after) = .failed .framing) ∧
      (c.stopAtMark = true → before = [] → (c.ninth = false ∨ c.value ≠ BitVec.ofNat 8 address) →
        replyVerdict address (before ++ c :: after) = .failed .address)) ∧
    (∀ chars : List ChainChar, (∀ i x, chars[i]? = some x → sound (decide (i = 0)) x) →
      let sum := (chars.map fun x => x.value.toNat).sum
      let status := (chars.map ChainChar.value).getD (n - 2) 0
      (chars.length < n → replyVerdict address chars = .incomplete) ∧
      (chars.length = n → sum % 256 ≠ 0 → replyVerdict address chars = .failed .check) ∧
      (chars.length = n → sum % 256 = 0 → status ≠ 0 →
        replyVerdict address chars = .failed .monitorFault) ∧
      (chars.length = n → sum % 256 = 0 → status = 0 →
        replyVerdict address chars = .accepted (chars.map ChainChar.value)))

/-- What a reply's end, an error in it or a passed limit does to the exchange that awaits it (R7 to R9): an accepted
reply ends it well with the line free at once; a failed first attempt is retried, but not after MONITOR_FAULT; a
failed retry ends it as missed; and the line is free two character times later, or at once after a gap, or after
what two character times exceed the reply timeout by (DEDUCED, log entry 22), by the divisor active as the attempt fails
(DESIGN CHOICE, log entry 29). Where no reply is awaited nothing happens (R1; log entry 1). -/
def Obligations.AttemptsEndOrAreRetried : Prop :=
  ∀ s : State, s.resetHeld = false →
    let c := s.chain
    let two := 2 * (11 * (c.divisor + 1))
    let failed : State → Exchange → ErrorKind → Nat → State := fun a e error quiet =>
      let line : ChainState :=
        if quiet = 0 then { a.chain with lineFree := true, linkTimer := .stopped }
        else { a.chain with lineFree := false, linkTimer := .running quiet }
      if e.retry = false ∧ error ≠ .monitorFault then
        a.withChain { line with exchange := some { e with retry := true }, link := .frameDue }
      else (a.withChain line).endExchange e (.missed error)
    (c.link ≠ .awaitingReply → ∀ chars some,
      exec (.chainReplyEnd chars) s = .next s ∧ exec (.chainReplyError chars) s = .next s ∧
      exec (.chainReplyTimeout some) s = .next s) ∧
    (∀ e, c.link = .awaitingReply → c.exchange = some e →
      (∀ chars reply, replyVerdict e.address chars = .accepted reply →
        exec (.chainReplyEnd chars) s =
          .next ((s.withChain { c with lineFree := true, linkTimer := .stopped }).endExchange e
            (.good (replyValues e.address s.config.cellsPerMonitor reply)))) ∧
      (∀ chars error, replyVerdict e.address chars = .failed error →
        (error = .check ∨ error = .monitorFault →
          exec (.chainReplyEnd chars) s = .next (failed s e error two)) ∧
        (error = .framing ∨ error = .address →
          exec (.chainReplyError chars) s = .next (failed s e error two))) ∧
      exec (.chainReplyTimeout true) s = .next (failed s e .timeout 0) ∧
      (∀ left, c.linkTimer = .running left →
        exec (.chainReplyTimeout false) s = .next (failed (s.advance left) e .timeout (two - 1000))))

/-- The end of an exchange (R9 to R12, R14, R18, R22, R44): in ABORTING its outcome and the partial buffer are
discarded, the chain becomes IDLE and a BLEED_OFF request is served; in SWEEPING its outcome is written and the next
address follows; and after the last configured address the sweep completes, in one event: the sweep number advances,
every configured record takes its outcome, with MONITOR_MISSING, MONITOR_ABSENT and MONITOR_RETURNED as R14's table
gives them; the cell table takes the new snapshot; the watch table is evaluated on it; fan demand and heater state
follow it (R99, R101); a set hard-limit flag opens or locks the string (R152), and else the precharge test (R145) or the
current test of a wait (R149) is made; and the envelope publishes. The evaluation of the watch table (R85 to R91): every
claimed slot's condition becomes its effective condition; a CURTAIL slot that acts loses its entry and its starved flag
when it is false, and pushes when it is true and holds none, in rising order of slot, each push against the stack as the
ones before have left it, refused or displacing by the claiming port's priority; NOTIFY slots that act raise WATCH_HIT
with the lowest satisfying index, and WATCH_CLEARED. A slot chained from above does not act. -/
def Obligations.ExchangeEndGoesOnOrCompletes : Prop :=
  (∀ (s : State) (e : Exchange) (o : ExchangeOutcome),
    let c := s.chain
    let count := s.config.monitorCount
    let buffer := c.buffer.set e.address (some ⟨o, e.mask⟩)
    (c.activity = .aborting →
      s.endExchange e o =
        s.withChain
          { c with
            buffer := List.replicate 33 none, divisor := c.deferredDivisor.getD c.divisor, deferredDivisor := none,
            bleedOffRequest := false, activity := if c.bleedOffRequest = true then .clearing else .idle,
            link := if c.bleedOffRequest = true then .frameDue else .rest, exchange := none }) ∧
    (c.activity = .sweeping → e.address < count →
      s.endExchange e o =
        s.withChain
          { c with buffer := buffer, exchange := some ⟨e.address + 1, false, false, 0⟩, link := .frameDue }) ∧
    (c.activity = .sweeping → count ≤ e.address → count ≤ 32 →
      let t := s.endExchange e o
      let number := c.sweepNumber + 1
      let old : Nat → MonitorRecord := fun a => c.records.getD a ⟨.unconfigured, 0, none, none⟩
      let done : ChainState :=
        { c with
          buffer := buffer, sweepNumber := number, records := t.chain.records, activity := .idle, link := .rest,
          exchange := none, divisor := c.deferredDivisor.getD c.divisor, deferredDivisor := none }
      let table := s.table.takeSnapshot s.config number t.chain.records buffer
      let watched := ({ s with chain := t.chain, table := table } : State).evaluateWatch
      let flag := table.hardLimits.cellHigh || table.hardLimits.cellLow || table.hardLimits.tempHigh
      let charged := s.conn.connection = .precharging .charging ∧ table.string.state = .known ∧
        table.dataLoss.holds = false ∧
        table.aggregates.vsum * s.config.prechargeRatio / 1000 ≤ table.string.dcLink * 100
      let atRest := s.conn.connection = .opening .normal .wait ∧
        (table.string.state = .known ∨ table.string.state = .stale) ∧
        (table.string.current.natAbs : Int) ≤ s.config.openCurrent
      let mains : ConnectionControl :=
        { s.conn with
          contactors :=
            ⟨s.conn.contactors.neg, s.conn.contactors.pre.withCommand .opened,
              s.conn.contactors.pos.withCommand .opened⟩,
          connection := .opening .normal .mains, precharge := .stopped, openWait := .stopped }
      let monitorTold : Nat → List Raised := fun a =>
        if count < a then []
        else match buffer.getD a none with
          | some ⟨.good _, _⟩ =>
            if (old a).state = .missing ∨ (old a).state = .absent then
              [broadcast (.monitorReturned a (old a).missCount)]
            else []
          | some ⟨.missed error, _⟩ =>
            if (old a).missCount = 0 ∧ (old a).state = .present then [broadcast (.monitorMissing a error)]
            else if (old a).missCount = 2 then [broadcast (.monitorAbsent a error)]
            else []
          | none => []
      t.chain =
        (if c.mode = .single then
          { done with
            mode := .stopped, periodTimer := .stopped, due := false, bleedOffRequest := false,
            activity := .clearing, link := .frameDue }
        else done) ∧
      t.chain.records.length = 33 ∧
      (∀ a, a ≤ 32 →
        let misses := min 255 ((old a).missCount + 1)
        (count < a → t.chain.records[a]? = some (old a)) ∧
        (a ≤ count → ∀ values mask, buffer.getD a none = some ⟨.good values, mask⟩ →
          t.chain.records[a]? = some ⟨.present, 0, none, some number⟩) ∧
        (a ≤ count → ∀ error mask, buffer.getD a none = some ⟨.missed error, mask⟩ →
          t.chain.records[a]? =
            some ⟨if misses ≤ 2 then .missing else .absent, misses, some error, (old a).lastGood⟩)) ∧
      (∀ conn raised,
        (flag = true → (⟨conn, raised⟩ : ConnChange) = s.conn.emergency .hardLimit .hardLimit) →
        (flag = false → charged →
          conn = { s.conn with
            contactors := { s.conn.contactors with pos := s.conn.contactors.pos.withCommand .closed },
            connection := .closing, precharge := .stopped, openWait := .stopped } ∧
          raised = [.connectionState .closing .precharged]) →
        (flag = false → atRest → (⟨conn, raised⟩ : ConnChange) = mains.goOnOpening) →
        (flag = false → ¬ charged → ¬ atRest → conn = s.conn ∧ raised = []) →
        EventLeaves
          { s with
            chain := t.chain, table := table, slots := watched.st.slots, stack := watched.st.stack,
            thermal := { s.thermal with fanDemand := t.thermal.fanDemand, heaterOn := t.thermal.heaterOn },
            conn := conn }
          ((List.range 33).flatMap monitorTold ++ watched.raised ++ raised.map broadcast) t) ∧
      MeasuredBy s.config table.aggregates s.thermal t.thermal ∧
      t.envelope.record.kind = .sweep ∧ t.envelope.record.sweepNumber = number ∧
      t.envelope.publicationNumber = s.envelope.publicationNumber + 1)) ∧
  (∀ (s : State) (now curtails : Nat → Bool), s.slots.length = 8 →
    (∀ k c, s.claim k = some c → (now k = true ↔ EffectiveCondition s k c)) →
    (∀ k, curtails k = true ↔
      ¬ ChainedFromAbove s k ∧ ∃ c, s.claim k = some c ∧ c.spec.action = .curtail) →
    let entryOf : Nat → Option Nat := fun k => (s.claim k).bind Claim.entry
    let ready : State :=
      { s with
        slots := (List.range 8).map fun k => (s.claim k).map fun c =>
          if curtails k = true ∧ now k = false then { c with condition := false, entry := none, starved := false }
          else { c with condition := now k },
        stack := { s.stack with
          entries := s.stack.entries.filter fun e => (List.range 8).all fun k =>
            decide ¬ (curtails k = true ∧ now k = false ∧ entryOf k = some e.handle) } }
    let pushed := ready.pushSlots
      ((List.range 8).filter fun k => decide (curtails k = true ∧ now k = true ∧ entryOf k = none))
    s.evaluateWatch.st = pushed.st ∧
    ∀ r, r ∈ s.evaluateWatch.raised ↔ r ∈ pushed.raised ∨
      ∃ k c, s.claim k = some c ∧ ¬ ChainedFromAbove s k ∧
        ((now k = true ∧ c.condition = false ∧ (c.spec.action = .notifyRise ∨ c.spec.action = .notifyBoth) ∧
            ∃ i, ItemSatisfies s c.spec i ∧ (∀ j < i, ¬ ItemSatisfies s c.spec j) ∧
              r = directed c.owner (.watchHit k i)) ∨
          (now k = false ∧ c.condition = true ∧ c.spec.action = .notifyBoth ∧
            r = directed c.owner (.watchCleared k)))) ∧
  (∀ s : State,
    s.pushSlots [] = ⟨s, []⟩ ∧
    (∀ k rest,
      s.pushSlots (k :: rest) =
        ⟨((s.pushSlot k).st.pushSlots rest).st,
          (s.pushSlot k).raised ++ ((s.pushSlot k).st.pushSlots rest).raised⟩) ∧
    ∀ k c, s.claim k = some c →
      let utility : Entry → Prop := fun e =>
        e.owner = .port .util ∨ ∃ j d, e.owner = .slot j ∧ s.claim j = some d ∧ d.owner = .util
      let pushed : List Entry → Nat → List (Option Claim) → State := fun entries h slots =>
        { s with
          stack :=
            { entries := entries ++
                [⟨h, .slot k, .watch, c.spec.chargeCap.map fun x => min x s.config.ratedCurrent,
                  c.spec.dischargeCap.map fun x => min x s.config.ratedCurrent, none⟩],
              nextHandle := if h < 255 then h + 1 else 1 },
          slots := slots.set k (some { c with entry := some h, starved := false }) }
      (s.stack.entries.length < 8 →
        s.pushSlot k = ⟨pushed s.stack.entries s.stack.freeHandle s.slots, []⟩) ∧
      (8 ≤ s.stack.entries.length → (c.owner ≠ .util ∨ ∀ e ∈ s.stack.entries, utility e) →
        s.pushSlot k =
          ⟨{ s with slots := s.slots.set k (some { c with starved := true }) },
            if c.starved = true then [] else [directed c.owner (.watchStarved k)]⟩) ∧
      (8 ≤ s.stack.entries.length → c.owner = .util → (s.stack.entries.map Entry.handle).Nodup →
        ∀ below e above, s.stack.entries = below ++ e :: above → (∀ x ∈ below, utility x) → ¬ utility e →
          let h := ({ s.stack with entries := below ++ above } : StackState).freeHandle
          (∀ q, e.owner = .port q →
            s.pushSlot k =
              ⟨pushed (below ++ above) h s.slots, [directed q (.curtailDisplaced e.handle h)]⟩) ∧
          (∀ j d, e.owner = .slot j → s.claim j = some d →
            s.pushSlot k =
              ⟨pushed (below ++ above) h (s.slots.set j (some { d with entry := none, starved := true })),
                [directed d.owner (.watchStarved j)]⟩)))

/-! ### Cell table (Chapter 2) -/

/-- A new snapshot (R22 to R33, R35): every item follows the state of its monitor. Of a PRESENT monitor it is
KNOWN with the value received, a code above 5000 being stored as 5000 and saturated, a temperature character of 0
being OPEN and one above 165 being clamped at 125 °C; of a MISSING monitor it is STALE at the value held; of an
ABSENT one it is UNKNOWN with value 0; the bleeding flags show the masks last sent; and an item that is not configured
is UNKNOWN with value 0. The aggregates are those of the usable items: the extremes each with the lowest index that
holds it, and absent without a usable item, the sum of the voltages, and the counts of configured cells by state.
ABSENT_MONITOR holds while a configured address is ABSENT, NO_TEMPERATURE while every configured point is OPEN or
UNKNOWN, and AGED is over, the age timer being started. -/
def Obligations.SnapshotTakesTheSweep : Prop :=
  ∀ (t : CellTable) (c : ConfigSet) (sweep : Serial) (records : List MonitorRecord)
    (buffer : List (Option BufferEntry)),
    let n := t.takeSnapshot c sweep records buffer
    let stateOf : Nat → MonitorState := fun m => (records.map MonitorRecord.state).getD m .unconfigured
    n.sweepNumber = sweep ∧ n.shapeMonitors = c.monitorCount ∧ n.shapeCells = c.cellsPerMonitor ∧
    n.monitorStates = records.map MonitorRecord.state ∧ n.dataLoss.aged = false ∧
    n.ageTimer = .running c.dataLossTime ∧
    (∀ i < 384,
      let m := i / 12 + 1
      let p := i % 12
      let old := t.cells.getD i ⟨0, .unknown, false, false⟩
      let bleeding := match buffer.getD m none with
        | some e => e.mask.getLsbD p
        | none => false
      (c.monitorCount < m ∨ c.cellsPerMonitor ≤ p → n.cells[i]? = some ⟨0, .unknown, false, false⟩) ∧
      (m ≤ c.monitorCount → p < c.cellsPerMonitor →
        (∀ (codes temperatures : List Nat) mask code, stateOf m = .present →
          buffer.getD m none = some ⟨.good (.cellMonitor codes temperatures), mask⟩ → codes[p]? = some code →
          n.cells[i]? = some ⟨min 5000 code, .known, decide (5000 < code), bleeding⟩) ∧
        (stateOf m = .missing → n.cells[i]? = some ⟨old.voltage, .stale, old.saturated, bleeding⟩) ∧
        (stateOf m = .absent → n.cells[i]? = some ⟨0, .unknown, false, bleeding⟩))) ∧
    (∀ i < 128,
      let m := i / 4 + 1
      let p := i % 4
      let old := t.points.getD i ⟨0, .unknown, false⟩
      (c.monitorCount < m → n.points[i]? = some ⟨0, .unknown, false⟩) ∧
      (m ≤ c.monitorCount →
        (∀ (codes temperatures : List Nat) mask (x : Nat), stateOf m = .present →
          buffer.getD m none = some ⟨.good (.cellMonitor codes temperatures), mask⟩ → temperatures[p]? = some x →
          n.points[i]? = some
            (if x = 0 then ⟨0, .openSensor, false⟩
             else if x ≤ 165 then ⟨(x : Int) - 40, .known, false⟩
             else ⟨125, .known, true⟩)) ∧
        (stateOf m = .missing → old.state ≠ .openSensor →
          n.points[i]? = some ⟨old.temperature, .stale, old.clamped⟩) ∧
        (stateOf m = .missing → old.state = .openSensor → n.points[i]? = some old) ∧
        (stateOf m = .absent → n.points[i]? = some ⟨0, .unknown, false⟩))) ∧
    (∀ current dcLink mask, stateOf 0 = .present →
      buffer.getD 0 none = some ⟨.good (.stringMonitor current dcLink), mask⟩ →
      n.string = ⟨max (-2000) (min 2000 current), min dcLink 20000, .known⟩) ∧
    (stateOf 0 = .missing → n.string = ⟨t.string.current, t.string.dcLink, .stale⟩) ∧
    (stateOf 0 = .absent → n.string = ⟨0, 0, .unknown⟩) ∧
    (n.hardLimits.cellHigh = true ↔ ∃ r ∈ n.cells, r.state.usable = true ∧ c.hardMax ≤ (r.voltage : Int)) ∧
    (n.hardLimits.cellLow = true ↔ ∃ r ∈ n.cells, r.state.usable = true ∧ (r.voltage : Int) ≤ c.hardMin) ∧
    (n.hardLimits.tempHigh = true ↔ ∃ r ∈ n.points, r.state.usable = true ∧ c.hardTemperature ≤ r.temperature) ∧
    (let usable : ItemState → Prop := fun x => x = .known ∨ x = .stale
     let cellIs : Nat → Int → Prop := fun i v => ∃ r, n.cells[i]? = some r ∧ usable r.state ∧ v = r.voltage
     let pointIs : Nat → Int → Prop := fun i v => ∃ r, n.points[i]? = some r ∧ usable r.state ∧ v = r.temperature
     let extreme : (Nat → Int → Prop) → (Int → Int → Prop) → Option (Int × Nat) → Prop := fun holds beats x =>
       (x = none ↔ ∀ i v, ¬ holds i v) ∧
       ∀ v i, x = some (v, i) ↔ holds i v ∧ ∀ j w, holds j w → ¬ beats w v ∧ (w = v → i ≤ j)
     let count : ItemState → Nat := fun x =>
       ((List.range 384).filter fun i =>
         decide (i / 12 + 1 ≤ c.monitorCount ∧ i % 12 < c.cellsPerMonitor ∧
           (n.cells[i]?).map CellRecord.state = some x)).length
     extreme cellIs (fun w v => v < w) n.aggregates.vmax ∧ extreme cellIs (fun w v => w < v) n.aggregates.vmin ∧
     extreme pointIs (fun w v => v < w) n.aggregates.tmax ∧ extreme pointIs (fun w v => w < v) n.aggregates.tmin ∧
     n.aggregates.vsum =
       ((n.cells.filter fun r => decide (r.state = .known ∨ r.state = .stale)).map CellRecord.voltage).sum ∧
     n.aggregates.knownCells = count .known ∧ n.aggregates.staleCells = count .stale ∧
     n.aggregates.unknownCells = count .unknown ∧
     (n.dataLoss.absentMonitor = true ↔ ∃ a ≤ c.monitorCount, stateOf a = .absent) ∧
     (n.dataLoss.noTemperature = true ↔
       ∀ i < 128, i / 4 + 1 ≤ c.monitorCount → ∀ r, n.points[i]? = some r →
         r.state = .openSensor ∨ r.state = .unknown))

/-- The balance mask of a cell monitor at a send moment (R37, R38): empty unless the part is CONFIGURED, balancing is
on, the fire state is QUIET, Tmax is present and below the limit and no data loss holds; otherwise it names at most
four positions, and exactly those candidates that fewer than four others precede, by a higher voltage or by an equal
one at a lower position. -/
def Obligations.BalanceMaskNamesTheHighestFour : Prop :=
  ∀ (s : State) (m : Nat), 1 ≤ m →
    let mask := s.balanceMask m
    let cell : Nat → CellRecord := fun p => s.table.cells.getD ((m - 1) * 12 + p) ⟨0, .unknown, false, false⟩
    let may := s.config.configured = true ∧ s.config.balancing = true ∧ s.fire.status = .quiet ∧
      (∃ t i, s.table.aggregates.tmax = some (t, i) ∧ t < s.config.balanceTemperature) ∧
      s.table.dataLoss.holds = false
    let named : List Nat := (List.range 12).filter fun p => mask.getLsbD p
    (¬ may → mask = 0) ∧ named.length ≤ 4 ∧
    (∀ vmin i, may → s.table.aggregates.vmin = some (vmin, i) →
      let isCandidate : Nat → Prop := fun p =>
        p < 12 ∧ m ≤ s.table.shapeMonitors ∧ p < s.table.shapeCells ∧ (cell p).state = .known ∧
        vmin + s.config.balanceWindow ≤ ((cell p).voltage : Int) ∧
        s.config.balanceFloor ≤ ((cell p).voltage : Int)
      let precedes : Nat → Nat → Prop := fun q p =>
        isCandidate q ∧
        ((cell p).voltage < (cell q).voltage ∨ ((cell q).voltage = (cell p).voltage ∧ q < p))
      ∀ p < 12, mask.getLsbD p = true ↔
        isCandidate p ∧ ∃ before : List Nat, before.Nodup ∧ (∀ q, q ∈ before ↔ precedes q p) ∧
          before.length < 4)

/-! ### Operating envelope (Chapter 3) -/

/-- A temperature curve of strictly increasing breakpoints (R51): below the first its value, above the last its value,
at a breakpoint its value, and between two of them the interpolation with the floor taken toward negative infinity,
which lies between their two values, both included. -/
def Obligations.CurveInterpolatesBetweenBreakpoints : Prop :=
  ∀ (points : List (Int × Int)) (t : Int), points.Pairwise (fun a b => a.1 < b.1) →
    (∀ first rest, points = first :: rest → t < first.1 → envelopeCurve points t = first.2) ∧
    (∀ last, points.getLast? = some last → last.1 < t → envelopeCurve points t = last.2) ∧
    (∀ b ∈ points, t = b.1 → envelopeCurve points t = b.2) ∧
    (∀ before a b after, points = before ++ a :: b :: after → a.1 < t → t < b.1 →
      envelopeCurve points t = a.2 + ((b.2 - a.2) * (t - a.1)) / (b.1 - a.1) ∧
      min a.2 b.2 ≤ envelopeCurve points t ∧ envelopeCurve points t ≤ max a.2 b.2)

/-- A publication (R42, R46, R49, R50, R52 to R60): the number advances by one, the snapshot's voltage sum and sweep
number are taken, a gate gives 0, and otherwise each limit is the smallest of the raw limit from the voltage,
temperature, cooling and detection factors, every cap of its direction in the stack, and the previous value, with the
rise step added at a SWEEP publication. The limiting set (R59) holds the gates' causes alone while a gate holds, and
otherwise VOLTAGE or TEMPERATURE for the factor that is below 1000 and not above the other, COOLING and DETECTION for a
factor below 1000, CURTAIL for a cap below the raw limit, and RISE where the rise limit lowered the value. The governing
entry of each direction (R60) is absent exactly when no entry carries a cap of it, and otherwise the topmost of the
entries whose cap is the lowest. The line ZERO_LIMIT is asserted while both limits are 0 (R62). -/
def Obligations.PublicationComputesTheRecord : Prop :=
  (∀ (s : State) (kind : PublicationKind),
     let c := s.config
     let a := s.table.aggregates
     let old := s.envelope.record
     let r := (s.publish kind).envelope.record
     let ceiling : Nat → Nat := fun previous => match kind with
       | .sweep => previous + c.riseStep
       | .change => previous
     let cooling : Int := match s.thermal.cooling with
       | .normal => 1000
       | .degraded => c.degradedFactor
       | .lost => c.lostFactor
     let raw : Int → Int → Nat := fun base detection =>
       ((c.ratedCurrent : Int) * (base * cooling / 1000 * detection / 1000) / 1000).toNat
     let chargeVoltage : Int → Int := fun v =>
       if v ≤ c.chargeTaper then 1000 else if c.chargeCeiling ≤ v then 0
       else 1000 * (c.chargeCeiling - v) / (c.chargeCeiling - c.chargeTaper)
     let dischargeVoltage : Int → Int := fun v =>
       if c.dischargeTaper ≤ v then 1000 else if v ≤ c.dischargeFloor then 0
       else 1000 * (v - c.dischargeFloor) / (c.dischargeTaper - c.dischargeFloor)
     let gatedBy : LimitingSet → Prop → Prop := fun x fire =>
       x.voltage = false ∧ x.temperature = false ∧ x.cooling = false ∧ x.detection = false ∧ x.curtail = false ∧
       x.rise = false ∧ (x.fire = true ↔ fire) ∧ (x.permission = true ↔ s.conn.acPermission = false) ∧
       x.dataLoss = s.table.dataLoss.holds ∧ (x.unconfigured = true ↔ c.configured = false)
     let limiting : Int → Int → Int → Bool → Bool → LimitingSet :=
       fun voltage temperature detection curtail rise =>
         { voltage := decide (voltage < 1000 ∧ voltage ≤ temperature),
           temperature := decide (temperature < 1000 ∧ temperature ≤ voltage), cooling := decide (cooling < 1000),
           detection := decide (detection < 1000), curtail := curtail, rise := rise, fire := false,
           permission := false, dataLoss := false, unconfigured := false }
     (s.publish kind).envelope.publicationNumber = s.envelope.publicationNumber + 1 ∧
     r.number = s.envelope.publicationNumber + 1 ∧ r.kind = kind ∧ r.vsum = a.vsum ∧
     r.sweepNumber = s.table.sweepNumber ∧
     r.chargePower = r.chargeLimit * r.vsum / 1000000 ∧ r.dischargePower = r.dischargeLimit * r.vsum / 1000000 ∧
     (s.bothGated → r.chargeLimit = 0 ∧ r.dischargeLimit = 0) ∧
     (s.fire.status = .watch → r.chargeLimit = 0) ∧
     (s.bothGated ∨ s.fire.status = .watch → gatedBy r.chargeSet (s.fireConfirmed ∨ s.fire.status = .watch)) ∧
     (s.bothGated → gatedBy r.dischargeSet s.fireConfirmed) ∧
     (∀ low j high k, ¬ s.bothGated → a.tmin = some (low, j) → a.tmax = some (high, k) →
       (∀ v i, s.fire.status ≠ .watch → a.vmax = some (v, i) →
         let base := min (chargeVoltage v) (min (envelopeCurve c.chargeCurve low) (envelopeCurve c.chargeCurve high))
         let value := raw base (if s.fire.impaired then c.detectionCharge else 1000)
         let capped := (s.stack.entries.filterMap Entry.chargeCap).foldl min value
         r.chargeLimit = min capped (ceiling old.chargeLimit) ∧
         r.chargeSet =
           limiting (chargeVoltage v) (min (envelopeCurve c.chargeCurve low) (envelopeCurve c.chargeCurve high))
             (if s.fire.impaired then c.detectionCharge else 1000) (decide (capped < value))
             (decide (ceiling old.chargeLimit < capped))) ∧
       (∀ v i, a.vmin = some (v, i) →
         let base :=
           min (dischargeVoltage v) (min (envelopeCurve c.dischargeCurve low) (envelopeCurve c.dischargeCurve high))
         let value := raw base (if s.fire.impaired then c.detectionDischarge else 1000)
         let capped := (s.stack.entries.filterMap Entry.dischargeCap).foldl min value
         r.dischargeLimit = min capped (ceiling old.dischargeLimit) ∧
         r.dischargeSet =
           limiting (dischargeVoltage v) (min (envelopeCurve c.dischargeCurve low) (envelopeCurve c.dischargeCurve high))
             (if s.fire.impaired then c.detectionDischarge else 1000) (decide (capped < value))
             (decide (ceiling old.dischargeLimit < capped))))) ∧
  (∀ (s : State) (kind : PublicationKind),
     let r := (s.publish kind).envelope.record
     let es := s.stack.entries
     (r.chargeGoverning = none ↔ ∀ e ∈ es, e.chargeCap = none) ∧
     (r.dischargeGoverning = none ↔ ∀ e ∈ es, e.dischargeCap = none) ∧
     (∀ below e above cap, es = below ++ e :: above → e.chargeCap = some cap →
       (∀ x ∈ below, ∀ c, x.chargeCap = some c → cap ≤ c) → (∀ x ∈ above, ∀ c, x.chargeCap = some c → cap < c) →
       r.chargeGoverning = some ⟨e.handle, e.owner⟩) ∧
     (∀ below e above cap, es = below ++ e :: above → e.dischargeCap = some cap →
       (∀ x ∈ below, ∀ c, x.dischargeCap = some c → cap ≤ c) →
       (∀ x ∈ above, ∀ c, x.dischargeCap = some c → cap < c) →
       r.dischargeGoverning = some ⟨e.handle, e.owner⟩)) ∧
  (∀ s : State,
     s.lines.zeroLimit = true ↔ s.envelope.record.chargeLimit = 0 ∧ s.envelope.record.dischargeLimit = 0)

/-- Whatever the step, the envelope record is as it was, or is that of power-on reset, or is that of one publication
(R42, R46), which raises no limit if it is a CHANGE publication and raises one by the rise step at most if it is a
SWEEP publication (R57), made when a sweep completes (R44). A publication computes the record from the state that the
event leaves. A command that changes an input of R45 makes exactly one CHANGE publication: the stack's entries (but for
the time that passes), the fire state, AC permission, the cooling state, the impairment or the configuration state. One
that changes none makes none, but for a taken AMEND_CURTAIL and the age timer's expiry; and a CONFIG_WRITE in
UNCONFIGURED makes none (DEDUCED, log entry 20). -/
def Obligations.LimitsRiseBySweepsAlone : Prop :=
  (∀ s t : State, step s = .next t →
    t.envelope = s.envelope ∨ t.envelope = State.reset.envelope ∨
    (t.envelope.publicationNumber = s.envelope.publicationNumber + 1 ∧
      t.envelope.record.number = t.envelope.publicationNumber ∧
      (t.envelope.record.kind = .change →
        t.envelope.record.chargeLimit ≤ s.envelope.record.chargeLimit ∧
        t.envelope.record.dischargeLimit ≤ s.envelope.record.dischargeLimit) ∧
      (t.envelope.record.kind = .sweep →
        t.envelope.record.chargeLimit ≤ s.envelope.record.chargeLimit + s.config.riseStep ∧
        t.envelope.record.dischargeLimit ≤ s.envelope.record.dischargeLimit + s.config.riseStep ∧
        t.chain.sweepNumber = s.chain.sweepNumber + 1))) ∧
  (∀ (c : Instr) (s t : State), c ≠ .powerOnReset → c ≠ .powerOnResetEnd → exec c s = .next t →
    let changed :=
      t.stack.entries ≠ (s.advance (t.clock - s.clock)).stack.entries ∨ t.fire.status ≠ s.fire.status ∨
      t.conn.acPermission ≠ s.conn.acPermission ∨ t.thermal.cooling ≠ s.thermal.cooling ∨
      t.fire.impaired ≠ s.fire.impaired ∨ t.config.configured ≠ s.config.configured
    let published : PublicationKind → Prop := fun kind =>
      t.envelope = (({ t with envelope := s.envelope } : State).publish kind).envelope
    (t.chain.sweepNumber ≠ s.chain.sweepNumber → published .sweep) ∧
    (t.chain.sweepNumber = s.chain.sweepNumber →
      (changed → (∀ p, c ≠ .configWrite p) ∨ s.config.configured = true → published .change) ∧
      (¬ changed → (∀ p, c ≠ .amendCurtail p) → c ≠ .ageTimerExpiry → t.envelope = s.envelope) ∧
      (∀ p, c = .configWrite p → s.config.configured = false → t.envelope = s.envelope) ∧
      (t.envelope = s.envelope ∨ published .change)))

/-! ### Configuration (Chapter 10) -/

/-- CONFIG_WRITE (R181, R182) and CONFIG_READ (R183). A write is refused with RANGE for an item number outside 1 to
89, with WRONG_STATE and its reason code unless the connection is OPEN or LOCKED_OUT and the fire state QUIET, and
with RANGE for a value outside the item's range. Taken, it first leaves CONFIGURED, with CONFIG_LEFT, the sweep mode
STOPPED and every duty channel AUTO; then the value replaces the stored copy and acts on other blocks: records above
a monitor count (R15), the divisor (R3), a detector's kind and a kind's thresholds (R120). Becoming STOPPED from another
mode stops the period timer, clears the due mark, aborts a sweep, at once between two exchanges (log entry 9), and
sends BLEED_OFF once the chain is IDLE (R18, R19). The divisor is deferred by the activity that the leaving has left
(DEDUCED, log entry 16), and a write in UNCONFIGURED publishes nothing (DEDUCED, log entry 20). A read gives the item
number and the stored value. The code of a named value stands in the last of the four bytes (DESIGN CHOICE, log entry
35). -/
def Obligations.ConfigWriteAndRead : Prop :=
  ∀ (s : State) (p : Port) (item : Byte),
    let n := item.toNat
    (∀ rest : List Byte, Takes s p .configWrite (item :: rest) →
      let value : ItemRange → ItemValue := fun range => itemField range (item :: rest) 1
      let refused : Reply → List Byte → Prop := fun outcome body =>
        exec (.configWrite p) s = .next (s.answered p 0x60 outcome body)
      let free := s.conn.connection = .opened ∨ s.conn.connection.isLocked = true
      (n = 0 ∨ 89 < n → refused .range []) ∧
      (∀ range, itemRange n = some range →
        (¬ free → refused .wrongState [0x00]) ∧
        (free → s.fire.status ≠ .quiet → refused .wrongState [0x01]) ∧
        (free → s.fire.status = .quiet → range.admits (value range) = false → refused .range []) ∧
        (free → s.fire.status = .quiet → range.admits (value range) = true →
          let config : ConfigSet := { items := s.config.items.set (n - 1) (value range), configured := false }
          let old := s.chain
          let stopped : ChainState := { old with mode := .stopped, periodTimer := .stopped, due := false }
          let clearing : ChainState → ChainState := fun x =>
            { x with bleedOffRequest := false, activity := .clearing, link := .frameDue, exchange := none }
          let between : Bool := match old.exchange with
            | none => true
            | some e => !e.begun
          let aborted : ChainState → ChainState := fun x =>
            { x with
              buffer := List.replicate 33 none, divisor := old.deferredDivisor.getD old.divisor,
              deferredDivisor := none, activity := .idle, link := .rest, exchange := none }
          let left : ChainState :=
            if s.config.configured = false then old
            else if old.mode = .stopped then
              match old.activity with
              | .idle => if old.bleedOffRequest then clearing old else old
              | .sweeping =>
                if between then (if old.bleedOffRequest then clearing (aborted old) else aborted old)
                else { old with activity := .aborting }
              | .aborting | .clearing => old
            else
              match old.activity with
              | .idle => clearing stopped
              | .sweeping =>
                if between then clearing (aborted stopped)
                else { stopped with bleedOffRequest := true, activity := .aborting }
              | .aborting => { stopped with bleedOffRequest := true }
              | .clearing => stopped
          let chain : ChainState :=
            if n = 1 then
              { left with
                records := (List.range 33).map fun a =>
                  if a ≤ config.monitorCount then left.records.getD a ⟨.unconfigured, 0, none, none⟩
                  else ⟨.unconfigured, 0, none, none⟩ }
            else if n = 3 then
              if left.activity = .idle then { left with divisor := config.chainDivisor, deferredDivisor := none }
              else { left with deferredDivisor := some config.chainDivisor }
            else left
          let channels : Channels ChannelRecord :=
            if s.config.configured then
              Channels.of fun c => { s.thermal.channels.get c with mode := .auto, manual := none }
            else s.thermal.channels
          let d := s.fire.detector (n - 58)
          let written : DetectorKind := if n ≤ 75 then .offgas else if n ≤ 77 then .smoke else .heat
          let detectors : List Detector :=
            if 58 ≤ n ∧ n ≤ 73 then
              s.fire.detectors.set (n - 58)
                ⟨d.disablement, d.level, if d.disablement = none then .normal else d.state, 0, 0, 0, 0, 0⟩
            else if 74 ≤ n ∧ n ≤ 79 then
              (List.range 16).map fun i =>
                if config.detectorKind i = written then
                  { s.fire.detector i with preRun := 0, alarmRun := 0, clearRun := 0 }
                else s.fire.detector i
            else s.fire.detectors
          ∃ t, exec (.configWrite p) s = .next t ∧
            EventLeaves
              (({ s with
                  config := config, chain := chain, thermal := { s.thermal with channels := channels },
                  fire := { s.fire with
                    detectors := detectors, status := t.fire.status, causes := t.fire.causes } } : State).answered
                p 0x60 .ok [])
              (if s.config.configured then [broadcast (.configLeft n)] else []) t ∧
            (n < 58 ∨ 73 < n → t.fire.status = .quiet ∧ t.fire.causes = s.fire.causes) ∧
            (58 ≤ n ∧ n ≤ 73 → WatchFollows config t.fire) ∧
            (s.config.configured = false → t.envelope = s.envelope)))) ∧
    (Takes s p .configRead [item] →
      (n = 0 ∨ 89 < n → exec (.configRead p) s = .next (s.answered p 0x61 .range [])) ∧
      (1 ≤ n → n ≤ 89 →
        (∀ v, s.config.value n = .scalar v → exec (.configRead p) s =
          .next (s.answered p 0x61 .ok (item :: byte4 (twos 32 v)))) ∧
        (∀ temperature v, s.config.value n = .point temperature v → exec (.configRead p) s =
          .next (s.answered p 0x61 .ok (item :: (byte2 (twos 16 temperature) ++ byte2 (twos 16 v)))))))

/-- CONFIG_ACCEPT (R184, R185): in CONFIGURED it is answered OK and changes nothing; otherwise the first of the eight
checks that fails is answered WRONG_STATE with its number and detail, check by check as R184's table gives them (the
curve that fails, and the code of the kind that fails, for checks 5 and 6), and when all pass the part is CONFIGURED, the
monitor records are ABSENT, the sweep mode is CONTINUOUS with the due mark set, the cell table is fresh with data
loss, the fan demand is 0 and the heater OFF, and one CHANGE publication gives both limits 0. -/
def Obligations.ConfigAcceptStartsThePart : Prop :=
  ∀ (s : State) (p : Port), Takes s p .configAccept [] →
    let c := s.config
    let rising : List (Int × Int) → Prop := fun points => points.Pairwise fun a b => a.1 < b.1
    (c.firstFailure = none ↔
      1 ≤ c.monitorCount ∧ c.dischargeFloor < c.dischargeTaper ∧ c.chargeTaper < c.chargeCeiling ∧
      c.chargeCeiling ≤ c.hardMax ∧ c.hardMin ≤ c.dischargeFloor ∧
      rising c.chargeCurve ∧ rising c.dischargeCurve ∧ rising c.fanCurve ∧
      c.preThreshold .offgas < c.alarmThreshold .offgas ∧ c.preThreshold .smoke < c.alarmThreshold .smoke ∧
      c.preThreshold .heat < c.alarmThreshold .heat ∧
      (∃ i < 16, c.detectorKind i = .offgas ∨ c.detectorKind i = .smoke) ∧ c.heatOn < c.heatOff) ∧
    (let rows : List (Nat × Nat × Prop) :=
       [(1, 0, 1 ≤ c.monitorCount), (2, 0, c.dischargeFloor < c.dischargeTaper),
        (3, 0, c.chargeTaper < c.chargeCeiling), (4, 1, c.chargeCeiling ≤ c.hardMax),
        (4, 2, c.hardMin ≤ c.dischargeFloor), (5, 0, rising c.chargeCurve), (5, 1, rising c.dischargeCurve),
        (5, 2, rising c.fanCurve), (6, 1, c.preThreshold .offgas < c.alarmThreshold .offgas),
        (6, 2, c.preThreshold .smoke < c.alarmThreshold .smoke),
        (6, 3, c.preThreshold .heat < c.alarmThreshold .heat),
        (7, 0, ∃ i < 16, c.detectorKind i = .offgas ∨ c.detectorKind i = .smoke), (8, 0, c.heatOn < c.heatOff)]
     ∀ before row after, rows = before ++ row :: after → (∀ r ∈ before, r.2.2) → ¬ row.2.2 →
       c.firstFailure = some (row.1, row.2.1)) ∧
    (c.configured = true → exec (.configAccept p) s = .next (s.answered p 0x62 .ok [])) ∧
    (c.configured = false → ∀ check detail, c.firstFailure = some (check, detail) →
      exec (.configAccept p) s = .next (s.answered p 0x62 .wrongState (byte1 check ++ byte1 detail))) ∧
    (c.configured = false → c.firstFailure = none →
      let records : List MonitorRecord := (List.range 33).map fun a =>
        if a ≤ c.monitorCount then ⟨.absent, 3, none, none⟩
        else s.chain.records.getD a ⟨.unconfigured, 0, none, none⟩
      ∃ t, exec (.configAccept p) s = .next t ∧
        EventLeaves
          (({ s with
              config := { c with configured := true },
              chain := { s.chain with
                records := records, mode := .continuous, due := true, periodTimer := .running c.sweepPeriod,
                periodLength := c.sweepPeriod },
              table :=
                { cells := List.replicate 384 ⟨0, .unknown, false, false⟩,
                  points := List.replicate 128 ⟨0, .unknown, false⟩, string := ⟨0, 0, .unknown⟩,
                  monitorStates := records.map MonitorRecord.state, shapeMonitors := c.monitorCount,
                  shapeCells := c.cellsPerMonitor, sweepNumber := s.table.sweepNumber,
                  aggregates := ⟨none, none, 0, none, none, 0, 0, c.monitorCount * c.cellsPerMonitor⟩,
                  dataLoss := ⟨true, true, true⟩, ageTimer := .stopped, hardLimits := ⟨false, false, false⟩ },
              thermal := { s.thermal with fanDemand := 0, heaterOn := false } } : State).answered p 0x62 .ok [])
          [broadcast (.configAccepted c.monitorCount)] t ∧
        t.envelope.record.chargeLimit = 0 ∧ t.envelope.record.dischargeLimit = 0 ∧
        t.envelope.record.kind = .change ∧
        t.envelope.publicationNumber = s.envelope.publicationNumber + 1)

/-! ### Properties that every step keeps -/

/-- The state after power-on reset has every property that the statements below say every step keeps. -/
def Obligations.ResetStateIsSound : Prop :=
  GatesHold State.reset ∧ WithinCaps State.reset ∧ ItemsSound State.reset.config ∧ LimitsRated State.reset ∧
  StackSound State.reset ∧ ConnectionSound State.reset ∧ PermissionFollows State.reset ∧
  FireSound State.reset ∧ RelaysFollow State.reset ∧ DutiesFollow State.reset ∧ ChainSound State.reset ∧
  (∀ ch, (State.reset.thermal.tachs.get ch).armedSinceStart = true → Armed State.reset ch) ∧
  ∀ p, PortBounded (State.reset.ports.get p)

/-- The published limits (R55, R56, R58): every step keeps them at 0 while a gate holds, within every cap held in the
stack, and within I_rated with their power limits; and it keeps the configuration set sound (R180, R181, R184). -/
def Obligations.PublishedLimitsStayBounded : Prop :=
  (∀ s t : State, step s = .next t →
     (GatesHold s → GatesHold t) ∧ (WithinCaps s → WithinCaps t) ∧
     (GatesHold s → ItemsSound s.config → LimitsRated s → LimitsRated t)) ∧
  (∀ s t : State, ItemsSound s.config → step s = .next t → ItemsSound t.config)

/-- Every step keeps the curtailment stack, the slots and the permit record sound (R63 to R65, R73, R74, R78, R81,
R89, R156). -/
def Obligations.StackStaysSound : Prop :=
  ∀ s t : State, StackSound s → step s = .next t → StackSound t

/-- Every step keeps the contactor commands, the timers and the locking of the string with the connection state
(section 8.2, R144 to R152), and AC permission with its five conditions (R160, R161), which the line AC_PERMIT follows.
So POS and PRE are commanded CLOSED only while NEG is commanded CLOSED (R141), and while the fire state is ALARM,
COUNTDOWN, HELD or RELEASED the connection is OPENING or LOCKED_OUT (R151). In the event in which the grid becomes
present the reconnect timer is started for the reconnect delay, and in that in which it becomes absent it is stopped;
else it runs on, and runs out by its own expiry alone (R160). In the event in which the string comes to be CLOSED with
data loss holding, the data-loss open timer is started for its time; in that in which either ceases it is stopped; else
it runs on (R148). -/
def Obligations.ConnectionStaysSound : Prop :=
  (∀ s t : State, step s = .next t →
     (ConnectionSound s → ConnectionSound t) ∧ (PermissionFollows s → PermissionFollows t)) ∧
  (∀ s t : State, ConnectionSound s → step s = .next t →
     (t.drive .pos = .closed ∨ t.drive .pre = .closed → t.drive .neg = .closed) ∧
     (t.fireConfirmed →
       t.conn.connection.isLocked = true ∨ ∃ kind phase, t.conn.connection = .opening kind phase)) ∧
  (∀ s : State, s.lines.acPermit = true ↔ s.conn.acPermission = true) ∧
  (∀ (c : Instr) (s t : State), c ≠ .powerOnReset → c ≠ .powerOnResetEnd → exec c s = .next t →
     let present : State → Prop := fun x =>
       x.conn.linePresent = true ∧ x.conn.convNotice = false ∧ x.conn.utilNotice = false
     let blind : State → Prop := fun x => x.conn.connection = .closed ∧ x.table.dataLoss.holds = true
     (¬ present s → present t → t.conn.reconnect = .running t.config.reconnectDelay) ∧
     (present s → ¬ present t → t.conn.reconnect = .stopped) ∧
     (c ≠ .reconnectTimerExpiry → (present s ↔ present t) →
       t.conn.reconnect = s.conn.reconnect.pass (t.clock - s.clock)) ∧
     (¬ blind s → blind t → t.conn.dataLossOpen = .running t.config.dataLossOpenTime) ∧
     (blind s → ¬ blind t → t.conn.dataLossOpen = .stopped) ∧
     (blind s → blind t → t.conn.dataLossOpen = s.conn.dataLossOpen.pass (t.clock - s.clock)))

/-- Every step keeps the fire state with the detectors and the hold (R127, R130, R131), and the impairment flag and
the relays with both (R123, R135); the lines ALARM_RELAY and FAULT_RELAY follow the relay commands. -/
def Obligations.FireStaysSound : Prop :=
  (∀ s t : State, step s = .next t → (FireSound s → FireSound t) ∧ (RelaysFollow s → RelaysFollow t)) ∧
  (∀ s : State, s.lines.alarmRelay = s.fire.alarmRelay ∧ s.lines.faultRelay = s.fire.faultRelay)

/-- Every step keeps the forcing, the selected and shadow duties, the damper and the cooling state as they follow from
the modes, the demands, the fire state and the check states (R96, R102, R103, R110), and a channel noted as armed since
the window's start armed (R105; log entry 18). The automatic demands are those of R100's table after the events that
R100 names, with the blind duty held before the event (DEDUCED, log entry 16), and stay as they were in any other; fan
demand and heater state follow the snapshot at a sweep completion (R99, R101), and stay as they were but for an
acceptance. In the event in which the forcing of a duty channel begins, changes or ends, its selected duty becomes its
active duty at once; in any other but a period start its active duty stays as it was (R95, R103). A channel stays armed
since the window's start exactly while it stays armed (R105). Where the forcing comes to hold a tach channel at 0, its
grace timer is stopped and a running retry timer paused; where it ceases to, the grace timer is started for 5 s and a
paused retry timer resumes (R105, R108), in every check state (DEDUCED, log entry 31). Where it does neither, the grace
timer is started for 5 s where the active duty rises from 0 (R105); else both timers run on by the time passed, but for
their own expiry, a COOLING_RETRY and the verdict of a window. The line DAMPER follows the damper command (R102). -/
def Obligations.DutiesStayFollowed : Prop :=
  (∀ s t : State, DutiesFollow s → step s = .next t →
     DutiesFollow t ∧
     ((∀ ch, (s.thermal.tachs.get ch).armedSinceStart = true → Armed s ch) →
       ∀ ch, (t.thermal.tachs.get ch).armedSinceStart = true → Armed t ch)) ∧
  (∀ s : State, s.lines.damper = s.thermal.damperOpen) ∧
  (∀ (c : Instr) (s t : State), c ≠ .powerOnReset → c ≠ .powerOnResetEnd → DutiesFollow s → exec c s = .next t →
     let completed := t.chain.sweepNumber ≠ s.chain.sweepNumber
     let due := completed ∨ t.table.dataLoss ≠ s.table.dataLoss ∨
       ¬ (t.conn.connection = .closed ↔ s.conn.connection = .closed) ∨
       ¬ (t.fire.status = .quiet ↔ s.fire.status = .quiet) ∨ t.config.configured ≠ s.config.configured
     (due → DemandsFollow t s.config.blindDuty) ∧
     (¬ due → ∀ d, (t.thermal.channels.get d).automatic = (s.thermal.channels.get d).automatic) ∧
     (completed → MeasuredBy s.config t.table.aggregates s.thermal t.thermal) ∧
     (¬ completed → s.config.configured = true ∨ t.config.configured = false →
       t.thermal.fanDemand = s.thermal.fanDemand ∧ t.thermal.heaterOn = s.thermal.heaterOn) ∧
     (∀ d,
       let old := s.thermal.channels.get d
       let new := t.thermal.channels.get d
       (s.thermal.forcing.get d ≠ t.thermal.forcing.get d → new.active = new.selected) ∧
       (s.thermal.forcing.get d = t.thermal.forcing.get d → c ≠ .pwmPeriodStart → new.active = old.active)) ∧
     ∀ ch,
       let old := s.thermal.tachs.get ch
       let new := t.thermal.tachs.get ch
       let held : State → Prop := fun x => x.thermal.forcing.get (dutyOf ch) = some 0
       let rises := (s.thermal.channels.get (dutyOf ch)).active = 0 ∧ 0 < (t.thermal.channels.get (dutyOf ch)).active
       let retried := c = .retryTimerExpiry ch ∨ ∃ p, c = .coolingRetry p
       ((old.armedSinceStart = true → Armed s ch) → c ≠ .tachWindowEnd → c ≠ .graceTimerExpiry ch →
         (new.armedSinceStart = true ↔ old.armedSinceStart = true ∧ Armed t ch)) ∧
       (¬ held s → held t →
         new.grace = .stopped ∧
         ∀ n, old.retry = .running n → new.retry = .paused (n - (t.clock - s.clock))) ∧
       (held s → ¬ held t →
         new.grace = .running 5000000 ∧ ∀ n, old.retry = .paused n → new.retry = .running n) ∧
       ((held s ↔ held t) → rises → new.grace = .running 5000000) ∧
       ((held s ↔ held t) → ¬ rises → ¬ retried → c ≠ .graceTimerExpiry ch →
         new.grace = old.grace.pass (t.clock - s.clock)) ∧
       ((held s ↔ held t) → ¬ retried → c ≠ .tachWindowEnd → new.retry = old.retry.pass (t.clock - s.clock)))

/-- Every step keeps the bounds of every port (R165, R167, R169, R174, R176), and the chain controller's records,
buffer, divisors and period timer sound (R3, R10, R13 to R15). -/
def Obligations.PortsAndChainStaySound : Prop :=
  ∀ s t : State, step s = .next t →
    (∀ p, PortBounded (s.ports.get p) → PortBounded (t.ports.get p)) ∧
    (ChainSound s → ChainSound t)
end

