-- ==== Sys2Proof/Laws/Families.lean ====
section
/-! SUPPORT. Families of like things: reading one member after another has been written. -/

namespace Sys2Proof.Machine

@[simp] theorem Ports.get_set {α : Type} (x : Ports α) (p q : Port) (a : α) :
    (x.set p a).get q = if p = q then a else x.get q := by cases p <;> cases q <;> rfl

@[simp] theorem Ports.get_map {α β : Type} (x : Ports α) (f : Port → α → β) (p : Port) :
    (x.map f).get p = f p (x.get p) := by cases p <;> rfl

theorem Ports.ext_get {α : Type} {x y : Ports α} (h : ∀ p, x.get p = y.get p) : x = y := by
  obtain ⟨a, b, c⟩ := x
  obtain ⟨a', b', c'⟩ := y
  have h1 : a = a' := h .conv
  have h2 : b = b' := h .site
  have h3 : c = c' := h .util
  rw [h1, h2, h3]

@[simp] theorem Channels.get_set {α : Type} (x : Channels α) (c d : DutyChannel) (a : α) :
    (x.set c a).get d = if c = d then a else x.get d := by cases c <;> cases d <;> rfl

@[simp] theorem Channels.get_of {α : Type} (f : DutyChannel → α) (c : DutyChannel) :
    (Channels.of f).get c = f c := by cases c <;> rfl

@[simp] theorem Tachs.get_set {α : Type} (x : Tachs α) (c d : TachChannel) (a : α) :
    (x.set c a).get d = if c = d then a else x.get d := by cases c <;> cases d <;> rfl

@[simp] theorem Tachs.get_of {α : Type} (f : TachChannel → α) (c : TachChannel) :
    (Tachs.of f).get c = f c := by cases c <;> rfl

@[simp] theorem Contactors.get_set {α : Type} (x : Contactors α) (c d : Contactor) (a : α) :
    (x.set c a).get d = if c = d then a else x.get d := by cases c <;> cases d <;> rfl

end Sys2Proof.Machine
end

