-- ==== Sys2Proof/Laws/State.lean ====
section
/-! SUPPORT. What each named update of the state leaves in each field. -/

namespace Sys2Proof.Machine

/-! ### One port -/

@[simp] theorem State.setPort_chain (s : State) (p : Port) (q : PortState) :
    (s.setPort p q).chain = s.chain := rfl
@[simp] theorem State.setPort_table (s : State) (p : Port) (q : PortState) :
    (s.setPort p q).table = s.table := rfl
@[simp] theorem State.setPort_envelope (s : State) (p : Port) (q : PortState) :
    (s.setPort p q).envelope = s.envelope := rfl
@[simp] theorem State.setPort_stack (s : State) (p : Port) (q : PortState) :
    (s.setPort p q).stack = s.stack := rfl
@[simp] theorem State.setPort_slots (s : State) (p : Port) (q : PortState) :
    (s.setPort p q).slots = s.slots := rfl
@[simp] theorem State.setPort_thermal (s : State) (p : Port) (q : PortState) :
    (s.setPort p q).thermal = s.thermal := rfl
@[simp] theorem State.setPort_fire (s : State) (p : Port) (q : PortState) :
    (s.setPort p q).fire = s.fire := rfl
@[simp] theorem State.setPort_conn (s : State) (p : Port) (q : PortState) :
    (s.setPort p q).conn = s.conn := rfl
@[simp] theorem State.setPort_ports (s : State) (p : Port) (q : PortState) :
    (s.setPort p q).ports = s.ports.set p q := rfl
@[simp] theorem State.setPort_config (s : State) (p : Port) (q : PortState) :
    (s.setPort p q).config = s.config := rfl
@[simp] theorem State.setPort_clock (s : State) (p : Port) (q : PortState) :
    (s.setPort p q).clock = s.clock := rfl
@[simp] theorem State.setPort_resetHeld (s : State) (p : Port) (q : PortState) :
    (s.setPort p q).resetHeld = s.resetHeld := rfl
@[simp] theorem State.setPort_freeReads (s : State) (p : Port) (q : PortState) :
    (s.setPort p q).freeReads = s.freeReads := rfl
@[simp] theorem State.setPort_pending (s : State) (p : Port) (q : PortState) :
    (s.setPort p q).pending = s.pending := rfl

/-! ### A response placed -/

@[simp] theorem State.respond_chain (s : State) (p : Port) (k : Byte) (o : Reply) (b : List Byte) :
    (s.respond p k o b).chain = s.chain := rfl
@[simp] theorem State.respond_table (s : State) (p : Port) (k : Byte) (o : Reply) (b : List Byte) :
    (s.respond p k o b).table = s.table := rfl
@[simp] theorem State.respond_envelope (s : State) (p : Port) (k : Byte) (o : Reply) (b : List Byte) :
    (s.respond p k o b).envelope = s.envelope := rfl
@[simp] theorem State.respond_stack (s : State) (p : Port) (k : Byte) (o : Reply) (b : List Byte) :
    (s.respond p k o b).stack = s.stack := rfl
@[simp] theorem State.respond_slots (s : State) (p : Port) (k : Byte) (o : Reply) (b : List Byte) :
    (s.respond p k o b).slots = s.slots := rfl
@[simp] theorem State.respond_thermal (s : State) (p : Port) (k : Byte) (o : Reply) (b : List Byte) :
    (s.respond p k o b).thermal = s.thermal := rfl
@[simp] theorem State.respond_fire (s : State) (p : Port) (k : Byte) (o : Reply) (b : List Byte) :
    (s.respond p k o b).fire = s.fire := rfl
@[simp] theorem State.respond_conn (s : State) (p : Port) (k : Byte) (o : Reply) (b : List Byte) :
    (s.respond p k o b).conn = s.conn := rfl
@[simp] theorem State.respond_ports (s : State) (p : Port) (k : Byte) (o : Reply) (b : List Byte) :
    (s.respond p k o b).ports = s.ports.set p ((s.ports.get p).place (responseFrame (responseKind k) o b)) := rfl
@[simp] theorem State.respond_config (s : State) (p : Port) (k : Byte) (o : Reply) (b : List Byte) :
    (s.respond p k o b).config = s.config := rfl
@[simp] theorem State.respond_clock (s : State) (p : Port) (k : Byte) (o : Reply) (b : List Byte) :
    (s.respond p k o b).clock = s.clock := rfl
@[simp] theorem State.respond_resetHeld (s : State) (p : Port) (k : Byte) (o : Reply) (b : List Byte) :
    (s.respond p k o b).resetHeld = s.resetHeld := rfl
@[simp] theorem State.respond_freeReads (s : State) (p : Port) (k : Byte) (o : Reply) (b : List Byte) :
    (s.respond p k o b).freeReads = s.freeReads := rfl
@[simp] theorem State.respond_pending (s : State) (p : Port) (k : Byte) (o : Reply) (b : List Byte) :
    (s.respond p k o b).pending = s.pending := rfl

@[simp] theorem State.answered_chain (s : State) (p : Port) (k : Byte) (o : Reply) (b : List Byte) :
    (s.answered p k o b).chain = s.chain := rfl
@[simp] theorem State.answered_table (s : State) (p : Port) (k : Byte) (o : Reply) (b : List Byte) :
    (s.answered p k o b).table = s.table := rfl
@[simp] theorem State.answered_envelope (s : State) (p : Port) (k : Byte) (o : Reply) (b : List Byte) :
    (s.answered p k o b).envelope = s.envelope := rfl
@[simp] theorem State.answered_stack (s : State) (p : Port) (k : Byte) (o : Reply) (b : List Byte) :
    (s.answered p k o b).stack = s.stack := rfl
@[simp] theorem State.answered_slots (s : State) (p : Port) (k : Byte) (o : Reply) (b : List Byte) :
    (s.answered p k o b).slots = s.slots := rfl
@[simp] theorem State.answered_thermal (s : State) (p : Port) (k : Byte) (o : Reply) (b : List Byte) :
    (s.answered p k o b).thermal = s.thermal := rfl
@[simp] theorem State.answered_fire (s : State) (p : Port) (k : Byte) (o : Reply) (b : List Byte) :
    (s.answered p k o b).fire = s.fire := rfl
@[simp] theorem State.answered_conn (s : State) (p : Port) (k : Byte) (o : Reply) (b : List Byte) :
    (s.answered p k o b).conn = s.conn := rfl
@[simp] theorem State.answered_ports (s : State) (p : Port) (k : Byte) (o : Reply) (b : List Byte) :
    (s.answered p k o b).ports = s.ports.set p ((s.ports.get p).taken.place (responseFrame (responseKind k) o b)) := rfl
@[simp] theorem State.answered_config (s : State) (p : Port) (k : Byte) (o : Reply) (b : List Byte) :
    (s.answered p k o b).config = s.config := rfl
@[simp] theorem State.answered_clock (s : State) (p : Port) (k : Byte) (o : Reply) (b : List Byte) :
    (s.answered p k o b).clock = s.clock := rfl
@[simp] theorem State.answered_resetHeld (s : State) (p : Port) (k : Byte) (o : Reply) (b : List Byte) :
    (s.answered p k o b).resetHeld = s.resetHeld := rfl
@[simp] theorem State.answered_freeReads (s : State) (p : Port) (k : Byte) (o : Reply) (b : List Byte) :
    (s.answered p k o b).freeReads = s.freeReads := rfl
@[simp] theorem State.answered_pending (s : State) (p : Port) (k : Byte) (o : Reply) (b : List Byte) :
    (s.answered p k o b).pending = s.pending := rfl

/-! ### Events delivered -/

@[simp] theorem State.deliver_chain (s : State) (rs : List Raised) : (s.deliver rs).chain = s.chain := rfl
@[simp] theorem State.deliver_table (s : State) (rs : List Raised) : (s.deliver rs).table = s.table := rfl
@[simp] theorem State.deliver_envelope (s : State) (rs : List Raised) :
    (s.deliver rs).envelope = s.envelope := rfl
@[simp] theorem State.deliver_stack (s : State) (rs : List Raised) : (s.deliver rs).stack = s.stack := rfl
@[simp] theorem State.deliver_slots (s : State) (rs : List Raised) : (s.deliver rs).slots = s.slots := rfl
@[simp] theorem State.deliver_thermal (s : State) (rs : List Raised) :
    (s.deliver rs).thermal = s.thermal := rfl
@[simp] theorem State.deliver_fire (s : State) (rs : List Raised) : (s.deliver rs).fire = s.fire := rfl
@[simp] theorem State.deliver_conn (s : State) (rs : List Raised) : (s.deliver rs).conn = s.conn := rfl
@[simp] theorem State.deliver_ports (s : State) (rs : List Raised) :
    (s.deliver rs).ports = s.ports.map fun p q => q.deliver p s.uptime s.table.sweepNumber (orderRaised rs) := rfl
@[simp] theorem State.deliver_config (s : State) (rs : List Raised) : (s.deliver rs).config = s.config := rfl
@[simp] theorem State.deliver_clock (s : State) (rs : List Raised) : (s.deliver rs).clock = s.clock := rfl
@[simp] theorem State.deliver_resetHeld (s : State) (rs : List Raised) :
    (s.deliver rs).resetHeld = s.resetHeld := rfl
@[simp] theorem State.deliver_freeReads (s : State) (rs : List Raised) :
    (s.deliver rs).freeReads = s.freeReads := rfl
@[simp] theorem State.deliver_pending (s : State) (rs : List Raised) :
    (s.deliver rs).pending = s.pending := rfl

/-! ### A publication -/

@[simp] theorem State.publish_chain (s : State) (k : PublicationKind) : (s.publish k).chain = s.chain := rfl
@[simp] theorem State.publish_table (s : State) (k : PublicationKind) : (s.publish k).table = s.table := rfl
@[simp] theorem State.publish_envelope (s : State) (k : PublicationKind) :
    (s.publish k).envelope = ⟨s.newRecord k, s.envelope.publicationNumber + 1⟩ := rfl
@[simp] theorem State.publish_stack (s : State) (k : PublicationKind) : (s.publish k).stack = s.stack := rfl
@[simp] theorem State.publish_slots (s : State) (k : PublicationKind) : (s.publish k).slots = s.slots := rfl
@[simp] theorem State.publish_thermal (s : State) (k : PublicationKind) :
    (s.publish k).thermal = s.thermal := rfl
@[simp] theorem State.publish_fire (s : State) (k : PublicationKind) : (s.publish k).fire = s.fire := rfl
@[simp] theorem State.publish_conn (s : State) (k : PublicationKind) : (s.publish k).conn = s.conn := rfl
@[simp] theorem State.publish_ports (s : State) (k : PublicationKind) : (s.publish k).ports = s.ports := rfl
@[simp] theorem State.publish_config (s : State) (k : PublicationKind) :
    (s.publish k).config = s.config := rfl
@[simp] theorem State.publish_clock (s : State) (k : PublicationKind) : (s.publish k).clock = s.clock := rfl
@[simp] theorem State.publish_resetHeld (s : State) (k : PublicationKind) :
    (s.publish k).resetHeld = s.resetHeld := rfl
@[simp] theorem State.publish_freeReads (s : State) (k : PublicationKind) :
    (s.publish k).freeReads = s.freeReads := rfl
@[simp] theorem State.publish_pending (s : State) (k : PublicationKind) :
    (s.publish k).pending = s.pending := rfl

/-! ### The chain, one tach record, one detector -/

@[simp] theorem State.withChain_chain (s : State) (c : ChainState) : (s.withChain c).chain = c := rfl
@[simp] theorem State.withChain_table (s : State) (c : ChainState) : (s.withChain c).table = s.table := rfl
@[simp] theorem State.withChain_envelope (s : State) (c : ChainState) :
    (s.withChain c).envelope = s.envelope := rfl
@[simp] theorem State.withChain_stack (s : State) (c : ChainState) : (s.withChain c).stack = s.stack := rfl
@[simp] theorem State.withChain_slots (s : State) (c : ChainState) : (s.withChain c).slots = s.slots := rfl
@[simp] theorem State.withChain_thermal (s : State) (c : ChainState) :
    (s.withChain c).thermal = s.thermal := rfl
@[simp] theorem State.withChain_fire (s : State) (c : ChainState) : (s.withChain c).fire = s.fire := rfl
@[simp] theorem State.withChain_conn (s : State) (c : ChainState) : (s.withChain c).conn = s.conn := rfl
@[simp] theorem State.withChain_ports (s : State) (c : ChainState) : (s.withChain c).ports = s.ports := rfl
@[simp] theorem State.withChain_config (s : State) (c : ChainState) : (s.withChain c).config = s.config := rfl
@[simp] theorem State.withChain_clock (s : State) (c : ChainState) : (s.withChain c).clock = s.clock := rfl
@[simp] theorem State.withChain_resetHeld (s : State) (c : ChainState) :
    (s.withChain c).resetHeld = s.resetHeld := rfl
@[simp] theorem State.withChain_freeReads (s : State) (c : ChainState) :
    (s.withChain c).freeReads = s.freeReads := rfl
@[simp] theorem State.withChain_pending (s : State) (c : ChainState) :
    (s.withChain c).pending = s.pending := rfl

@[simp] theorem State.setTach_chain (s : State) (ch : TachChannel) (r : TachRecord) :
    (s.setTach ch r).chain = s.chain := rfl
@[simp] theorem State.setTach_table (s : State) (ch : TachChannel) (r : TachRecord) :
    (s.setTach ch r).table = s.table := rfl
@[simp] theorem State.setTach_envelope (s : State) (ch : TachChannel) (r : TachRecord) :
    (s.setTach ch r).envelope = s.envelope := rfl
@[simp] theorem State.setTach_stack (s : State) (ch : TachChannel) (r : TachRecord) :
    (s.setTach ch r).stack = s.stack := rfl
@[simp] theorem State.setTach_slots (s : State) (ch : TachChannel) (r : TachRecord) :
    (s.setTach ch r).slots = s.slots := rfl
@[simp] theorem State.setTach_thermal (s : State) (ch : TachChannel) (r : TachRecord) :
    (s.setTach ch r).thermal = { s.thermal with tachs := s.thermal.tachs.set ch r } := rfl
@[simp] theorem State.setTach_fire (s : State) (ch : TachChannel) (r : TachRecord) :
    (s.setTach ch r).fire = s.fire := rfl
@[simp] theorem State.setTach_conn (s : State) (ch : TachChannel) (r : TachRecord) :
    (s.setTach ch r).conn = s.conn := rfl
@[simp] theorem State.setTach_ports (s : State) (ch : TachChannel) (r : TachRecord) :
    (s.setTach ch r).ports = s.ports := rfl
@[simp] theorem State.setTach_config (s : State) (ch : TachChannel) (r : TachRecord) :
    (s.setTach ch r).config = s.config := rfl
@[simp] theorem State.setTach_clock (s : State) (ch : TachChannel) (r : TachRecord) :
    (s.setTach ch r).clock = s.clock := rfl
@[simp] theorem State.setTach_resetHeld (s : State) (ch : TachChannel) (r : TachRecord) :
    (s.setTach ch r).resetHeld = s.resetHeld := rfl
@[simp] theorem State.setTach_freeReads (s : State) (ch : TachChannel) (r : TachRecord) :
    (s.setTach ch r).freeReads = s.freeReads := rfl
@[simp] theorem State.setTach_pending (s : State) (ch : TachChannel) (r : TachRecord) :
    (s.setTach ch r).pending = s.pending := rfl

@[simp] theorem State.withDetector_chain (s : State) (i : Nat) (d : Detector) :
    (s.withDetector i d).chain = s.chain := rfl
@[simp] theorem State.withDetector_table (s : State) (i : Nat) (d : Detector) :
    (s.withDetector i d).table = s.table := rfl
@[simp] theorem State.withDetector_envelope (s : State) (i : Nat) (d : Detector) :
    (s.withDetector i d).envelope = s.envelope := rfl
@[simp] theorem State.withDetector_stack (s : State) (i : Nat) (d : Detector) :
    (s.withDetector i d).stack = s.stack := rfl
@[simp] theorem State.withDetector_slots (s : State) (i : Nat) (d : Detector) :
    (s.withDetector i d).slots = s.slots := rfl
@[simp] theorem State.withDetector_thermal (s : State) (i : Nat) (d : Detector) :
    (s.withDetector i d).thermal = s.thermal := rfl
@[simp] theorem State.withDetector_fire (s : State) (i : Nat) (d : Detector) :
    (s.withDetector i d).fire = (s.fire.setDetector i d).reassess s.config := rfl
@[simp] theorem State.withDetector_conn (s : State) (i : Nat) (d : Detector) :
    (s.withDetector i d).conn = s.conn := rfl
@[simp] theorem State.withDetector_ports (s : State) (i : Nat) (d : Detector) :
    (s.withDetector i d).ports = s.ports := rfl
@[simp] theorem State.withDetector_config (s : State) (i : Nat) (d : Detector) :
    (s.withDetector i d).config = s.config := rfl
@[simp] theorem State.withDetector_clock (s : State) (i : Nat) (d : Detector) :
    (s.withDetector i d).clock = s.clock := rfl
@[simp] theorem State.withDetector_resetHeld (s : State) (i : Nat) (d : Detector) :
    (s.withDetector i d).resetHeld = s.resetHeld := rfl
@[simp] theorem State.withDetector_freeReads (s : State) (i : Nat) (d : Detector) :
    (s.withDetector i d).freeReads = s.freeReads := rfl
@[simp] theorem State.withDetector_pending (s : State) (i : Nat) (d : Detector) :
    (s.withDetector i d).pending = s.pending := rfl

/-! ### The blocks that follow -/

@[simp] theorem State.derived_chain (b a : State) (w : Bool) : (State.derived b a w).chain = a.chain := rfl
@[simp] theorem State.derived_table (b a : State) (w : Bool) : (State.derived b a w).table = a.table := rfl
@[simp] theorem State.derived_envelope (b a : State) (w : Bool) :
    (State.derived b a w).envelope = a.envelope := rfl
@[simp] theorem State.derived_stack (b a : State) (w : Bool) : (State.derived b a w).stack = a.stack := rfl
@[simp] theorem State.derived_slots (b a : State) (w : Bool) : (State.derived b a w).slots = a.slots := rfl
@[simp] theorem State.derived_ports (b a : State) (w : Bool) : (State.derived b a w).ports = a.ports := rfl
@[simp] theorem State.derived_config (b a : State) (w : Bool) : (State.derived b a w).config = a.config := rfl
@[simp] theorem State.derived_clock (b a : State) (w : Bool) : (State.derived b a w).clock = a.clock := rfl
@[simp] theorem State.derived_resetHeld (b a : State) (w : Bool) :
    (State.derived b a w).resetHeld = a.resetHeld := rfl
@[simp] theorem State.derived_freeReads (b a : State) (w : Bool) :
    (State.derived b a w).freeReads = a.freeReads := rfl
@[simp] theorem State.derived_pending (b a : State) (w : Bool) :
    (State.derived b a w).pending = a.pending := rfl
@[simp] theorem State.derived_fire (b a : State) (w : Bool) :
    (State.derived b a w).fire = a.fire.withRelays a.config := rfl

/-! ### Time passed -/

@[simp] theorem State.advance_envelope (s : State) (dt : Nat) : (s.advance dt).envelope = s.envelope := rfl
@[simp] theorem State.advance_slots (s : State) (dt : Nat) : (s.advance dt).slots = s.slots := rfl
@[simp] theorem State.advance_ports (s : State) (dt : Nat) : (s.advance dt).ports = s.ports := rfl
@[simp] theorem State.advance_config (s : State) (dt : Nat) : (s.advance dt).config = s.config := rfl
@[simp] theorem State.advance_resetHeld (s : State) (dt : Nat) : (s.advance dt).resetHeld = s.resetHeld := rfl
@[simp] theorem State.advance_freeReads (s : State) (dt : Nat) : (s.advance dt).freeReads = s.freeReads := rfl
@[simp] theorem State.advance_pending (s : State) (dt : Nat) : (s.advance dt).pending = s.pending := rfl
@[simp] theorem State.advance_clock (s : State) (dt : Nat) : (s.advance dt).clock = s.clock + dt := rfl
@[simp] theorem State.advance_thermal (s : State) (dt : Nat) :
    (s.advance dt).thermal = s.thermal.pass dt := rfl
@[simp] theorem State.advance_fire (s : State) (dt : Nat) : (s.advance dt).fire = s.fire.pass dt := rfl
@[simp] theorem State.advance_conn (s : State) (dt : Nat) : (s.advance dt).conn = s.conn.pass dt := rfl

end Sys2Proof.Machine
end

