-- ==== Sys2Proof/Laws/Events.lean ====
section
/-! SUPPORT. The order in which events are offered, what a delivery changes of a port, and the events that report
a change. -/

namespace Sys2Proof.Machine

/-! ### The order of R172 -/

theorem mem_insertRaised (r x : Raised) (l : List Raised) : x ∈ insertRaised r l ↔ x = r ∨ x ∈ l := by
  induction l with
  | nil => simp [insertRaised]
  | cons q rest ih =>
    unfold insertRaised
    split
    · simp only [List.mem_cons, ih]
      tauto
    · simp only [List.mem_cons]

theorem mem_orderRaised (x : Raised) (l : List Raised) : x ∈ orderRaised l ↔ x ∈ l := by
  induction l with
  | nil => simp [orderRaised]
  | cons r rest ih => simp only [orderRaised, mem_insertRaised, ih, List.mem_cons]

theorem Event.before_iff (a b : Event) :
    a.before b = true ↔ a.block < b.block ∨ (a.block = b.block ∧ a.place < b.place) := by simp [Event.before]

theorem insertRaised_ordered (r : Raised) (l : List Raised) (h : l.Pairwise OfferedInOrder) :
    (insertRaised r l).Pairwise OfferedInOrder := by
  induction l with
  | nil => simp [insertRaised]
  | cons q rest ih =>
    rw [List.pairwise_cons] at h
    unfold insertRaised
    split
    · rename_i hlt
      rw [Event.before_iff] at hlt
      rw [List.pairwise_cons]
      refine ⟨fun x hx => ?_, ih h.2⟩
      rcases (mem_insertRaised r x rest).1 hx with rfl | hx
      · unfold OfferedInOrder
        omega
      · exact h.1 x hx
    · rename_i hge
      rw [Event.before_iff] at hge
      rw [List.pairwise_cons]
      refine ⟨fun x hx => ?_, List.pairwise_cons.2 h⟩
      have first : OfferedInOrder r q := by
        unfold OfferedInOrder
        omega
      rcases List.mem_cons.1 hx with rfl | hx
      · exact first
      · have := h.1 x hx
        unfold OfferedInOrder at *
        omega

theorem orderRaised_ordered (l : List Raised) : (orderRaised l).Pairwise OfferedInOrder := by
  induction l with
  | nil => exact List.Pairwise.nil
  | cons r rest ih => exact insertRaised_ordered r _ ih

/-! ### Delivery -/

/-- A delivery changes the event queue and the overflow mark alone. -/
theorem PortState.deliver_eq (p : Port) (u : BitVec 32) (n : Serial) (rs : List Raised) (q : PortState) :
    q.deliver p u n rs =
      { q with events := (q.deliver p u n rs).events, overflow := (q.deliver p u n rs).overflow } := by
  unfold PortState.deliver
  induction rs generalizing q with
  | nil => rfl
  | cons r rest ih =>
    rw [List.foldl_cons, ih]
    unfold PortState.offer
    split <;> (try split) <;> (try split) <;> rfl

/-- A delivery does not look at the requests or at the responses. -/
theorem PortState.deliver_setPath (p : Port) (u : BitVec 32) (n : Serial) (rs : List Raised) (q : PortState)
    (requests : List Request) (sending : Option (List Byte)) (waiting : List (List Byte)) :
    PortState.deliver p u n rs { q with requests := requests, sending := sending, waiting := waiting } =
      { q.deliver p u n rs with requests := requests, sending := sending, waiting := waiting } := by
  unfold PortState.deliver
  induction rs generalizing q with
  | nil => rfl
  | cons r rest ih =>
    rw [List.foldl_cons, List.foldl_cons, ← ih]
    unfold PortState.offer
    dsimp only
    split <;> (try split) <;> (try split) <;> rfl

@[simp] theorem PortState.deliver_sending (p : Port) (u : BitVec 32) (n : Serial) (rs : List Raised)
    (q : PortState) : (q.deliver p u n rs).sending = q.sending := by rw [PortState.deliver_eq]

@[simp] theorem PortState.deliver_waiting (p : Port) (u : BitVec 32) (n : Serial) (rs : List Raised)
    (q : PortState) : (q.deliver p u n rs).waiting = q.waiting := by rw [PortState.deliver_eq]

@[simp] theorem PortState.deliver_requests (p : Port) (u : BitVec 32) (n : Serial) (rs : List Raised)
    (q : PortState) : (q.deliver p u n rs).requests = q.requests := by rw [PortState.deliver_eq]

/-- Placing a response and delivering events can be taken in either order. -/
theorem PortState.deliver_place (p : Port) (u : BitVec 32) (n : Serial) (rs : List Raised) (q : PortState)
    (frame : List Byte) : (q.place frame).deliver p u n rs = (q.deliver p u n rs).place frame := by
  unfold PortState.place
  rw [PortState.deliver_sending]
  split
  · refine (PortState.deliver_setPath p u n rs q q.requests (some frame) q.waiting).trans ?_
    simp
  · refine (PortState.deliver_setPath p u n rs q q.requests q.sending (q.waiting ++ [frame])).trans ?_
    simp

/-! ### Events that report a change -/

theorem dataLossEvents_report (a b : DataLoss) : ∀ r ∈ dataLossEvents a b, r.event.reportsChange = true := by
  unfold dataLossEvents
  intro r hr
  split at hr
  · simp at hr; subst hr; rfl
  · split at hr
    · simp at hr; subst hr; rfl
    · simp at hr

theorem hardLimitEvents_report (a b : HardLimits) :
    ∀ r ∈ hardLimitEvents a b, r.event.reportsChange = true := by
  unfold hardLimitEvents
  intro r hr
  split at hr
  · simp at hr
  · simp at hr; subst hr; rfl

theorem detectorEvents_report (a b : FireControl) :
    ∀ r ∈ detectorEvents a b, r.event.reportsChange = true := by
  unfold detectorEvents
  intro r hr
  rw [List.mem_flatMap] at hr
  obtain ⟨i, -, hi⟩ := hr
  split at hi
  · simp at hi
  · simp at hi; subst hi; rfl

theorem fireEvents_report (a b : FireControl) : ∀ r ∈ fireEvents a b, r.event.reportsChange = true := by
  unfold fireEvents
  intro r hr
  split at hr
  · simp at hr
  · simp at hr; subst hr; rfl

theorem coolingEvents_report (a b : CoolingState) :
    ∀ r ∈ coolingEvents a b, r.event.reportsChange = true := by
  unfold coolingEvents
  intro r hr
  split at hr
  · simp at hr
  · simp at hr; subst hr; rfl

theorem permitEvents_report (a b : PermitState) : ∀ r ∈ permitEvents a b, r.event.reportsChange = true := by
  unfold permitEvents
  intro r hr
  split at hr
  · simp at hr
  · simp at hr; subst hr; rfl

theorem gridEvents_report (a b : ConnectionControl) :
    ∀ r ∈ gridEvents a b, r.event.reportsChange = true := by
  unfold gridEvents
  intro r hr
  split at hr
  · simp at hr
  · simp at hr; subst hr; rfl

theorem permissionEvents_report (a b : Bool) : ∀ r ∈ permissionEvents a b, r.event.reportsChange = true := by
  unfold permissionEvents
  intro r hr
  split at hr
  · simp at hr
  · simp at hr; subst hr; rfl

theorem differenceEvents_report (a b : State) : ∀ r ∈ differenceEvents a b, r.event.reportsChange = true := by
  intro r hr
  simp only [differenceEvents, List.mem_append] at hr
  rcases hr with ((((((h | h) | h) | h) | h) | h) | h) | h
  · exact dataLossEvents_report _ _ r h
  · exact hardLimitEvents_report _ _ r h
  · exact detectorEvents_report _ _ r h
  · exact fireEvents_report _ _ r h
  · exact coolingEvents_report _ _ r h
  · exact permitEvents_report _ _ r h
  · exact gridEvents_report _ _ r h
  · exact permissionEvents_report _ _ r h

theorem publicationEvents_report (d : Option PublicationKind) (a b : State) :
    ∀ r ∈ publicationEvents d a b, r.event.reportsChange = true := by
  intro r hr
  unfold publicationEvents at hr
  split at hr
  · unfold fellEvents at hr
    dsimp only at hr
    split at hr
    · simp at hr; subst hr; rfl
    · simp at hr
  · simp at hr

end Sys2Proof.Machine
end

