-- ==== Sys2Proof/WellFormed.lean ====
section
/-! DEFINITION. The checks on a command's operands that their types leave open. -/

namespace Sys2Proof

/-- The handles of curtailment entries are 1 to 255 (section 0.6.4). -/
def wfHandle (h : Nat) : Bool := decide (1 ≤ h) && decide (h ≤ 255)

/-- The detectors are numbered 0 to 15 (section 0.6.4). -/
def wfDetector (i : Nat) : Bool := decide (i ≤ 15)

/-- A sampling event takes one level from each of the sixteen detector inputs (R114). -/
def wfLevels (levels : List Byte) : Bool := decide (levels.length = 16)

/-- A reply event on the chain brings at least one character (R8). -/
def wfReply (chars : List ChainChar) : Bool := decide (1 ≤ chars.length)

/-- A frame event on a master port brings at least one character (R163). -/
def wfChars (chars : List RxChar) : Bool := decide (1 ≤ chars.length)

/-- The operands of a command lie in the ranges the manual gives them. Every other command takes every
value of its operands' types. -/
def Instr.wellFormed : Instr → Bool
  | .curtailExpiry h => wfHandle h
  | .disablementExpiry i => wfDetector i
  | .fireSampling levels _ _ => wfLevels levels
  | .chainReplyEnd chars => wfReply chars
  | .chainReplyError chars => wfReply chars
  | .requestFrameReceived _ chars => wfChars chars
  | .powerOnReset | .powerOnResetEnd => true
  | .interCharacterTimeout _ | .receiverHuntResumed _ | .responseSent _ | .portReset _ => true
  | .unknownKind _ | .readStatus _ | .readEnvelope _ | .setCursor _ | .readNext _ => true
  | .eventRead _ | .eventMask _ | .eventClearOverflow _ | .attentionLevel _ => true
  | .pushCurtail _ | .amendCurtail _ | .releaseCurtail _ | .popCurtail _ | .releaseAllCurtail _ => true
  | .claimWatch _ | .releaseWatch _ | .connect _ | .disconnect _ | .unlock _ => true
  | .gridTrip _ | .gridRestored _ | .permit _ | .withdraw _ => true
  | .sweepOnce _ | .sweepContinuous _ | .sweepStop _ => true
  | .coolingManual _ | .coolingAuto _ | .coolingRetry _ => true
  | .holdSet _ | .holdClear _ | .releaseNow _ | .fireReset _ => true
  | .detectorEnable _ | .detectorDisable _ | .configWrite _ | .configRead _ | .configAccept _ => true
  | .periodBoundary | .sweepBegin | .chainFrameSend | .commandFrameEnd | .chainLineFree => true
  | .chainReplyTimeout _ | .bleedOffSent | .ageTimerExpiry | .pwmPeriodStart | .tachWindowEnd => true
  | .graceTimerExpiry _ | .retryTimerExpiry _ | .releasePulseEnd | .countdownExpiry => true
  | .contactorFeedbackChange _ _ | .disagreementTimerExpiry _ | .prechargeTimerExpiry => true
  | .cooldownExpiry | .openWaitExpiry | .dataLossOpenExpiry | .permitLapse => true
  | .gridLineChange _ | .convNoticeTimerExpiry | .reconnectTimerExpiry => true
  | .tachFilteredLevelChange _ _ | .lineReturnsToMark _ => true

end Sys2Proof
end

