-- ==== Sys2Proof/Laws/PerInstr.lean ====
section
/-! SUPPORT. Statements made for each command: what the checks on its operands amount to. -/

namespace Sys2Proof.Laws

/-- The operands of a command lie in the ranges that the manual gives them, said without the checks: a handle of 1 to
255 and a detector of 0 to 15 (section 0.6.4), sixteen levels for a sampling event (R114), and at least one character
for an event that characters bring about (R8, R163). Every other operand's type is its range. -/
def operandsInRange : Instr → Prop
  | .curtailExpiry handle => 1 ≤ handle ∧ handle ≤ 255
  | .disablementExpiry detector => detector ≤ 15
  | .fireSampling levels _ _ => levels.length = 16
  | .chainReplyEnd chars | .chainReplyError chars => chars ≠ []
  | .requestFrameReceived _ chars => chars ≠ []
  | _ => True

/-- A command passes its checks exactly when its operands lie in their ranges. -/
def Operands.Statement (i : Instr) : Prop := i.wellFormed = true ↔ operandsInRange i

theorem one_le_length_iff {α : Type} (xs : List α) : decide (1 ≤ xs.length) = true ↔ xs ≠ [] := by
  cases xs <;> simp

theorem Operands.powerOnReset : Operands.Statement .powerOnReset := iff_of_true rfl trivial

theorem Operands.powerOnResetEnd : Operands.Statement .powerOnResetEnd := iff_of_true rfl trivial

theorem Operands.requestFrameReceived (p : Port) (chars : List RxChar) :
    Operands.Statement (.requestFrameReceived p chars) :=
  one_le_length_iff chars

theorem Operands.interCharacterTimeout (p : Port) : Operands.Statement (.interCharacterTimeout p) :=
  iff_of_true rfl trivial

theorem Operands.receiverHuntResumed (p : Port) : Operands.Statement (.receiverHuntResumed p) :=
  iff_of_true rfl trivial

theorem Operands.responseSent (p : Port) : Operands.Statement (.responseSent p) := iff_of_true rfl trivial

theorem Operands.portReset (p : Port) : Operands.Statement (.portReset p) := iff_of_true rfl trivial

theorem Operands.unknownKind (p : Port) : Operands.Statement (.unknownKind p) := iff_of_true rfl trivial

theorem Operands.readStatus (p : Port) : Operands.Statement (.readStatus p) := iff_of_true rfl trivial

theorem Operands.readEnvelope (p : Port) : Operands.Statement (.readEnvelope p) := iff_of_true rfl trivial

theorem Operands.setCursor (p : Port) : Operands.Statement (.setCursor p) := iff_of_true rfl trivial

theorem Operands.readNext (p : Port) : Operands.Statement (.readNext p) := iff_of_true rfl trivial

theorem Operands.eventRead (p : Port) : Operands.Statement (.eventRead p) := iff_of_true rfl trivial

theorem Operands.eventMask (p : Port) : Operands.Statement (.eventMask p) := iff_of_true rfl trivial

theorem Operands.eventClearOverflow (p : Port) : Operands.Statement (.eventClearOverflow p) := iff_of_true rfl trivial

theorem Operands.attentionLevel (p : Port) : Operands.Statement (.attentionLevel p) := iff_of_true rfl trivial

theorem Operands.pushCurtail (p : Port) : Operands.Statement (.pushCurtail p) := iff_of_true rfl trivial

theorem Operands.amendCurtail (p : Port) : Operands.Statement (.amendCurtail p) := iff_of_true rfl trivial

theorem Operands.releaseCurtail (p : Port) : Operands.Statement (.releaseCurtail p) := iff_of_true rfl trivial

theorem Operands.popCurtail (p : Port) : Operands.Statement (.popCurtail p) := iff_of_true rfl trivial

theorem Operands.releaseAllCurtail (p : Port) : Operands.Statement (.releaseAllCurtail p) := iff_of_true rfl trivial

theorem Operands.curtailExpiry (handle : Nat) : Operands.Statement (.curtailExpiry handle) :=
  by simp [Operands.Statement, Instr.wellFormed, operandsInRange, wfHandle]

theorem Operands.claimWatch (p : Port) : Operands.Statement (.claimWatch p) := iff_of_true rfl trivial

theorem Operands.releaseWatch (p : Port) : Operands.Statement (.releaseWatch p) := iff_of_true rfl trivial

theorem Operands.connect (p : Port) : Operands.Statement (.connect p) := iff_of_true rfl trivial

theorem Operands.disconnect (p : Port) : Operands.Statement (.disconnect p) := iff_of_true rfl trivial

theorem Operands.unlock (p : Port) : Operands.Statement (.unlock p) := iff_of_true rfl trivial

theorem Operands.gridTrip (p : Port) : Operands.Statement (.gridTrip p) := iff_of_true rfl trivial

theorem Operands.gridRestored (p : Port) : Operands.Statement (.gridRestored p) := iff_of_true rfl trivial

theorem Operands.permit (p : Port) : Operands.Statement (.permit p) := iff_of_true rfl trivial

theorem Operands.withdraw (p : Port) : Operands.Statement (.withdraw p) := iff_of_true rfl trivial

theorem Operands.sweepOnce (p : Port) : Operands.Statement (.sweepOnce p) := iff_of_true rfl trivial

theorem Operands.sweepContinuous (p : Port) : Operands.Statement (.sweepContinuous p) := iff_of_true rfl trivial

theorem Operands.sweepStop (p : Port) : Operands.Statement (.sweepStop p) := iff_of_true rfl trivial

theorem Operands.coolingManual (p : Port) : Operands.Statement (.coolingManual p) := iff_of_true rfl trivial

theorem Operands.coolingAuto (p : Port) : Operands.Statement (.coolingAuto p) := iff_of_true rfl trivial

theorem Operands.coolingRetry (p : Port) : Operands.Statement (.coolingRetry p) := iff_of_true rfl trivial

theorem Operands.holdSet (p : Port) : Operands.Statement (.holdSet p) := iff_of_true rfl trivial

theorem Operands.holdClear (p : Port) : Operands.Statement (.holdClear p) := iff_of_true rfl trivial

theorem Operands.releaseNow (p : Port) : Operands.Statement (.releaseNow p) := iff_of_true rfl trivial

theorem Operands.fireReset (p : Port) : Operands.Statement (.fireReset p) := iff_of_true rfl trivial

theorem Operands.detectorEnable (p : Port) : Operands.Statement (.detectorEnable p) := iff_of_true rfl trivial

theorem Operands.detectorDisable (p : Port) : Operands.Statement (.detectorDisable p) := iff_of_true rfl trivial

theorem Operands.configWrite (p : Port) : Operands.Statement (.configWrite p) := iff_of_true rfl trivial

theorem Operands.configRead (p : Port) : Operands.Statement (.configRead p) := iff_of_true rfl trivial

theorem Operands.configAccept (p : Port) : Operands.Statement (.configAccept p) := iff_of_true rfl trivial

theorem Operands.periodBoundary : Operands.Statement .periodBoundary := iff_of_true rfl trivial

theorem Operands.sweepBegin : Operands.Statement .sweepBegin := iff_of_true rfl trivial

theorem Operands.chainFrameSend : Operands.Statement .chainFrameSend := iff_of_true rfl trivial

theorem Operands.commandFrameEnd : Operands.Statement .commandFrameEnd := iff_of_true rfl trivial

theorem Operands.chainLineFree : Operands.Statement .chainLineFree := iff_of_true rfl trivial

theorem Operands.chainReplyEnd (chars : List ChainChar) : Operands.Statement (.chainReplyEnd chars) :=
  one_le_length_iff chars

theorem Operands.chainReplyError (chars : List ChainChar) : Operands.Statement (.chainReplyError chars) :=
  one_le_length_iff chars

theorem Operands.chainReplyTimeout (someReceived : Bool) : Operands.Statement (.chainReplyTimeout someReceived) :=
  iff_of_true rfl trivial

theorem Operands.bleedOffSent : Operands.Statement .bleedOffSent := iff_of_true rfl trivial

theorem Operands.ageTimerExpiry : Operands.Statement .ageTimerExpiry := iff_of_true rfl trivial

theorem Operands.pwmPeriodStart : Operands.Statement .pwmPeriodStart := iff_of_true rfl trivial

theorem Operands.tachWindowEnd : Operands.Statement .tachWindowEnd := iff_of_true rfl trivial

theorem Operands.graceTimerExpiry (c : TachChannel) : Operands.Statement (.graceTimerExpiry c) :=
  iff_of_true rfl trivial

theorem Operands.retryTimerExpiry (c : TachChannel) : Operands.Statement (.retryTimerExpiry c) :=
  iff_of_true rfl trivial

theorem Operands.releasePulseEnd : Operands.Statement .releasePulseEnd := iff_of_true rfl trivial

theorem Operands.fireSampling (levels : List Byte) (panelActive : Bool) (holdActive : Bool) :
    Operands.Statement (.fireSampling levels panelActive holdActive) :=
  by simp [Operands.Statement, Instr.wellFormed, operandsInRange, wfLevels]

theorem Operands.countdownExpiry : Operands.Statement .countdownExpiry := iff_of_true rfl trivial

theorem Operands.disablementExpiry (detector : Nat) : Operands.Statement (.disablementExpiry detector) :=
  by simp [Operands.Statement, Instr.wellFormed, operandsInRange, wfDetector]

theorem Operands.contactorFeedbackChange (c : Contactor) (feedback : Switch) :
    Operands.Statement (.contactorFeedbackChange c feedback) :=
  iff_of_true rfl trivial

theorem Operands.disagreementTimerExpiry (c : Contactor) : Operands.Statement (.disagreementTimerExpiry c) :=
  iff_of_true rfl trivial

theorem Operands.prechargeTimerExpiry : Operands.Statement .prechargeTimerExpiry := iff_of_true rfl trivial

theorem Operands.cooldownExpiry : Operands.Statement .cooldownExpiry := iff_of_true rfl trivial

theorem Operands.openWaitExpiry : Operands.Statement .openWaitExpiry := iff_of_true rfl trivial

theorem Operands.dataLossOpenExpiry : Operands.Statement .dataLossOpenExpiry := iff_of_true rfl trivial

theorem Operands.permitLapse : Operands.Statement .permitLapse := iff_of_true rfl trivial

theorem Operands.gridLineChange (present : Bool) : Operands.Statement (.gridLineChange present) :=
  iff_of_true rfl trivial

theorem Operands.convNoticeTimerExpiry : Operands.Statement .convNoticeTimerExpiry := iff_of_true rfl trivial

theorem Operands.reconnectTimerExpiry : Operands.Statement .reconnectTimerExpiry := iff_of_true rfl trivial

theorem Operands.tachFilteredLevelChange (c : TachChannel) (high : Bool) :
    Operands.Statement (.tachFilteredLevelChange c high) :=
  iff_of_true rfl trivial

theorem Operands.lineReturnsToMark (p : Port) : Operands.Statement (.lineReturnsToMark p) := iff_of_true rfl trivial

end Sys2Proof.Laws
end

