-- ==== Sys2Proof/Laws/Settle.lean ====
section
/-! SUPPORT. The shared operations of the meanings: the settling of an event, the taking of a request, the running
out of a timer, each said once. -/

namespace Sys2Proof.Machine

/-! ### What is derived -/

@[simp] theorem FireControl.withRelays_eq (f : FireControl) (c : ConfigSet) :
    f.withRelays c =
      { f with
        impaired := (f.withRelays c).impaired, alarmRelay := (f.withRelays c).alarmRelay,
        faultRelay := (f.withRelays c).faultRelay } := rfl

theorem reselected_mode (cfg : Bool) (a b : Option Nat) (r : ChannelRecord) :
    (reselected cfg a b r).mode = r.mode ∧ (reselected cfg a b r).manual = r.manual := by
  unfold reselected
  dsimp only
  split
  · exact ⟨rfl, rfl⟩
  · split <;> exact ⟨rfl, rfl⟩

theorem rederivedDemand_mode (due : Bool) (before after : State) (c : DutyChannel) :
    (rederivedDemand due before after c).mode = (after.thermal.channels.get c).mode ∧
    (rederivedDemand due before after c).manual = (after.thermal.channels.get c).manual := by
  unfold rederivedDemand
  dsimp only
  split <;> exact ⟨rfl, rfl⟩

theorem rederiveThermal_modes (w : Bool) (before after : State) (c : DutyChannel) :
    ((rederiveThermal w before after).channels.get c).mode = (after.thermal.channels.get c).mode ∧
    ((rederiveThermal w before after).channels.get c).manual = (after.thermal.channels.get c).manual := by
  unfold rederiveThermal
  simp only [Channels.get_of]
  exact ⟨(reselected_mode _ _ _ _).1.trans (rederivedDemand_mode _ _ _ _).1,
    (reselected_mode _ _ _ _).2.trans (rederivedDemand_mode _ _ _ _).2⟩

theorem TachRecord.follow_eq (r : TachRecord) (a b : Bool) (m n : Nat) :
    r.follow a b m n = { r with grace := (r.follow a b m n).grace, retry := (r.follow a b m n).retry } := by
  unfold TachRecord.follow
  split
  · rfl
  · split
    · rfl
    · split <;> rfl

theorem rederiveThermal_checks (w : Bool) (before after : State) (ch : TachChannel) :
    (rederiveThermal w before after).tachs.get ch =
      { after.thermal.tachs.get ch with
        grace := ((rederiveThermal w before after).tachs.get ch).grace,
        retry := ((rederiveThermal w before after).tachs.get ch).retry,
        armedSinceStart := ((rederiveThermal w before after).tachs.get ch).armedSinceStart } := by
  unfold rederiveThermal
  simp only [Tachs.get_of]
  rw [TachRecord.follow_eq]

theorem State.published_eq (s : State) (d : Option PublicationKind) :
    s.published d = { s with envelope := (s.published d).envelope } := by
  unfold State.published
  split <;> rfl

/-! ### The settling of an event -/

/-- Everything that the settling of an event can do: it derives what follows from other state, and delivers the
events. -/
theorem State.settle_leaves (before : State) (p : Publication) (c : Change) :
    EventLeaves c.st c.raised (State.settle before p c) := by
  unfold State.settle
  dsimp only
  generalize hd : publicationDue p before.inputs _ = due
  refine
    ⟨?chain, ?table, ?stack, ?slots, ?config, ?clock, ?resetHeld, ?freeReads,
      ?pending, ?fire, ?conn, ?thermal, ?modes, ?checks, ?ports⟩
  case ports =>
    let final := (State.derived before c.st (decide (p = .sweep))).published due
    refine
      ⟨orderRaised (c.raised ++ differenceEvents before final ++ publicationEvents due before final),
        ⟨fun r hr => ?_, fun r hr => ?_, orderRaised_ordered _⟩, fun q => ?_⟩
    · rw [mem_orderRaised, List.append_assoc]
      exact List.mem_append_left _ hr
    · rw [mem_orderRaised, List.append_assoc, List.mem_append, List.mem_append] at hr
      rcases hr with h | h | h
      · exact .inl h
      · exact .inr (differenceEvents_report _ _ r h)
      · exact .inr (publicationEvents_report _ _ _ r h)
    · cases due <;> exact Ports.get_map _ _ q
  case modes => cases due <;> exact fun ch => rederiveThermal_modes _ _ _ ch
  case checks => cases due <;> exact fun ch => rederiveThermal_checks _ _ _ ch
  all_goals cases due <;> rfl

/-- A response placed after an event could have been placed before it. -/
theorem EventLeaves.respond {u : State} {told : List Raised} {t : State} (h : EventLeaves u told t) (p : Port)
    (kind : Byte) (o : Reply) (b : List Byte) : EventLeaves (u.respond p kind o b) told (t.respond p kind o b) := by
  obtain ⟨raised, hr, hp⟩ := h.ports
  exact
    { chain := h.chain, table := h.table, stack := h.stack, slots := h.slots, config := h.config,
      clock := h.clock, resetHeld := h.resetHeld, freeReads := h.freeReads, pending := h.pending, fire := h.fire,
      conn := h.conn, thermal := h.thermal, modes := h.modes, checks := h.checks,
      ports := by
        refine ⟨raised, hr, fun q => ?_⟩
        simp only [State.respond_ports, Ports.get_set]
        split
        · rename_i hq
          subst hq
          rw [PortState.deliver_place, hp p]
          rfl
        · exact hp q }

/-! ### Taking a request -/

theorem AtHead.head_eq {s : State} {p : Port} {kind : Byte} {body : List Byte} (h : AtHead s p kind body) :
    (s.ports.get p).head = some ⟨kind, body⟩ := by
  unfold PortState.head
  rw [h.noneWaiting]
  exact h.head

theorem State.running_of (s : State) (h : s.resetHeld = false) (f : State → State) : s.running f = f s := by
  simp [State.running, h]

/-- A request that is taken and passes the three checks is answered by its block. -/
theorem State.serve_takes {s : State} {p : Port} {k : RequestKind} {body : List Byte} (h : Takes s p k body)
    (act : List Byte → PortState → State → Answer) :
    (s.running fun s => s.serve p k act) =
      (s.setPort p (s.ports.get p).taken).answer p k.code
        (act body (s.ports.get p).taken (s.setPort p (s.ports.get p).taken)) := by
  rw [State.running_of s h.atHead.running]
  unfold State.serve
  rw [h.atHead.head_eq]
  simp only [if_true]
  unfold State.handle
  simp [h.permitted, h.length]

/-- An answer at the port alone, with what it makes of the port. -/
theorem State.answer_atPort (s : State) (p : Port) (kind : Byte) (o : Reply) (b : List Byte) (q : PortState) :
    (s.setPort p (s.ports.get p).taken).answer p kind (.atPort o b q) =
      s.setPort p (q.place (responseFrame (responseKind kind) o b)) := by
  have h : ∀ (x : Ports PortState) (a c d : PortState), (((x.set p a).set p c).set p d) = x.set p d := by
    intro x a c d
    cases p <;> rfl
  simp only [State.answer, State.respond, State.setPort, Ports.get_set, if_true, h]

/-- A refusal leaves the response alone. -/
theorem State.answer_refuse (s : State) (p : Port) (kind : Byte) (o : Reply) (b : List Byte) :
    (s.setPort p (s.ports.get p).taken).answer p kind (.atPort o b (s.ports.get p).taken) =
      s.answered p kind o b := State.answer_atPort s p kind o b _

/-- An answer by an event: what the event leaves, with the response placed. -/
theorem State.answer_event (s : State) (p : Port) (kind : Byte) (o : Reply) (b : List Byte) (w : Publication)
    (c : Change) :
    EventLeaves (c.st.respond p kind o b) c.raised
      ((s.setPort p (s.ports.get p).taken).answer p kind (.event o b w c)) :=
  (State.settle_leaves _ w c).respond p kind o b

/-- A taken request whose block answers by an event leaves what the event leaves, with the response placed. -/
theorem Takes.event {s : State} {p : Port} {k : RequestKind} {body : List Byte} (h : Takes s p k body)
    {act : List Byte → PortState → State → Answer} {o : Reply} {b : List Byte} {w : Publication} {c : Change}
    (answer : act body (s.ports.get p).taken (s.setPort p (s.ports.get p).taken) = .event o b w c) :
    EventLeaves (c.st.respond p k.code o b) c.raised (s.running fun s => s.serve p k act) := by
  rw [State.serve_takes h, answer]
  exact State.answer_event s p _ o b w c

/-- A taken request whose block answers at the port alone changes the port alone. -/
theorem Takes.atPort {s : State} {p : Port} {k : RequestKind} {body : List Byte} (h : Takes s p k body)
    {act : List Byte → PortState → State → Answer} {o : Reply} {b : List Byte} {q : PortState}
    (answer : act body (s.ports.get p).taken (s.setPort p (s.ports.get p).taken) = .atPort o b q) :
    (s.running fun s => s.serve p k act) = s.setPort p (q.place (responseFrame (responseKind k.code) o b)) := by
  rw [State.serve_takes h, answer]
  exact State.answer_atPort s p _ o b q

/-- A taken request that its block refuses, or that changes nothing, is answered and gone. -/
theorem Takes.refused {s : State} {p : Port} {k : RequestKind} {body : List Byte} (h : Takes s p k body)
    {act : List Byte → PortState → State → Answer} {o : Reply} {b : List Byte}
    (answer : act body (s.ports.get p).taken (s.setPort p (s.ports.get p).taken) =
      .atPort o b (s.ports.get p).taken) :
    (s.running fun s => s.serve p k act) = s.answered p k.code o b := h.atPort answer

/-- A command whose head request is of another kind, or that can take none, changes nothing. -/
theorem State.serve_none (s : State) (p : Port) (k : RequestKind)
    (act : List Byte → PortState → State → Answer)
    (h : ∀ body, (s.ports.get p).head ≠ some ⟨k.code, body⟩) : s.serve p k act = s := by
  unfold State.serve
  split
  · rfl
  · rename_i r hr
    obtain ⟨kind, body⟩ := r
    split
    · rename_i hk
      dsimp only at hk
      subst hk
      exact absurd hr (h body)
    · rfl

/-- A port that keeps its state leaves the part as it is. -/
theorem State.setPort_get (s : State) (p : Port) : s.setPort p (s.ports.get p) = s := by cases p <;> rfl

/-- The test of R61 for one limit. -/
theorem limitFell_iff (margin old new : Nat) : limitFell margin old new = true ↔ LimitFell margin old new := by
  simp [limitFell, LimitFell]

/-! ### Timers -/

theorem State.after_none (s : State) (f : State → State) : s.after none f = s := rfl

theorem State.after_some (s : State) (dt : Nat) (f : State → State) : s.after (some dt) f = f (s.advance dt) := rfl

theorem Timer.due_eq_none (t : Timer) (h : t.isRunning = false) : t.due = none := by
  cases t with
  | running n => cases h
  | stopped | paused _ | runOut => rfl

theorem Timer.due_running (n : Nat) : (Timer.running n).due = some n := rfl

end Sys2Proof.Machine
end

