-- ==== Sys2Proof/Laws/Stack.lean ====
section
/-! SUPPORT. The operations of the curtailment stack: what an addition, a removal and a push can do. -/

namespace Sys2Proof.Machine

@[simp] theorem StackState.add_entries (st : StackState) (b : EntryBody) :
    (st.add b).entries = st.entries ++ [b.withHandle st.freeHandle] := rfl

@[simp] theorem StackState.add_nextHandle (st : StackState) (b : EntryBody) :
    (st.add b).nextHandle = handleAfter st.freeHandle := rfl

@[simp] theorem StackState.remove_nextHandle (st : StackState) (h : Nat) :
    (st.remove h).nextHandle = st.nextHandle := rfl

theorem StackState.mem_remove (st : StackState) (h : Nat) (e : Entry) :
    e ∈ (st.remove h).entries ↔ e ∈ st.entries ∧ e.handle ≠ h := by
  simp [StackState.remove]

/-- With no two entries of one handle, a removal takes out the one entry that carries it. -/
theorem StackState.remove_of_split (st : StackState) (below above : List Entry) (e : Entry)
    (distinct : (st.entries.map Entry.handle).Nodup) (split : st.entries = below ++ e :: above) :
    (st.remove e.handle).entries = below ++ above := by
  rw [split, List.map_append, List.map_cons, List.nodup_append] at distinct
  obtain ⟨-, hab, hdis⟩ := distinct
  have keepBelow : below.filter (fun x => decide (x.handle ≠ e.handle)) = below := by
    refine List.filter_eq_self.2 fun x hx => decide_eq_true ?_
    exact hdis x.handle (List.mem_map_of_mem hx) e.handle List.mem_cons_self
  have keepAbove : above.filter (fun x => decide (x.handle ≠ e.handle)) = above := by
    refine List.filter_eq_self.2 fun x hx => decide_eq_true fun hxe => ?_
    exact (List.nodup_cons.1 hab).1 (hxe ▸ List.mem_map_of_mem hx)
  rw [StackState.remove, split]
  dsimp only
  rw [List.filter_append, keepBelow, List.filter_cons, if_neg (by simp), keepAbove]

/-- What a push can do (R66, R67, R73, R74): refuse at a full stack, add on top while there is room, or, with the
utility's priority alone, displace the lowest entry that is not utility-owned. -/
theorem StackState.push_cases (st : StackState) (slots : List (Option Claim)) (priority : Port) (b : EntryBody) :
    (st.entries.length < 8 ∧ st.push slots priority b = .pushed (st.add b) st.freeHandle none) ∨
    (8 ≤ st.entries.length ∧ priority = .util ∧ ∃ e, displaceable slots st.entries = some e ∧
      st.push slots priority b =
        .pushed ((st.remove e.handle).add b) (st.remove e.handle).freeHandle (some e)) ∨
    (8 ≤ st.entries.length ∧ (priority ≠ .util ∨ displaceable slots st.entries = none) ∧
      st.push slots priority b = .full) := by
  unfold StackState.push
  by_cases room : st.entries.length < 8
  · exact .inl ⟨room, if_pos room⟩
  · rw [if_neg room]
    by_cases util : priority = .util
    · rw [if_pos util]
      cases found : displaceable slots st.entries with
      | none => exact .inr (.inr ⟨by omega, .inr rfl, rfl⟩)
      | some e => exact .inr (.inl ⟨by omega, util, e, rfl, rfl⟩)
    · rw [if_neg util]
      exact .inr (.inr ⟨by omega, .inl util, rfl⟩)

/-- The lowest entry that is not utility-owned stands above utility-owned entries alone (R67). -/
theorem displaceable_split (slots : List (Option Claim)) (es : List Entry) (e : Entry)
    (found : displaceable slots es = some e) :
    ∃ below above, es = below ++ e :: above ∧ utilityOwned slots e = false ∧
      ∀ x ∈ below, utilityOwned slots x = true := by
  unfold displaceable at found
  obtain ⟨he, below, above, split, hbelow⟩ := List.find?_eq_some_iff_append.1 found
  exact ⟨below, above, split, by simpa using he, fun x hx => by simpa using hbelow x hx⟩

end Sys2Proof.Machine
end

