-- ==== Sys2Proof/Tests/Slice0.lean ====
section
/-! SUPPORT. The model's own tests: the checks on operands, the manual's worked examples, and, for each statement with
hypotheses, a state and operands that meet them (the theorems named witness_…). Expected values are the manual's, or
follow from it by hand; each test names its source. -/

namespace Sys2Proof.Tests

open Sys2Proof.Machine

/-! ### Helpers -/

/-- The state that a command leaves; none if it does not answer a next state. -/
def left (i : Instr) (s : State) : Option State :=
  match exec i s with
  | .next t => some t
  | .fault _ | .refused _ => none

/-- A request of a port stands at the head of its queue, and no response waits. -/
def asking (s : State) (p : Port) (k : RequestKind) (body : List Byte) : State :=
  s.setPort p { s.ports.get p with requests := [⟨k.code, body⟩], waiting := [] }

theorem takes_asking (s : State) (p : Port) (k : RequestKind) (body : List Byte) (held : s.resetHeld = false)
    (may : k.permitted p = true) (long : body.length = k.bodyLength) : Takes (asking s p k body) p k body := by
  cases p <;> exact ⟨⟨held, rfl, rfl⟩, may, long⟩

/-- The outcome byte of the response that a port sends. -/
def outcomeOf (s : Option State) (p : Port) : Option Byte :=
  s.bind fun t => (t.ports.get p).sending.bind fun frame => frame[3]?

/-- A stack of so many entries of SITE with a charge cap of 10 A, handles from 1. -/
def siteStack (n : Nat) : StackState :=
  ⟨(List.range n).map fun i => ⟨i + 1, .port .site, .direct, some 10, none, none⟩, n + 1⟩

/-- The state after reset, CONFIGURED, with data loss over. -/
def live : State :=
  { State.reset with
    config := { State.reset.config with configured := true },
    table := { State.reset.table with dataLoss := ⟨false, false, false⟩ } }

/-- The state with the fire state given. -/
def inFire (s : State) (status : FireStatus) : State := { s with fire := { s.fire with status := status } }

/-- The state with the connection state given. -/
def connected (s : State) (c : Connection) : State := { s with conn := { s.conn with connection := c } }

/-- The state with configuration items of the given values. -/
def withItems (s : State) (items : List (Nat × ItemValue)) : State :=
  { s with config := items.foldl (fun c x => c.store x.1 x.2) s.config }

/-! ### The checks on operands: ill-formed terms are refused -/

theorem test_handle_zero_refused : (Instr.curtailExpiry 0).wellFormed = false := by decide
theorem test_handle_256_refused : (Instr.curtailExpiry 256).wellFormed = false := by decide
theorem test_handle_255_passes : (Instr.curtailExpiry 255).wellFormed = true := by decide
theorem test_detector_16_refused : (Instr.disablementExpiry 16).wellFormed = false := by decide
theorem test_detector_15_passes : (Instr.disablementExpiry 15).wellFormed = true := by decide
theorem test_fifteen_levels_refused :
    (Instr.fireSampling (List.replicate 15 0) false false).wellFormed = false := by decide
theorem test_seventeen_levels_refused :
    (Instr.fireSampling (List.replicate 17 0) false false).wellFormed = false := by decide
theorem test_empty_reply_refused : (Instr.chainReplyEnd []).wellFormed = false := by decide
theorem test_empty_reply_error_refused : (Instr.chainReplyError []).wellFormed = false := by decide
theorem test_empty_frame_refused : (Instr.requestFrameReceived .conv []).wellFormed = false := by decide

/-- No row of the table gives bits: no word spells a command (log entry 6). -/
theorem test_no_word_spells_a_command : decodeTableWord 32 0 = none ∧ decodeTableWord 8 255 = none := by decide

/-! ### The manual's worked examples -/

/-- R164: the CRC of 01h, 10h is 65h, and the frame is A5h, 01h, 10h, 65h. -/
theorem test_crc_of_read_status :
    crc8 [0x01, 0x10] = 0x65 ∧ (0xA5 :: requestBytes 0x10 []) = [0xA5, 0x01, 0x10, 0x65] := by decide +kernel

/-- Section 1.2, worked check character: 81h, and the reply passes. -/
theorem test_worked_check_character :
    checkChar [0x00, 0x00, 0x78, 0x2E, 0xD9, 0x00] = 0x81 ∧
    replyChecks [0x00, 0x00, 0x78, 0x2E, 0xD9, 0x00, 0x81] = true ∧
    replyValues 0 12 [0x00, 0x00, 0x78, 0x2E, 0xD9, 0x00, 0x81] = .stringMonitor 120 11993 := by decide +kernel

/-- R2: a character time of 88 µs at N = 7. -/
theorem test_character_time : charTime 7 = 88 := by decide +kernel

/-- R64: with 254 next and 254 and 1 live, a push takes 255, and the push after it takes 2. -/
theorem test_handles_wrap :
    let body : EntryBody := ⟨.port .site, .direct, some 0, none, none⟩
    let st : StackState :=
      ⟨[⟨254, .port .site, .direct, some 0, none, none⟩, ⟨1, .port .site, .direct, some 0, none, none⟩], 254⟩
    st.freeHandle = 255 ∧ (st.add body).nextHandle = 1 ∧ (st.add body).freeHandle = 2 := by decide +kernel

/-- Section 2.7, worked balancing decision: the mask for monitor 5 names positions 1, 5, 6 and 8. -/
theorem test_worked_balancing_decision :
    let voltages : List Nat := [3355, 3371, 3360, 3357, 3349, 3380, 3371, 3345, 3366, 3357, 3358, 3366]
    let s : State := withItems live [(33, .scalar 1)]
    let t : CellTable :=
      { s.table with
        cells := List.replicate 48 ⟨3350, .known, false, false⟩ ++
          voltages.map (fun v => ⟨v, .known, false, false⟩),
        shapeMonitors := 5, shapeCells := 12,
        aggregates := { s.table.aggregates with vmin := some (3342, 0), tmax := some (31, 0) } }
    ({ s with table := t } : State).balanceMask 5 = 0x162 := by decide +kernel

/-- Sections 3.5 and 3.6: the values of the default curves. -/
theorem test_worked_curve_values :
    let c := State.reset.config
    envelopeCurve c.chargeCurve 8 = 440 ∧ envelopeCurve c.chargeCurve 44 = 720 ∧
    envelopeCurve c.chargeCurve (-25) = 0 ∧ envelopeCurve c.chargeCurve 12 = 760 ∧
    envelopeCurve c.dischargeCurve 8 = 940 ∧ envelopeCurve c.dischargeCurve 57 = 240 ∧
    envelopeCurve c.dischargeCurve 62 = 0 := by decide +kernel

/-- Section 3.5: the state of the worked publication. -/
def workedString : State :=
  { live with
    table := { live.table with
      aggregates := ⟨some (3480, 0), some (3290, 1), 1262400, some (44, 0), some (8, 1), 384, 0, 0⟩ },
    envelope := { live.envelope with
      record := { live.envelope.record with chargeLimit := 50, dischargeLimit := 140 } },
    thermal := { live.thermal with cooling := .degraded },
    conn := { live.conn with acPermission := true },
    stack := ⟨[⟨3, .port .util, .direct, some 200, none, none⟩, ⟨5, .port .site, .direct, none, some 150, none⟩], 6⟩ }

/-- Section 3.5, worked publication: 61 A and 131 A, 77 kW and 165 kW, the sets and the governing entries. -/
theorem test_worked_publication :
    let r := (workedString.publish .sweep).envelope.record
    r.chargeLimit = 61 ∧ r.dischargeLimit = 131 ∧ r.chargePower = 77 ∧ r.dischargePower = 165 ∧
    r.chargeSet = ⟨false, true, true, false, false, false, false, false, false, false⟩ ∧
    r.dischargeSet = ⟨false, true, true, false, false, false, false, false, false, false⟩ ∧
    r.chargeGoverning = some ⟨3, .port .util⟩ ∧ r.dischargeGoverning = some ⟨5, .port .site⟩ ∧
    r.vsum = 1262400 ∧ r.kind = .sweep := by decide +kernel

/-- Section 6.1, worked compare times. -/
theorem test_worked_compare_times :
    compareTime 40 500 = 20 ∧ compareTime 40 333 = 13 ∧ windowStart 40 333 true = 13 ∧
    windowStart 1000 333 true = 333 ∧ compareTime 1000 600 = 600 := by decide +kernel

/-- Section 7.2, worked detector trace: PRE at the third level at or above 40, and NORMAL again at the tenth in a row
below 32. -/
theorem test_worked_detector_trace :
    let c := (withItems State.reset [(61, .scalar 1)]).config
    let run : List Nat → Detector := fun levels =>
      levels.foldl (fun d level => d.sample c .offgas level) resetDetector
    (run [38, 42, 45]).state = .normal ∧ (run [38, 42, 45, 47]).state = .pre ∧
    (run [38, 42, 45, 47, 39, 31, 33]).clearRun = 0 ∧
    (run ([38, 42, 45, 47, 39, 31, 33] ++ List.replicate 9 30)).state = .pre ∧
    (run ([38, 42, 45, 47, 39, 31, 33] ++ List.replicate 10 30)).state = .normal := by decide +kernel

/-- Section 4.8: CONV pushes 120 A without a duration and is answered CLAMPED, with 60 s; UTIL pushes 300 A and holds
280 A. -/
theorem test_worked_pushes :
    let push : Port → List Byte → State := fun p body => asking State.reset p .pushCurtail body
    let conv := left (.pushCurtail .conv) (push .conv [0, 120, 0xFF, 0xFF, 0xFF, 0xFF, 0xFF, 0xFF])
    let util := left (.pushCurtail .util) (push .util [1, 44, 0, 200, 0, 0, 3, 132])
    outcomeOf conv .conv = some 1 ∧
    conv.map (fun t => t.stack.entries) = some [⟨1, .port .conv, .direct, some 120, none, some 60000000⟩] ∧
    util.map (fun t => t.stack.entries) = some [⟨1, .port .util, .direct, some 280, some 200, some 900000000⟩] := by
  decide +kernel

/-! ### Witnesses: states and operands that meet the hypotheses of the statements -/

/-- StepRunsFrontCommand, EmptyQueuePassesTime and PowerOnResetGivesResetState. -/
theorem witness_queue_and_reset :
    ({ State.reset with pending := [.sweepBegin] } : State).pending = .sweepBegin :: [] ∧
    State.reset.pending = [] ∧ State.reset.resetHeld = false ∧
    ({ State.reset with resetHeld := true } : State).resetHeld = true ∧
    ({ State.reset with resetHeld := true } : State).pending = [] ∧
    Instr.sweepBegin ≠ .powerOnReset ∧ Instr.sweepBegin ≠ .powerOnResetEnd := by decide

/-- A hunting receiver of CONV with so many requests queued. -/
def hunting (n : Nat) : State :=
  State.reset.setPort .conv
    { State.reset.ports.conv with receiver := .hunting, requests := List.replicate n ⟨0x10, []⟩ }

/-- SoundRequestFrameJoinsQueue and UnqueuedFramesAreAnswered, at three and at four requests, with the shortest and
the longest body, a wrong CRC, and the lengths next to the range. -/
theorem witness_frames :
    (hunting 3).resetHeld = false ∧ ((hunting 3).ports.get .conv).receiver = .hunting ∧
    ((hunting 3).ports.get .conv).requests.length < 4 ∧ ((hunting 4).ports.get .conv).requests.length = 4 ∧
    ((hunting 4).ports.get .conv).receiver = .hunting ∧
    ([] : List Byte).length ≤ 250 ∧ (List.replicate 250 (0 : Byte)).length ≤ 250 ∧
    (0x66 : Byte) ≠ crc8 (BitVec.ofNat 8 1 :: 0x10 :: []) ∧
    (0 : Byte).toNat = 0 ∧ 251 < (252 : Byte).toNat := by decide +kernel

/-- ReceiverAndResponsePath: each state of the receiver, and a response that waits or does not. -/
theorem witness_receiver :
    let q : PortState := State.reset.ports.conv
    ({ q with receiver := .receiving [1] false } : PortState).receiver = .receiving [1] false ∧
    ({ q with receiver := .receiving [1] true } : PortState).receiver = .receiving [1] true ∧
    q.receiver = .discarding ∧ ((hunting 0).ports.get .conv).receiver = .hunting ∧
    q.waiting = [] ∧ ({ q with waiting := [[0xA5]] } : PortState).waiting = [0xA5] :: [] := by decide

/-- PortControllerChecksEveryRequest: a kind that names no request, a port that may not ask, a body too long. -/
theorem witness_port_checks :
    (∀ (p : Port) (kind : Byte) (body : List Byte),
      AtHead (State.reset.setPort p { State.reset.ports.get p with requests := [⟨kind, body⟩] }) p kind body) ∧
    RequestKind.ofCode 0x00 = none ∧ RequestKind.connect.permitted .conv = false ∧
    RequestKind.connect.permitted .site = true ∧ ([0] : List Byte).length ≠ RequestKind.connect.bodyLength := by
  refine ⟨fun p kind body => ?_, by decide⟩
  cases p <;> exact ⟨rfl, rfl, rfl⟩

/-- EventThatCannotOccurChangesNothing: after reset no request is queued, no timer runs, and no entry is live. -/
theorem witness_no_event :
    (State.reset.ports.get .conv).requests.head? = none ∧
    ({ State.reset.ports.conv with waiting := [[0xA5]] } : PortState).waiting ≠ [] ∧
    State.reset.chain.periodTimer.isRunning = false ∧ State.reset.table.ageTimer.isRunning = false ∧
    State.reset.conn.precharge.isRunning = false ∧ State.reset.conn.cooldown.isRunning = false ∧
    State.reset.conn.openWait.isRunning = false ∧ State.reset.conn.dataLossOpen.isRunning = false ∧
    State.reset.conn.permitTimer.isRunning = false ∧ State.reset.conn.convTimer.isRunning = false ∧
    State.reset.conn.reconnect.isRunning = false ∧ State.reset.fire.countdown.isRunning = false ∧
    State.reset.thermal.releasePulse.isRunning = false ∧ State.reset.thermal.tachs.fanA.grace.isRunning = false ∧
    State.reset.thermal.tachs.fanA.retry.isRunning = false ∧
    State.reset.conn.contactors.neg.disagreement.isRunning = false ∧ State.reset.stack.entries = [] := by decide

/-- EventThatCannotOccurChangesNothing: after reset no queue names an unknown kind, every port waits for mark, no
detector is disabled, no tach channel is FAULTED, no sweep may begin, and no frame or reply is under way; and an exchange
that awaits a reply, with characters for either command. -/
theorem witness_no_event_elsewhere :
    let c : ChainState := State.reset.chain
    let awaiting : ChainState := { c with link := .awaitingReply, exchange := some ⟨0, true, false, 0⟩ }
    let reply : List ChainChar := ⟨0, true, true⟩ :: List.replicate 6 ⟨0, false, true⟩
    (∀ r, (State.reset.ports.get .conv).requests.head? = some r → ∃ k : RequestKind, r.kind = k.code) ∧
    (State.reset.ports.get .conv).lineDetector = .waitingForMark ∧ (State.reset.fire.detector 15).disablement = none ∧
    (State.reset.fire.detector 16).disablement = none ∧ (State.reset.thermal.tachs.get .fanA).check ≠ .faulted ∧
    c.due = false ∧ c.mode = .stopped ∧ c.linkTimer.isRunning = false ∧ c.link ≠ .awaitingReply ∧
    awaiting.exchange = some ⟨0, true, false, 0⟩ ∧ replyVerdict 0 [] = .incomplete ∧
    replyVerdict 0 [⟨1, true, true⟩] = .failed .address ∧
    replyVerdict 0 reply = .accepted (List.replicate 7 0) := by
  refine ⟨nofun, ?_⟩
  decide +kernel

/-- PortResetClearsThePort: a detector that waits for mark, and one that does not. -/
theorem witness_port_reset :
    State.reset.resetHeld = false ∧ (State.reset.ports.get .site).lineDetector = .waitingForMark ∧
    ({ State.reset.ports.site with lineDetector := .space } : PortState).lineDetector ≠ .waitingForMark ∧
    (State.reset.fire.status = .countdown → State.reset.fire.hold = false) := by decide

/-- ReadRequestsAndTheCursor: bank 7 at its last index and one past it, and bank 8. -/
theorem witness_cursor :
    Takes (asking .reset .util .readStatus []) .util .readStatus [] ∧
    Takes (asking .reset .util .readEnvelope []) .util .readEnvelope [] ∧
    Takes (asking .reset .util .setCursor [7, 0, 5]) .util .setCursor [7, 0, 5] ∧
    Takes (asking .reset .util .setCursor [7, 0, 6]) .util .setCursor [7, 0, 6] ∧
    Takes (asking .reset .util .setCursor [8, 0, 0]) .util .setCursor [8, 0, 0] ∧
    [3, 384, 128, 33, 16, 8, 8, 6][7]? = some 6 ∧ [3, 384, 128, 33, 16, 8, 8, 6][8]? = none :=
  ⟨takes_asking _ _ _ _ rfl rfl rfl, takes_asking _ _ _ _ rfl rfl rfl, takes_asking _ _ _ _ rfl rfl rfl,
    takes_asking _ _ _ _ rfl rfl rfl, takes_asking _ _ _ _ rfl rfl rfl, rfl, rfl⟩

/-- ReadNextReturnsRecords: counts 0, 1, 16 and 17, in bank 0 after reset, whose three records one count of three reads
to the end. -/
theorem witness_read_next :
    (∀ count : Byte, Takes (asking .reset .conv .readNext [count]) .conv .readNext [count]) ∧
    (0 : Byte).toNat = 0 ∧ 16 < (17 : Byte).toNat ∧
    State.reset.ports.conv.cursorIndex + (1 : Byte).toNat < bankSize State.reset.ports.conv.cursorBank ∧
    State.reset.ports.conv.cursorIndex < bankSize State.reset.ports.conv.cursorBank ∧
    bankSize State.reset.ports.conv.cursorBank ≤ State.reset.ports.conv.cursorIndex + (3 : Byte).toNat ∧
    bankSize State.reset.ports.conv.cursorBank ≤ State.reset.ports.conv.cursorIndex + (16 : Byte).toNat ∧
    5 < bankSize 7 :=
  ⟨fun _ => takes_asking _ _ _ _ rfl rfl rfl, by decide⟩

/-- OfferedEventsAreStoredWhileRoomRemains and EventRequestsOfThePort: a full queue and an empty one, the mark set and
clear, counts and levels at the ends of their ranges. -/
theorem witness_events :
    let full : PortState :=
      { State.reset.ports.conv with events := List.replicate 16 ⟨.dataLossEnd, 0, 0⟩ }
    full.events.length ≤ 16 ∧ full.overflow = false ∧ ({ full with overflow := true } : PortState).overflow = true ∧
    (∀ count : Byte, Takes (asking .reset .conv .eventRead [count]) .conv .eventRead [count]) ∧
    (∀ classes : Byte, Takes (asking .reset .conv .eventMask [classes]) .conv .eventMask [classes]) ∧
    Takes (asking .reset .conv .eventClearOverflow []) .conv .eventClearOverflow [] ∧
    (∀ level : Byte, Takes (asking .reset .conv .attentionLevel [level]) .conv .attentionLevel [level]) ∧
    16 < (17 : Byte).toNat ∧ 1 ≤ (1 : Byte).toNat ∧ (16 : Byte).toNat ≤ 16 ∧
    full.events = full.events ++ [] ∧ full.events.length = (16 : Byte).toNat :=
  ⟨by decide, rfl, rfl, fun _ => takes_asking _ _ _ _ rfl rfl rfl, fun _ => takes_asking _ _ _ _ rfl rfl rfl,
    takes_asking _ _ _ _ rfl rfl rfl, fun _ => takes_asking _ _ _ _ rfl rfl rfl, by decide, by decide, by decide,
    rfl, rfl⟩

/-- ChangesAreReported: an event that tells nothing and leaves the envelope. -/
theorem witness_changes :
    let c : Change := ⟨inFire State.reset .watch, []⟩
    (∀ r ∈ c.raised, r.event.reportsChange = false) ∧ c.st.envelope = State.reset.envelope :=
  ⟨by decide, rfl⟩

/-- ChangesAreReported, over commands: a grid line that comes up tells the grid state, and so does a port reset that
drops the hold the fire state, to the queue that it has emptied; an EVENT_MASK tells nothing. -/
theorem witness_changes_of_commands :
    let told : Port → Option State → Option (List Event) :=
      fun p t => t.map fun t => (t.ports.get p).events.map EventRecord.event
    let held : State :=
      { State.reset with
        fire := { State.reset.fire with status := .held, siteHold := true },
        ports := State.reset.ports.set .site
          { State.reset.ports.site with lineDetector := .space, overflow := true, mask := 1 } }
    told .conv (left (.gridLineChange true) State.reset) = some [.gridState true true false false] ∧
    told .site (left (.portReset .site) held) = some [.fireState .countdown CauseSet.empty] ∧
    told .conv (left (.eventMask .conv) (asking live .conv .eventMask [1])) = some [] := by decide +kernel

/-- NewHandleIsFirstFree: a full stack, and the ends of the range of handles. -/
theorem witness_handles :
    (siteStack 8).entries.length ≤ 8 ∧ 1 ≤ (siteStack 8).nextHandle ∧ (siteStack 8).nextHandle ≤ 255 ∧
    1 ≤ (⟨[], 255⟩ : StackState).nextHandle ∧ (⟨[], 255⟩ : StackState).nextHandle ≤ 255 := by decide

/-- PushCurtailAddsEntryOnTop: no cap, a duration of 0, and a charge cap of 0 A at seven entries. -/
theorem witness_push :
    (∀ s p body, s.resetHeld = false → body.length = 8 →
      Takes (asking s p .pushCurtail body) p .pushCurtail body) ∧
    capField [0xFF, 0xFF, 0xFF, 0xFF, 0, 0, 0, 1] 0 = none ∧ capField [0xFF, 0xFF, 0xFF, 0xFF, 0, 0, 0, 1] 2 = none ∧
    durationField [0, 0, 0, 0, 0, 0, 0, 0] 4 = some 0 ∧ capField [0, 0, 0, 0, 0, 0, 0, 1] 0 = some 0 ∧
    durationField [0, 0, 0, 0, 0, 0, 0, 1] 4 = some 1 ∧ (siteStack 7).entries.length < 8 :=
  ⟨fun _ p _ h l => takes_asking _ p _ _ h (by cases p <;> rfl) l, by decide⟩

/-- PushAtFullStackDisplaces: a full stack of SITE, one of UTIL, and one whose lowest entry a slot of SITE owns. -/
theorem witness_push_full :
    (curtailValues [0, 9, 0xFF, 0xFF, 0, 0, 0, 1] 0).valid = true ∧ (siteStack 8).entries.length = 8 ∧
    ((siteStack 8).entries.map Entry.handle).Nodup ∧
    (siteStack 8).entries = [] ++ ⟨1, .port .site, .direct, some 10, none, none⟩ :: (siteStack 8).entries.drop 1 ∧
    (∀ e ∈ (siteStack 8).entries.map fun e => { e with owner := .port .util }, e.owner = .port .util) ∧
    (let spec : WatchSpec := ⟨.cellV, 0, 0, .ge, 0, false, .curtail, some 5, none⟩
     let slots : List (Option Claim) := some ⟨.site, spec, true, false, some 1⟩ :: List.replicate 7 none
     ({ State.reset with slots := slots } : State).claim 0 = some ⟨.site, spec, true, false, some 1⟩) := by decide

/-- OwnEntriesChangeAndGo: SITE's own topmost entry among eight, one that carries no remaining time and one that does,
and a stack without an entry of CONV. -/
theorem witness_own_entries :
    (∀ k body, k ∈ [RequestKind.amendCurtail, .releaseCurtail, .popCurtail, .releaseAllCurtail] →
      body.length = k.bodyLength → Takes (asking .reset .site k body) .site k body) ∧
    (siteStack 8).entries =
      (siteStack 8).entries.take 7 ++ ⟨8, .port .site, .direct, some 10, none, none⟩ :: [] ∧
    ((siteStack 8).entries.map Entry.handle).Nodup ∧ (∀ e ∈ (siteStack 8).entries, e.owner ≠ .port .conv) ∧
    (⟨8, .port .site, .direct, some 10, none, some 1⟩ : Entry).remaining = some 1 ∧
    (curtailValues [8, 0, 9, 0xFF, 0xFF, 0, 0, 0, 0] 1).duration = some 0 ∧
    (curtailValues [8, 0, 9, 0xFF, 0xFF, 0, 0, 0, 1] 1).charge = some 9 ∧
    (curtailValues [8, 0xFF, 0xFF, 0xFF, 0xFF, 0, 0, 0, 1] 1).charge = none ∧
    u8 [8, 0, 9, 0xFF, 0xFF, 0, 0, 0, 1] 0 = 8 :=
  ⟨fun k _ hk l => takes_asking _ _ k _ rfl (by revert hk; cases k <;> decide) l, by decide⟩

/-- A watch specification as a body carries it: CELL_V, indices 0 to 383, GE, 3300 mV, CURTAIL with 1000 A, and the
chain flag as given. -/
def watchBody (slot chain : Byte) : List Byte :=
  [slot, 0, 0, 0, 1, 127, 0, 0x0C, 0xE4, 2, 0x03, 0xE8, 0xFF, 0xFF, chain]

/-- ClaimWatchWritesTheSlot and ReleaseWatchFreesTheSlot: slots 7 and 8, a free slot, one's own and another's, with and
without a chain flag. -/
theorem witness_watch :
    let spec : WatchSpec := ⟨.cellV, 0, 383, .ge, 3300, false, .curtail, some 1000, none⟩
    let slots : List (Option Claim) :=
      [some ⟨.site, { spec with chain := true }, false, false, none⟩, some ⟨.site, spec, false, false, none⟩] ++
        List.replicate 6 none
    (∀ s slot chain, s.resetHeld = false →
      Takes (asking s .site .claimWatch (watchBody slot chain)) .site .claimWatch (watchBody slot chain)) ∧
    (∀ s slot, s.resetHeld = false → Takes (asking s .site .releaseWatch [slot]) .site .releaseWatch [slot]) ∧
    slots.length = 8 ∧ u8 (watchBody 7 0) 0 = 7 ∧ 7 < u8 (watchBody 8 0) 0 ∧
    watchSpecField (watchBody 7 0) = some spec ∧ watchSpecField (watchBody 0 1) = some { spec with chain := true } ∧
    watchSpecField (watchBody 0 2) = none ∧ spec.valid 7 = true ∧ ({ spec with chain := true }).valid 6 = true ∧
    ({ State.reset with slots := slots } : State).claim 0 = some ⟨.site, { spec with chain := true }, false, false, none⟩ ∧
    ({ State.reset with slots := slots } : State).claim 1 = some ⟨.site, spec, false, false, none⟩ ∧
    ({ State.reset with slots := slots } : State).claim 7 = none :=
  ⟨fun _ _ _ h => takes_asking _ _ _ _ h rfl rfl, fun _ _ h => takes_asking _ _ _ _ h rfl rfl, by decide⟩

/-- CoolingRequests: codes 4 and 5, the duties next to 1000, CONFIGURED and not, and the connection states that matter. -/
theorem witness_cooling :
    (∀ s body, s.resetHeld = false → body.length = 3 →
      Takes (asking s .site .coolingManual body) .site .coolingManual body) ∧
    (∀ s code, s.resetHeld = false → Takes (asking s .site .coolingAuto [code]) .site .coolingAuto [code]) ∧
    Takes (asking live .site .coolingRetry []) .site .coolingRetry [] ∧
    (4 : Byte).toNat = dutyCode .heater ∧ 5 ≤ (5 : Byte).toNat ∧ State.reset.config.configured = false ∧
    live.config.configured = true ∧ live.conn.connection = .opened ∧
    (connected live (.lockedOut .fire)).conn.connection.isLocked = true ∧
    (connected live .closed).conn.connection ≠ .opened ∧ (connected live .closed).conn.connection.isLocked = false ∧
    (3 : Byte).toNat * 256 + (232 : Byte).toNat = 1000 ∧
    (∀ c, live.thermal.forcing.get c = forcedBy live.fire.status live.fire.causes c) :=
  ⟨fun _ _ h l => takes_asking _ _ _ _ h rfl l, fun _ _ h => takes_asking _ _ _ _ h rfl rfl,
    takes_asking _ _ _ _ rfl rfl rfl, by decide, by decide, rfl, rfl, rfl, rfl, by decide, rfl, by decide,
    fun c => by cases c <;> rfl⟩

/-- TachInputsAndTimers: a grace timer and a retry timer that run, the latter of a FAULTED channel. -/
theorem witness_tach :
    let r : TachRecord := { resetTach with grace := .running 1, retry := .running 1, check := .faulted }
    let s := State.reset.setTach .pump r
    s.resetHeld = false ∧ (s.thermal.tachs.get .pump).grace = .running 1 ∧
    (s.thermal.tachs.get .pump).retry = .running 1 ∧ (s.thermal.tachs.get .pump).check = .faulted ∧
    (s.advance 1).thermal.windowLeft ≠ 1000000 := by decide

/-- The duties of the state after reset, with a fan that starts at the next period. -/
def fanStarting : State :=
  { live with
    thermal := { live.thermal with
      channels := { live.thermal.channels with fanA := ⟨.manual, some 300, 0, 300, 300, 0⟩ } } }

/-- PeriodStartTakesShadowDuties and DutiesStayFollowed: a fan in MANUAL whose shadow duty is 300 and whose active duty
is 0. -/
theorem witness_duties : fanStarting.resetHeld = false ∧ DutiesFollow fanStarting :=
  ⟨rfl, {
    forcing := fun c => by cases c <;> rfl
    unconfigured := nofun
    forced := fun _ c d h => by cases c <;> cases h
    manual := fun _ c _ h => by cases c <;> first | rfl | cases h
    automatic := fun _ c _ h => by cases c <;> first | rfl | cases h
    shadow := fun c => by cases c <;> rfl
    modes := fun c => by cases c <;> decide
    damper := by decide
    lost := by unfold State.faulted; decide
    normal := by unfold State.faulted; decide }⟩

/-- A part with EXHAUST at an active duty and a time left of a period of 1000 µs. -/
def exhaustAt (duty left : Nat) : State :=
  { live with
    thermal := { live.thermal with
      pwm := { live.thermal.pwm with period := 1000, left := left }
      channels := { live.thermal.channels with exhaust := { resetChannel with active := duty } } } }

/-- PeriodStartTakesShadowDuties, and section 6.1, the EXHAUST example: at a duty of 1000 the output is active at 300 µs
of a period and stays active to the end of the period, also while the next period start is due; at 0 it is not. -/
theorem witness_outputAtPeriodEnd :
    (exhaustAt 1000 0).lines.outputs.exhaust = true ∧ (exhaustAt 1000 1000).lines.outputs.exhaust = true ∧
    (exhaustAt 1000 700).lines.outputs.exhaust = true ∧ (exhaustAt 0 0).lines.outputs.exhaust = false ∧
    (exhaustAt 600 400).lines.outputs.exhaust = false ∧ (exhaustAt 600 401).lines.outputs.exhaust = true := by decide

/-- A part whose fan A is armed from the start of the window, at a duty of 200. -/
def fanArmed : State :=
  ({ live with
    thermal := { live.thermal with
      channels := { live.thermal.channels with fanA := { resetChannel with active := 200 } } } } : State).setTach .fanA
    { resetTach with grace := .runOut, armedSinceStart := true }

/-- WindowEndJudgesTheChannels: a window that is valid for one channel, and not for another. -/
theorem witness_window :
    fanArmed.resetHeld = false ∧ WindowValid fanArmed .fanA ∧ ¬ WindowValid fanArmed .fanB ∧
    (∀ c, fanArmed.thermal.forcing.get c = forcedBy fanArmed.fire.status fanArmed.fire.causes c) :=
  ⟨rfl, ⟨⟨by decide, rfl, by decide, by decide, .inl rfl⟩, rfl⟩, (fun h => by cases h.fromStart),
    (fun c => by cases c <;> rfl)⟩

/-- SampleMovesRunsAndState: detectors at the edges of the run tests, by state. -/
theorem witness_sample :
    let c := State.reset.config
    (({ resetDetector with alarmRun := 2 } : Detector).sample c .manual 128).alarmRun = 3 ∧
    (({ resetDetector with faultRun := 2 } : Detector).sample c .smoke 255).faultRun = 3 ∧
    (({ resetDetector with state := .fault, inRangeRun := 9 } : Detector).sample c .heat 1).inRangeRun = 10 ∧
    (({ resetDetector with state := .fault, inRangeRun := 8 } : Detector).sample c .heat 254).inRangeRun < 10 ∧
    (({ resetDetector with state := .pre, clearRun := 9 } : Detector).sample c .offgas 31).clearRun = 10 ∧
    (({ resetDetector with preRun := 1 } : Detector).sample c .offgas 40).preRun < 3 := by decide

/-- A MANUAL detector 0 in ALARM of an otherwise fresh part, with auto-release as given. -/
def manualAlarm (autoRelease : Int) : State :=
  let s := withItems State.reset [(58, .scalar 4), (80, .scalar autoRelease)]
  { s with fire := { s.fire with detectors := s.fire.detectors.set 0 { resetDetector with alarmRun := 2 } } }

/-- SamplingMovesTheFireState: a sampling that confirms a fire enters ALARM, COUNTDOWN or HELD by auto-release and the
hold; one that does not leaves QUIET; and a confirmed state meets the last clauses. -/
theorem witness_sampling :
    let levels : List Byte := 200 :: List.replicate 15 1
    let statusAfter : State → Bool → Option FireStatus := fun s hold =>
      (left (.fireSampling levels false hold) s).map fun t => t.fire.status
    statusAfter (manualAlarm 0) true = some .alarm ∧ statusAfter (manualAlarm 1) false = some .countdown ∧
    statusAfter (manualAlarm 1) true = some .held ∧ statusAfter State.reset false = some .quiet ∧
    statusAfter (inFire State.reset .countdown) true = some .held ∧
    statusAfter (inFire State.reset .held) false = some .countdown := by decide +kernel

/-- HoldAndRelease, FireResetEndsTheFire and DisablementStopsAndRestartsADetector: each fire state is met by a request
that is taken; a countdown, a release pulse and a disablement that run; and the ends of the detector numbers. -/
theorem witness_fire_requests :
    (∀ status k body, k ∈ [RequestKind.holdSet, .holdClear, .releaseNow, .fireReset, .detectorEnable, .detectorDisable] →
      body.length = k.bodyLength →
      Takes (asking (inFire State.reset status) .site k body) .site k body ∧
        (asking (inFire State.reset status) .site k body).fire.status = status) ∧
    (State.reset.fire.status = .countdown → State.reset.fire.hold = false) ∧
    ({ State.reset.fire with countdown := .running 1 } : FireControl).countdown = .running 1 ∧
    ({ State.reset.thermal with releasePulse := .running 1 } : ThermalState).releasePulse = .running 1 ∧
    ({ resetDetector with disablement := some 1 } : Detector).disablement = some 1 ∧
    (15 : Byte).toNat < 16 ∧ 16 ≤ (16 : Byte).toNat ∧ (State.reset.fire.detector 15).disablement = none ∧
    (let s := withItems State.reset [(58, .scalar 4)]
     let d : Detector := { resetDetector with level := 128 }
     inService (s.config.detectorKind 0) d = true ∧ s.config.preThreshold (s.config.detectorKind 0) ≤ d.level) :=
  ⟨fun _ k _ hk l => ⟨takes_asking _ _ k _ rfl (by revert hk; cases k <;> decide) l, rfl⟩, by decide⟩

/-- ContactorsAreTimedAndFault, FeedbackMovesTheConnection and OpeningsGoOnAndTurn: a contactor that agrees or not, a
disagreement timer that runs, and a state of each kind. -/
theorem witness_contactors :
    let r : ContactorRecord := ⟨.opened, .closed, .running 1, false⟩
    r.disagreement = .running 1 ∧ r.command ≠ r.feedback ∧ resetContactor.command = resetContactor.feedback ∧
    (∀ n : Connection, (connected State.reset n).conn.connection = n ∧
      (connected State.reset n).resetHeld = false) ∧
    (∃ cause, (connected State.reset (.lockedOut .fire)).conn.connection = .lockedOut cause) ∧
    (∀ cause, State.reset.conn.connection ≠ .lockedOut cause) :=
  ⟨rfl, by decide, rfl, fun _ => ⟨rfl, rfl⟩, ⟨_, rfl⟩, fun _ => nofun⟩

/-- FeedbackMovesTheConnection: NEG closes in NEG_WAIT, and POS closes in CLOSING with PRE already open. -/
theorem witness_feedback :
    let negWait := connected State.reset (.precharging .negWait)
    let closing := connected State.reset .closing
    (left (.contactorFeedbackChange .neg .closed) negWait).map (fun t => t.conn.connection) =
      some (.precharging .charging) ∧
    (left (.contactorFeedbackChange .pos .closed) closing).map (fun t => t.conn.connection) = some .closed ∧
    (negWait.conn.contactors.get .neg).feedback ≠ .closed := by decide +kernel

/-- ConnectAndUnlock and DisconnectStartsAnOpening: a part that may connect, one for each refusal, a locked string that
may be unlocked, and a current at the threshold and above it. -/
theorem witness_connect :
    Takes (asking live .site .connect []) .site .connect [] ∧
    (∀ p, Takes (asking live p .disconnect []) p .disconnect []) ∧
    Takes (asking live .site .unlock []) .site .unlock [] ∧
    live.config.configured = true ∧ live.conn.connection = .opened ∧ live.fire.status = .quiet ∧
    live.table.dataLoss.holds = false ∧ live.table.hardLimits.flag = false ∧ live.conn.cooldown.isRunning = false ∧
    State.reset.config.configured = false ∧ State.reset.table.dataLoss.holds = true ∧
    (⟨true, false, false⟩ : HardLimits).flag = true ∧ (Timer.running 1).isRunning = true ∧
    (∀ k, (live.conn.contactors.get k).feedback = .opened ∧ (live.conn.contactors.get k).faultMark = false) ∧
    (({ live.table.string with current := -10, state := .stale }).current.natAbs : Int) ≤ live.config.openCurrent ∧
    live.table.string.state = .unknown :=
  ⟨takes_asking _ _ _ _ rfl rfl rfl, fun p => takes_asking _ p _ _ rfl (by cases p <;> rfl) rfl,
    takes_asking _ _ _ _ rfl rfl rfl, rfl, rfl, rfl, rfl, rfl, rfl, rfl, rfl, rfl, rfl,
    fun k => by cases k <;> exact ⟨rfl, rfl⟩, by decide, rfl⟩

/-- ConnectionTimersRunOut: each timer runs, with the grid present for the reconnect timer and the third attempt for
the precharge timer. -/
theorem witness_connection_timers :
    let c : ConnectionControl :=
      { State.reset.conn with
        precharge := .running 1, cooldown := .running 1, openWait := .running 1, dataLossOpen := .running 1,
        reconnect := .running 1, attempts := 2, linePresent := true }
    c.precharge = .running 1 ∧ c.cooldown = .running 1 ∧ c.openWait = .running 1 ∧ c.dataLossOpen = .running 1 ∧
    c.reconnect = .running 1 ∧ c.gridPresent = true ∧ c.attempts = 2 ∧
    ¬ (State.reset.table.string.state = .known ∨ State.reset.table.string.state = .stale) ∧
    ((0 : Int).natAbs : Int) ≤ State.reset.config.openCurrent := by decide

/-- PermitAndWithdraw and LapsePushesTheFallbackEntry: durations 0, 3600 and 3601, a permit timer that runs, and the
stacks of the push. -/
theorem witness_permit :
    (∀ high low : Byte, Takes (asking .reset .util .permit [high, low]) .util .permit [high, low]) ∧
    Takes (asking .reset .util .withdraw []) .util .withdraw [] ∧
    (0x0E : Byte).toNat * 256 + (0x10 : Byte).toNat = 3600 ∧
    3600 < (0x0E : Byte).toNat * 256 + (0x11 : Byte).toNat ∧
    ({ State.reset.conn with permitTimer := .running 1 } : ConnectionControl).permitTimer = .running 1 ∧
    (siteStack 7).entries.length < 8 ∧ (siteStack 8).entries.length = 8 ∧
    ((siteStack 8).entries.map Entry.handle).Nodup :=
  ⟨fun _ _ => takes_asking _ _ _ _ rfl rfl rfl, takes_asking _ _ _ _ rfl rfl rfl, by decide⟩

/-- GridNoticesAndLine: the requests of their ports, a line that is absent, and a notice timer that runs. -/
theorem witness_grid :
    Takes (asking .reset .conv .gridTrip []) .conv .gridTrip [] ∧
    Takes (asking .reset .util .gridTrip []) .util .gridTrip [] ∧
    Takes (asking .reset .util .gridRestored []) .util .gridRestored [] ∧ State.reset.resetHeld = false ∧
    State.reset.conn.linePresent = false ∧ State.reset.conn.linePresent ≠ true ∧
    ({ State.reset.conn with convTimer := .running 1 } : ConnectionControl).convTimer = .running 1 :=
  ⟨takes_asking _ _ _ _ rfl rfl rfl, takes_asking _ _ _ _ rfl rfl rfl, takes_asking _ _ _ _ rfl rfl rfl,
    by decide⟩

/-- A chain controller in a mode and an activity. -/
def chainIn (mode : SweepMode) (activity : ChainActivity) (link : Link) (begun : Bool) : ChainState :=
  { resetChain with
    mode := mode, activity := activity, due := decide (mode ≠ .stopped), link := link, linkTimer := .running 1,
    periodTimer := if mode = .continuous then .running 1 else .stopped,
    exchange := some ⟨32, begun, false, 0⟩ }

/-- SweepRequestsSetTheMode and PeriodsSweepsAndAge: each mode and activity, an exchange begun and not, a due sweep of
an IDLE chain, and running period and age timers. -/
theorem witness_sweeps :
    (∀ s k, k ∈ [RequestKind.sweepOnce, .sweepContinuous, .sweepStop] → s.resetHeld = false →
      Takes (asking s .site k []) .site k []) ∧
    (∀ mode activity link begun, (chainIn mode activity link begun).mode = mode ∧
      (chainIn mode activity link begun).activity = activity ∧
      (chainIn mode activity link begun).exchange = some ⟨32, begun, false, 0⟩) ∧
    (chainIn .continuous .idle .rest false).periodTimer = .running 1 ∧
    (chainIn .continuous .idle .rest false).due = true ∧ State.reset.chain.due = false ∧
    ({ State.reset.table with ageTimer := .running 1 } : CellTable).ageTimer = .running 1 ∧
    State.reset.conn.connection = .opened ∧ (connected State.reset .closed).conn.connection ≠ .opened :=
  ⟨fun _ k hk h => takes_asking _ _ k _ h (by revert hk; cases k <;> decide) (by revert hk; cases k <;> decide),
    fun _ _ _ _ => ⟨rfl, rfl, rfl⟩, by decide⟩

/-- ChainFramesAndTheLine, AttemptsEndOrAreRetried and ExchangeEndGoesOnOrCompletes: a due frame on a free line, a
frame being sent, a reply awaited at the last address, and the counts next to it. -/
theorem witness_chain :
    (chainIn .continuous .sweeping .frameDue false).link = .frameDue ∧
    (chainIn .continuous .sweeping .frameDue false).lineFree = true ∧ State.reset.chain.activity = .clearing ∧
    (chainIn .continuous .sweeping (.sending []) true).link = .sending [] ∧
    (chainIn .continuous .sweeping (.sending []) true).linkTimer = .running 1 ∧
    State.reset.chain.bleedOffRequest = false ∧
    ({ chainIn .continuous .sweeping .frameDue true with lineFree := false } : ChainState).lineFree = false ∧
    (chainIn .continuous .sweeping .awaitingReply true).link = .awaitingReply ∧
    State.reset.chain.link ≠ .awaitingReply ∧ (⟨32, true, false, 0⟩ : Exchange).address ≤ 32 ∧
    State.reset.config.monitorCount ≤ 0 ∧ 0 < (withItems State.reset [(1, .scalar 1)]).config.monitorCount ∧
    (chainIn .single .sweeping .awaitingReply true).mode = .single := by decide

/-- The characters of a reply of the string monitor, section 1.2. -/
def stringReply : List ChainChar :=
  ⟨0x00, true, true⟩ :: ([0x00, 0x78, 0x2E, 0xD9, 0x00, 0x81] : List Byte).map fun b => ⟨b, false, true⟩

/-- RepliesAreJudgedInOrder and AttemptsEndOrAreRetried: a sound reply, and one for each error. -/
theorem witness_replies :
    replyVerdict 0 stringReply = .accepted [0x00, 0x00, 0x78, 0x2E, 0xD9, 0x00, 0x81] ∧
    replyVerdict 0 (stringReply.take 6) = .incomplete ∧
    replyVerdict 0 (stringReply.set 6 ⟨0x80, false, true⟩) = .failed .check ∧
    replyVerdict 0 ((stringReply.set 5 ⟨0x01, false, true⟩).set 6 ⟨0x80, false, true⟩) = .failed .monitorFault ∧
    replyVerdict 0 (stringReply.take 6 ++ [⟨0x81, true, true⟩]) = .failed .framing ∧
    replyVerdict 0 (stringReply.take 6 ++ [⟨0x81, false, false⟩]) = .failed .framing ∧
    replyVerdict 1 stringReply = .failed .address := by decide

/-- SnapshotTakesTheSweep: a PRESENT, a MISSING and an ABSENT monitor, with codes and temperatures at the edges. -/
theorem witness_snapshot :
    let c := (withItems State.reset [(1, .scalar 3), (2, .scalar 4)]).config
    let records : List MonitorRecord :=
      [⟨.present, 0, none, some 1⟩, ⟨.present, 0, none, some 1⟩, ⟨.missing, 1, some .check, none⟩,
        ⟨.absent, 3, some .timeout, none⟩]
    let buffer : List (Option BufferEntry) :=
      [some ⟨.good (.stringMonitor (-2001) 20001), 0⟩,
        some ⟨.good (.cellMonitor [5000, 5001, 0, 16383] [0, 1, 165, 166]), 1⟩]
    let n := resetTable.takeSnapshot c 1 records buffer
    n.cells.take 4 =
      [⟨5000, .known, false, true⟩, ⟨5000, .known, true, false⟩, ⟨0, .known, false, false⟩, ⟨5000, .known, true, false⟩] ∧
    n.points.take 4 =
      [⟨0, .openSensor, false⟩, ⟨-39, .known, false⟩, ⟨125, .known, false⟩, ⟨125, .known, true⟩] ∧
    n.string = ⟨-2000, 20000, .known⟩ ∧ (n.cells[12]?).map CellRecord.state = some .stale ∧
    (n.cells[24]?).map CellRecord.state = some .unknown := by decide +kernel

/-- BalanceMaskNamesTheHighestFour is met by the worked decision of section 2.7; CurveInterpolatesBetweenBreakpoints by
the default curves, with a temperature of each row. -/
theorem witness_curve :
    let points := State.reset.config.chargeCurve
    points.Pairwise (fun a b => a.1 < b.1) ∧ points = (0, 0) :: points.drop 1 ∧ points.getLast? = some (55, 0) ∧
    (5, 200) ∈ points ∧ points = points.take 1 ++ (5, 200) :: (15, 1000) :: points.drop 3 ∧
    (-1 : Int) < 0 ∧ (55 : Int) < 56 ∧ (5 : Int) < 14 ∧ (14 : Int) < 15 := by decide

/-- PublicationComputesTheRecord: the worked publication of section 3.5 passes no gate, and each gate can hold. -/
theorem witness_publication :
    ¬ workedString.bothGated ∧ State.reset.bothGated ∧ (inFire workedString .watch).fire.status = .watch ∧
    (inFire workedString .alarm).fireConfirmed ∧ workedString.table.aggregates.tmin = some (8, 1) ∧
    workedString.table.aggregates.tmax = some (44, 0) ∧ workedString.table.aggregates.vmax = some (3480, 0) ∧
    workedString.table.aggregates.vmin = some (3290, 1) := by
  refine ⟨?_, .inl rfl, rfl, .inl rfl, rfl, rfl, rfl, rfl⟩
  rintro (h | h | h | h | h | h | h) <;> cases h

/-- ConfigWriteAndRead: item numbers 0, 1, 89 and 90, a value in and out of its range, and each refusal. -/
theorem witness_config_write :
    (∀ s item rest, s.resetHeld = false → rest.length = 4 →
      Takes (asking s .site .configWrite (item :: rest)) .site .configWrite (item :: rest)) ∧
    (∀ s item, s.resetHeld = false → Takes (asking s .site .configRead [item]) .site .configRead [item]) ∧
    itemRange 0 = none ∧ itemRange 90 = none ∧ itemRange 1 = some (.between 0 32) ∧
    itemRange 89 = some (.between 0 1000) ∧ itemRange 13 = some .breakpoint ∧
    (ItemRange.between 0 32).admits (itemField (.between 0 32) [1, 0, 0, 0, 32] 1) = true ∧
    (ItemRange.between 0 32).admits (itemField (.between 0 32) [1, 0, 0, 0, 33] 1) = false ∧
    State.reset.conn.connection = .opened ∧ (connected live .closed).conn.connection.isLocked = false ∧
    (inFire State.reset .watch).fire.status ≠ .quiet ∧ State.reset.config.value 1 = .scalar 0 ∧
    State.reset.config.value 13 = .point 0 0 :=
  ⟨fun _ _ _ h l => takes_asking _ _ _ _ h rfl (by simp [l]; rfl), fun _ _ h => takes_asking _ _ _ _ h rfl rfl,
    by decide⟩

/-- ConfigAcceptStartsThePart: the defaults fail check 1, and a monitor count of 1 with an OFFGAS detector passes. -/
theorem witness_accept :
    Takes (asking live .site .configAccept []) .site .configAccept [] ∧ live.config.configured = true ∧
    State.reset.config.configured = false ∧ (State.reset.config.firstFailure).isSome = true ∧
    (withItems State.reset [(1, .scalar 1), (58, .scalar 1)]).config.firstFailure = none :=
  ⟨takes_asking _ _ _ _ rfl rfl rfl, by decide⟩

/-- LimitsRiseBySweepsAlone and PublishedLimitsStayBounded: a state other than the one after reset, from which a step
answers a next state. -/
theorem witness_every_step :
    let s : State := { workedString with pending := [.sweepBegin] }
    (∃ t, step s = .next t) ∧ GatesHold s ∧ WithinCaps s := by
  refine ⟨⟨_, rfl⟩, ⟨?_, nofun⟩, ⟨by decide, by decide⟩⟩
  rintro (h | h | h | h | h | h | h) <;> cases h

/-- A part on the table of its defaults, with one entry of SITE, whose next command begins a sweep. -/
def steady : State := { State.reset with stack := siteStack 1, pending := [.sweepBegin] }

theorem witness_steps_from_steady : ∃ t, step steady = .next t := ⟨_, rfl⟩

/-- PublishedLimitsStayBounded: the configuration after reset is sound. -/
theorem witness_items_sound : ItemsSound steady.config where
  count := by decide
  ranges n range h := by
    by_cases hn : 1 ≤ n ∧ n ≤ 89
    · have all : ∀ k < 90, ∀ r, itemRange k = some r → r.admits (steady.config.value k) = true := by decide +kernel
      exact all n (by omega) range h
    · simp [itemRange, hn] at h
  accepted := nofun

/-- PublishedLimitsStayBounded: the limits of the same part stand at 0. -/
theorem witness_limits : GatesHold steady ∧ WithinCaps steady ∧ LimitsRated steady :=
  ⟨⟨fun _ => ⟨rfl, rfl⟩, nofun⟩, ⟨by decide, by decide⟩, ⟨by decide, by decide, rfl, rfl⟩⟩

theorem no_claim (s : State) (free : s.slots = List.replicate 8 none) (k : Nat) : s.claim k = none := by
  rw [State.claim, free]
  match k with
  | 0 | 1 | 2 | 3 | 4 | 5 | 6 | 7 => rfl
  | _ + 8 => rfl

/-- StackStaysSound. -/
theorem witness_stack_sound : StackSound steady where
  depth := by decide
  distinct := by decide
  handles := by decide
  next := by decide
  capped := by decide
  origins e h := by
    cases h with
    | head => exact .inl ⟨rfl, _, rfl⟩
    | tail _ h => cases h
  slots := rfl
  held k c _ h _ := by rw [no_claim steady rfl k] at h; cases h
  owned e h k o := by
    cases h with
    | head => cases o
    | tail _ h => cases h
  specs k c h _ := by rw [no_claim steady rfl k] at h; cases h
  chains k c h _ := by rw [no_claim steady rfl k] at h; cases h
  fallback h := by
    constructor
    · nofun
    · rintro ⟨e, he, -, ho⟩
      cases he with
      | head => cases ho
      | tail _ he => cases he
  lapsed := by decide
  timed := by decide

/-- ConnectionStaysSound. -/
theorem witness_connection_sound : ConnectionSound steady ∧ PermissionFollows steady :=
  ⟨{ commands := ⟨rfl, rfl, rfl⟩
     precharge := by decide
     openWait := by decide
     dataLossOpen := by decide
     attempts := by decide
     third := by decide
     fire := by rintro (h | h | h | h) <;> cases h
     hardLimit := nofun },
   { absent := by decide
     present := by decide
     permission := by decide }⟩

/-- FireStaysSound. -/
theorem witness_fire_sound : FireSound steady ∧ RelaysFollow steady := by
  have none : ∀ k, ¬ KindAlerted steady.config steady.fire k := by
    rintro k ⟨hk, i, hi, rfl, -⟩
    exact hk ((by decide +kernel : ∀ i < 16, steady.config.detectorKind i = .none) i hi)
  refine ⟨⟨fun _ => ⟨fun ⟨k, h⟩ => (none k h).elim, fun _ => rfl, ?_⟩, by decide, nofun, nofun⟩, ?_⟩
  · exact ⟨iff_of_false nofun (none _), iff_of_false nofun (none _), iff_of_false nofun (none _),
      iff_of_false nofun (none _), rfl⟩
  · refine ⟨by decide +kernel, by decide, iff_of_false nofun ?_⟩
    rintro (h | h | h | h) <;> cases h

/-- PortsAndChainStaySound. -/
theorem witness_ports_and_chain_sound : (∀ p, PortBounded (steady.ports.get p)) ∧ ChainSound steady := by
  refine ⟨fun p => by cases p <;> exact ⟨by decide, by decide, by decide, by decide, by decide, by decide, by decide⟩, ?_⟩
  refine ⟨by decide, by decide, fun r h => ?_, by decide, by decide, by decide, by decide⟩
  have cases : r = ⟨.absent, 3, none, none⟩ ∨ r = ⟨.unconfigured, 0, none, none⟩ := by
    rcases List.mem_cons.1 h with h | h
    · exact .inl h
    · exact .inr (List.eq_of_mem_replicate h)
  rcases cases with rfl | rfl <;> constructor <;> decide

/-! ### Witnesses for the rules over all commands and over a completed sweep -/

/-- A part whose fan A is at a duty of 200 with its grace timer running out at the start of a window. -/
def fanInGrace : State :=
  ({ fanArmed with thermal := { fanArmed.thermal with windowLeft := 1000001 } } : State).setTach .fanA
    { resetTach with grace := .running 1 }

/-- TachInputsAndTimers: a grace timer that runs out as a window begins, of a channel that is then armed, and of one
that is not. -/
theorem witness_grace :
    let a := fanInGrace.advance 1
    let expired : TachRecord := { a.thermal.tachs.get .fanA with grace := .runOut }
    fanInGrace.resetHeld = false ∧ (fanInGrace.thermal.tachs.get .fanA).grace = .running 1 ∧
    a.thermal.windowLeft = 1000000 ∧ Armed (a.setTach .fanA expired) .fanA ∧
    ¬ Armed (State.reset.setTach .pump { resetTach with grace := .runOut }) .pump :=
  ⟨rfl, rfl, rfl, ⟨by decide, rfl, by decide, by decide, .inl rfl⟩, fun h => absurd h.duty (by decide)⟩

/-- SamplingMovesTheFireState: in a confirmed state a MANUAL detector enters ALARM. PortResetClearsThePort: a port
whose slot holds an entry loses it. -/
theorem witness_growth_and_removal :
    let spec : WatchSpec := ⟨.cellV, 0, 0, .ge, 0, false, .curtail, some 5, none⟩
    let s : State :=
      { State.reset with
        slots := some ⟨.site, spec, true, false, some 1⟩ :: List.replicate 7 none,
        stack := ⟨[⟨1, .slot 0, .watch, some 5, none, none⟩], 2⟩,
        ports := State.reset.ports.set .site { State.reset.ports.site with lineDetector := .space } }
    ((left (.fireSampling (200 :: List.replicate 15 1) false false) (inFire (manualAlarm 0) .alarm)).map
      fun t => t.fire.causes) = some ⟨false, false, false, true, false⟩ ∧
    ((left (.portReset .site) s).map fun t => t.stack.entries) = some [] := by decide +kernel

/-- LimitsRiseBySweepsAlone: a push and a lapsed age timer publish, an EVENT_MASK does not, and neither does a
CONFIG_WRITE in UNCONFIGURED. -/
theorem witness_publishing_commands :
    let number : Option State → Option Serial := fun t => t.map fun t => t.envelope.publicationNumber
    let aging : State := { live with table := { live.table with ageTimer := .running 1 } }
    number (left (.pushCurtail .site) (asking live .site .pushCurtail [0, 9, 0xFF, 0xFF, 0, 0, 0, 1])) = some 1 ∧
    number (left .ageTimerExpiry aging) = some 1 ∧
    number (left (.eventMask .site) (asking live .site .eventMask [1])) = some 0 ∧
    number (left (.configWrite .site) (asking State.reset .site .configWrite [5, 0, 0, 1, 0])) = some 0 := by
  decide +kernel

/-- ConnectionStaysSound and GridNoticesAndLine: the grid becomes present and absent, and a CLOSED string comes to be
without data and ceases to be. -/
theorem witness_followed_timers :
    let closed : State := connected live .closed
    let aging : State := { closed with table := { closed.table with ageTimer := .running 1 } }
    let blind : State := connected State.reset .closed
    let onGrid : State := { State.reset with conn := { State.reset.conn with linePresent := true } }
    (left (.gridLineChange true) State.reset).map (fun t => t.conn.reconnect) =
      some (.running State.reset.config.reconnectDelay) ∧
    (left (.gridLineChange false) onGrid).map (fun t => t.conn.reconnect) = some .stopped ∧
    (left .ageTimerExpiry aging).map (fun t => t.conn.dataLossOpen) =
      some (.running live.config.dataLossOpenTime) ∧
    (left (.disconnect .site) (asking blind .site .disconnect [])).map (fun t => t.conn.dataLossOpen) =
      some .stopped := by decide +kernel

/-- A part without a configuration in RELEASED, whose fan A waits for a paused retry timer. -/
def fanHeld : State :=
  ({ inFire State.reset .released with
      thermal := { State.reset.thermal with forcing := fireForcing .released CauseSet.empty } } : State).setTach .fanA
    { resetTach with retry := .paused 5 }

/-- DutiesStayFollowed: a part whose forcing follows the fire state; a FIRE_RESET lets go of its fans, and a confirmed
fire takes hold of those of another. -/
theorem witness_forcing :
    DutiesFollow fanHeld ∧
    ((left (.fireReset .site) (asking fanHeld .site .fireReset [])).map fun t =>
      (t.thermal.tachs.fanA.grace, t.thermal.tachs.fanA.retry)) = some (.running 5000000, .running 5) ∧
    ((left (.fireSampling (200 :: List.replicate 15 1) false false) (manualAlarm 0)).map fun t =>
      t.thermal.forcing.get .fanA) = some (some 0) := by
  refine ⟨{
    forcing := fun c => by cases c <;> rfl
    unconfigured := fun _ c => by cases c <;> rfl
    forced := nofun
    manual := nofun
    automatic := nofun
    shadow := fun c => by cases c <;> rfl
    modes := fun c => by cases c <;> decide
    damper := by decide
    lost := by unfold State.faulted; decide
    normal := by unfold State.faulted; decide }, ?_⟩
  decide +kernel

/-- A CONFIGURED part whose fan A runs at a duty of 300, with the pump's grace timer running, and whose MANUAL detector 0
is about to enter ALARM. -/
def fanRunning : State :=
  let s := manualAlarm 0
  ({ s with
    config := { s.config with configured := true },
    table := live.table,
    thermal := { s.thermal with
      channels := { s.thermal.channels with fanA := ⟨.manual, some 300, 0, 300, 300, 300⟩ }
      damperOpen := true } } : State).setTach .pump { resetTach with grace := .running 5000000 }

/-- DutiesStayFollowed: a confirmed fire stops a running fan and closes the damper at once, and a grace timer that the
forcing does not touch runs on; a fan that starts at a period start has its grace timer started. -/
theorem witness_fan_stops :
    DutiesFollow fanRunning ∧
    ((left (.fireSampling (200 :: List.replicate 15 1) false false) fanRunning).map fun t =>
      (t.thermal.channels.fanA.active, t.thermal.damperOpen, t.thermal.tachs.pump.grace)) =
        some (0, false, .running 4900000) ∧
    ((left .pwmPeriodStart fanStarting).map fun t => t.thermal.tachs.fanA.grace) = some (.running 5000000) := by
  refine ⟨{
    forcing := fun c => by cases c <;> rfl
    unconfigured := nofun
    forced := fun _ c d h => by cases c <;> cases h
    manual := fun _ c _ h => by cases c <;> first | rfl | cases h
    automatic := fun _ c _ h => by cases c <;> first | rfl | cases h
    shadow := fun c => by cases c <;> rfl
    modes := fun c => by cases c <;> decide
    damper := by decide
    lost := by unfold State.faulted; decide
    normal := by unfold State.faulted; decide }, ?_⟩
  decide +kernel

/-- A part with a string current of 5 A and three slots on it: one that curtails, one to be told of its end, and one to
be told of its beginning. -/
def watching : State :=
  let spec : WatchSpec := ⟨.stringI, 0, 0, .ge, 3, false, .curtail, some 5, none⟩
  { live with
    table := { live.table with string := ⟨5, 0, .known⟩ },
    slots :=
      [some ⟨.site, spec, false, false, none⟩,
        some ⟨.conv, { spec with comparison := .lt, action := .notifyBoth, chargeCap := none }, true, false, none⟩,
        some ⟨.util, { spec with action := .notifyRise, chargeCap := none }, false, false, none⟩] ++
        List.replicate 5 none }

/-- ExchangeEndGoesOnOrCompletes: what an evaluation finds on those slots. -/
theorem witness_watch_conditions :
    let now : Nat → Bool := fun k => decide (k = 0 ∨ k = 2)
    let curtails : Nat → Bool := fun k => decide (k = 0)
    watching.slots.length = 8 ∧
    (∀ k c, watching.claim k = some c → (now k = true ↔ EffectiveCondition watching k c)) ∧
    (∀ k, curtails k = true ↔
      ¬ ChainedFromAbove watching k ∧ ∃ c, watching.claim k = some c ∧ c.spec.action = .curtail) := by
  have known : watching.table.string.state = .known ∨ watching.table.string.state = .stale := .inl rfl
  have beyond : ∀ k, watching.claim (k + 3) = none := fun k => by
    match k with
    | 0 | 1 | 2 | 3 | 4 => rfl
    | _ + 5 => rfl
  have unchained : ∀ k, ¬ ChainedFromAbove watching k := by
    rintro _ ⟨j, c, rfl, h, hc⟩
    match j with
    | 0 | 1 | 2 => cases h; cases hc
    | j + 3 => rw [beyond j] at h; cases h
  refine ⟨rfl, fun k c h => ?_, fun k => ?_⟩
  · match k with
    | 0 | 2 =>
      cases h
      exact iff_of_true rfl ⟨⟨0, by decide, by decide, 5, ⟨known, rfl⟩, (by decide : (3 : Int) ≤ 5)⟩, nofun⟩
    | 1 =>
      cases h
      refine iff_of_false nofun ?_
      rintro ⟨⟨i, -, -, v, ⟨-, rfl⟩, lower⟩, -⟩
      exact absurd lower (by decide : ¬ (5 : Int) < 3)
    | k + 3 => rw [beyond k] at h; cases h
  · match k with
    | 0 => exact iff_of_true rfl ⟨unchained 0, _, rfl, rfl⟩
    | 1 | 2 =>
      refine iff_of_false nofun ?_
      rintro ⟨-, c, h, hc⟩
      cases h; cases hc
    | k + 3 =>
      refine iff_of_false nofun ?_
      rintro ⟨-, c, h, -⟩
      rw [beyond k] at h; cases h

/-- ExchangeEndGoesOnOrCompletes: the first slot pushes, and the other two are told; a push at a full stack is refused
to SITE, and displaces for UTIL. -/
theorem witness_watch_evaluation :
    let full : State := { watching with stack := siteStack 8 }
    watching.evaluateWatch.st.stack.entries = [⟨1, .slot 0, .watch, some 5, none, none⟩] ∧
    watching.evaluateWatch.raised = [directed .conv (.watchCleared 1), directed .util (.watchHit 2 0)] ∧
    (full.pushSlot 0).raised = [directed .site (.watchStarved 0)] ∧
    (full.pushSlot 2).raised = [directed .site (.curtailDisplaced 1 9)] ∧
    full.stack.entries = [] ++ ⟨1, .port .site, .direct, some 10, none, none⟩ :: (siteStack 8).entries.drop 1 := by
  decide +kernel

/-- A part with one cell monitor of four cells whose last exchange of a sweep is awaited, with string readings, in a
connection state. -/
def completing (c : Connection) (dcLink : Nat) : State :=
  let s := connected (withItems live [(1, .scalar 1), (2, .scalar 4), (83, .scalar 950)]) c
  { s with
    chain := { chainIn .single .sweeping .awaitingReply true with
      buffer := some ⟨.good (.stringMonitor 5 dcLink), 0⟩ :: List.replicate 32 none } }

/-- ExchangeEndGoesOnOrCompletes: a completion at which a hard limit locks the string out, one at which the precharge
test passes, one that ends a wait, and one that moves nothing. -/
theorem witness_completion :
    let after : State → List Nat → Connection := fun s codes =>
      (s.endExchange ⟨1, true, false, 0⟩ (.good (.cellMonitor codes [60, 60, 60, 60]))).conn.connection
    after (completing .closed 130) [3300, 3300, 3300, 5000] = .lockedOut .hardLimit ∧
    after (completing (.precharging .charging) 130) [3300, 3300, 3300, 3300] = .closing ∧
    after (completing (.precharging .charging) 125) [3300, 3300, 3300, 3300] = .precharging .charging ∧
    after (completing (.opening .normal .wait) 130) [3300, 3300, 3300, 3300] ≠ .opening .normal .wait ∧
    (completing .closed 130).chain.activity = .sweeping ∧ (completing .closed 130).config.monitorCount = 1 := by
  decide +kernel

/-- ConfigAcceptStartsThePart: the defaults fail row 1, and with a monitor count of 1 they pass every row before check 7
and fail that. -/
theorem witness_failing_checks :
    let c := (withItems State.reset [(1, .scalar 1)]).config
    State.reset.config.firstFailure = some (1, 0) ∧ ¬ 1 ≤ State.reset.config.monitorCount ∧
    c.firstFailure = some (7, 0) ∧ 1 ≤ c.monitorCount ∧ c.dischargeFloor < c.dischargeTaper ∧
    c.chargeTaper < c.chargeCeiling ∧ c.chargeCeiling ≤ c.hardMax ∧ c.hardMin ≤ c.dischargeFloor ∧
    ¬ (∃ i < 16, c.detectorKind i = .offgas ∨ c.detectorKind i = .smoke) := by decide +kernel

/-- ReadNextReturnsRecords: a record of each bank at its last index, an entry of the stack, and a slot read by its owner
and by another port. EventRequestsOfThePort: R192's worked places of a CONNECTION_STATE with an owner-directed event
beside it. -/
theorem witness_records :
    let s : State := { watching with stack := siteStack 8 }
    s.table.cells[383]? = some ⟨0, .unknown, false, false⟩ ∧ s.table.points[127]? = some ⟨0, .unknown, false⟩ ∧
    s.chain.records[32]? = some ⟨.unconfigured, 0, none, none⟩ ∧
    s.stack.entries[7]? = some ⟨8, .port .site, .direct, some 10, none, none⟩ ∧ s.claim 7 = none ∧
    s.recordBytes .util 5 7 = [8, 1, 0, 0, 10, 255, 255, 255, 255, 255, 255] ∧
    s.recordBytes .site 6 0 = [1, 2, 0, 0, 0, 0, 0, 0, 3, 2, 0, 5, 255, 255, 0, 0] ∧
    s.recordBytes .util 6 0 = 2 :: List.replicate 15 0 ∧
    (⟨.connectionState (.lockedOut .contactor) .contactor, 1, 2⟩ : EventRecord).bytes =
      [0x10, 1, 2, 0, 0, 5, 255, 2, 7, 0, 0, 0, 1, 0, 2] ∧
    (⟨.curtailDisplaced 3 9, 1, 2⟩ : EventRecord).bytes = [0x61, 5, 3, 0, 3, 0, 0, 0, 9, 0, 0, 0, 1, 0, 2] := by
  decide +kernel

end Sys2Proof.Tests
end

section
/-! The operating envelope (Chapter 3): the curve of R51, the lowest cap and the governing entry of R55 and R60, the
stages of a publication, and the statements about them. -/

namespace Sys2Proof.Machine

/-! ### Curves (R51) -/

theorem curveFrom_below_next (t0 y0 : Int) (next : Int × Int) (rest : List (Int × Int)) {t : Int} (h : t < next.1) :
    curveFrom t0 y0 (next :: rest) t = y0 + (next.2 - y0) * (t - t0) / (next.1 - t0) :=
  if_pos h

/-- At its own breakpoint a curve has the breakpoint's value: nothing is added to it. -/
theorem curveFrom_self (a : Int × Int) (rest : List (Int × Int)) (h : ∀ b ∈ rest, a.1 < b.1) :
    curveFrom a.1 a.2 rest a.1 = a.2 := by
  cases rest with
  | nil => rfl
  | cons b rest => simp [curveFrom_below_next a.1 a.2 b rest (h b List.mem_cons_self)]

/-- Breakpoints at or below the temperature are passed over. -/
theorem curveFrom_append (t0 y0 : Int) (before : List (Int × Int)) (a : Int × Int) (after : List (Int × Int)) {t : Int}
    (hbefore : ∀ b ∈ before, b.1 ≤ t) (ha : a.1 ≤ t) :
    curveFrom t0 y0 (before ++ a :: after) t = curveFrom a.1 a.2 after t := by
  induction before generalizing t0 y0 with
  | nil => exact if_neg (Int.not_lt.2 ha)
  | cons b before ih =>
    obtain ⟨hb, hbefore⟩ := List.forall_mem_cons.1 hbefore
    exact (if_neg (Int.not_lt.2 hb)).trans (ih b.1 b.2 hbefore)

theorem envelopeCurve_below_first (first : Int × Int) (rest : List (Int × Int)) {t : Int} (h : t < first.1) :
    envelopeCurve (first :: rest) t = first.2 :=
  if_pos h

/-- From a breakpoint on, a rising curve depends on that breakpoint and the ones above it alone. -/
theorem envelopeCurve_append {before : List (Int × Int)} {a : Int × Int} {after : List (Int × Int)} {t : Int}
    (rising : (before ++ a :: after).Pairwise fun x y => x.1 < y.1) (ha : a.1 ≤ t) :
    envelopeCurve (before ++ a :: after) t = curveFrom a.1 a.2 after t := by
  have hbefore : ∀ b ∈ before, b.1 ≤ t := fun b hb =>
    ((List.pairwise_append.1 rising).2.2 b hb a List.mem_cons_self).le.trans ha
  cases before with
  | nil => exact if_neg (Int.not_lt.2 ha)
  | cons b before =>
    obtain ⟨hb, hbefore⟩ := List.forall_mem_cons.1 hbefore
    exact (if_neg (Int.not_lt.2 hb)).trans (curveFrom_append b.1 b.2 before a after hbefore ha)

/-- The floored share p/q of a step from y0 to y1 ends between the two, whichever way the step goes. -/
theorem interpolation_between (y0 y1 p q : Int) (hp : 0 ≤ p) (hpq : p ≤ q) (hq : 0 < q) :
    min y0 y1 ≤ y0 + (y1 - y0) * p / q ∧ y0 + (y1 - y0) * p / q ≤ max y0 y1 := by
  obtain rising | falling := le_total y0 y1
  · have hlow : 0 ≤ (y1 - y0) * p / q := Int.ediv_nonneg (mul_nonneg (by omega) hp) hq.le
    have hhigh : (y1 - y0) * p / q ≤ y1 - y0 :=
      Int.ediv_le_of_le_mul hq (mul_le_mul_of_nonneg_left hpq (by omega))
    omega
  · have hlow : y1 - y0 ≤ (y1 - y0) * p / q :=
      (Int.le_ediv_iff_mul_le hq).2 (mul_le_mul_of_nonpos_left hpq (by omega))
    have hhigh : (y1 - y0) * p / q ≤ 0 :=
      Int.ediv_nonpos_of_nonpos_of_neg (mul_nonpos_of_nonpos_of_nonneg (by omega) hp) hq
    omega

/-- Settles O49: the curve is cut at the breakpoint at or below the temperature. -/
theorem curveInterpolatesBetweenBreakpoints : Obligations.CurveInterpolatesBetweenBreakpoints := by
  intro points t rising
  refine ⟨?belowFirst, ?aboveLast, ?atBreakpoint, ?between⟩
  case belowFirst =>
    rintro first rest rfl h
    exact envelopeCurve_below_first first rest h
  case aboveLast =>
    intro last hlast h
    obtain ⟨before, rfl⟩ := List.getLast?_eq_some_iff.1 hlast
    exact envelopeCurve_append rising h.le
  case atBreakpoint =>
    rintro b hb rfl
    obtain ⟨before, after, rfl⟩ := List.append_of_mem hb
    have hafter := (List.pairwise_cons.1 (List.pairwise_append.1 rising).2.1).1
    rw [envelopeCurve_append rising le_rfl, curveFrom_self b after hafter]
  case between =>
    rintro before a b after rfl ha hb
    rw [envelopeCurve_append rising ha.le, curveFrom_below_next a.1 a.2 b after hb]
    exact ⟨rfl, interpolation_between a.2 b.2 (t - a.1) (b.1 - a.1) (by omega) (by omega) (by omega)⟩

/-! ### The lowest cap and the governing entry (R55, R60) -/

theorem lowestCap_eq_min? (d : Direction) (es : List Entry) :
    lowestCap d es = (es.filterMap (Entry.cap d)).min? := by
  induction es with
  | nil => rfl
  | cons e es ih =>
    rw [lowestCap, ih, List.filterMap_cons]
    cases e.cap d with
    | none => rfl
    | some c => cases h : (es.filterMap (Entry.cap d)).min? <;> simp [List.min?_cons, h]

theorem lowestCap_eq_none_iff (d : Direction) (es : List Entry) :
    lowestCap d es = none ↔ ∀ e ∈ es, e.cap d = none := by
  rw [lowestCap_eq_min?, List.min?_eq_none_iff, List.filterMap_eq_nil_iff]

theorem lowestCap_eq_some_iff (d : Direction) (es : List Entry) (low : Nat) :
    lowestCap d es = some low ↔
      (∃ e ∈ es, e.cap d = some low) ∧ ∀ e ∈ es, ∀ c, e.cap d = some c → low ≤ c := by
  rw [lowestCap_eq_min?, List.min?_eq_some_iff, List.mem_filterMap]
  refine and_congr_right fun _ => ⟨fun h e he c hc => h c (List.mem_filterMap.2 ⟨e, he, hc⟩), fun h c hc => ?_⟩
  obtain ⟨e, he, hc⟩ := List.mem_filterMap.1 hc
  exact h e he c hc

theorem cappedLimit_lowestCap (raw : Nat) (d : Direction) (es : List Entry) :
    cappedLimit raw (lowestCap d es) = (es.filterMap (Entry.cap d)).foldl min raw := by
  rw [lowestCap_eq_min?, List.foldl_min]
  cases (es.filterMap (Entry.cap d)).min? with
  | none => exact (min_self raw).symm
  | some c => rfl

/-- Of the entries whose cap is the lowest, the topmost one governs. -/
theorem governing_of_topmost (d : Direction) (below : List Entry) (e : Entry) (above : List Entry) (cap : Nat)
    (he : e.cap d = some cap) (hbelow : ∀ x ∈ below, ∀ c, x.cap d = some c → cap ≤ c)
    (habove : ∀ x ∈ above, ∀ c, x.cap d = some c → cap < c) :
    governing d (below ++ e :: above) = some ⟨e.handle, e.owner⟩ := by
  have hlow : lowestCap d (below ++ e :: above) = some cap := by
    refine (lowestCap_eq_some_iff d _ cap).2 ⟨⟨e, by simp, he⟩, fun x hx c hc => ?_⟩
    obtain hx | rfl | hx : x ∈ below ∨ x = e ∨ x ∈ above := by simpa using hx
    · exact hbelow x hx c hc
    · exact (Option.some.inj (he.symm.trans hc)).le
    · exact (habove x hx c hc).le
  have hfind : (below ++ e :: above).reverse.find? (fun x => decide (x.cap d = some cap)) = some e := by
    refine List.find?_eq_some_iff_append.2 ⟨by simpa using he, above.reverse, below.reverse, by simp, fun x hx => ?_⟩
    have hne : x.cap d ≠ some cap := fun hc => (habove x (List.mem_reverse.1 hx) cap hc).false
    simpa using hne
  simp only [governing, hlow, hfind]

theorem governing_eq_none_iff (d : Direction) (es : List Entry) :
    governing d es = none ↔ ∀ e ∈ es, e.cap d = none := by
  rw [← lowestCap_eq_none_iff]
  cases hlow : lowestCap d es with
  | none => simp [governing, hlow]
  | some low =>
    obtain ⟨⟨e, he, hcap⟩, -⟩ := (lowestCap_eq_some_iff d es low).1 hlow
    cases hfind : es.reverse.find? fun e => decide (e.cap d = some low) with
    | none => exact absurd hcap (by simpa using List.find?_eq_none.1 hfind e (List.mem_reverse.2 he))
    | some e => simp [governing, hlow, hfind]

/-! ### Gates (R56) -/

theorem State.fireConfirmed_iff (s : State) : s.fireConfirmed ↔ s.fire.status.confirmed = true := by
  unfold State.fireConfirmed
  cases s.fire.status <;> decide

theorem State.gates_fire_iff (s : State) (d : Direction) :
    (s.gates d).fire = true ↔ s.fireConfirmed ∨ d = .charge ∧ s.fire.status = .watch := by
  simp [State.gates, State.fireConfirmed_iff]

theorem State.gates_permission_iff (s : State) (d : Direction) :
    (s.gates d).permission = true ↔ s.conn.acPermission = false := by
  simp [State.gates]

theorem State.gates_unconfigured_iff (s : State) (d : Direction) :
    (s.gates d).unconfigured = true ↔ s.config.configured = false := by
  simp [State.gates]

@[simp] theorem State.gates_dataLoss (s : State) (d : Direction) : (s.gates d).dataLoss = s.table.dataLoss.holds := rfl

theorem State.gated_iff (s : State) (d : Direction) :
    s.gated d = true ↔ s.bothGated ∨ d = .charge ∧ s.fire.status = .watch := by
  simp only [State.gated, Bool.or_eq_true, State.gates_fire_iff, State.gates_permission_iff,
    State.gates_unconfigured_iff, State.gates_dataLoss, State.bothGated]
  tauto

theorem State.gated_charge_iff (s : State) : s.gated .charge = true ↔ s.bothGated ∨ s.fire.status = .watch := by
  simp [State.gated_iff]

theorem State.gated_discharge_iff (s : State) : s.gated .discharge = true ↔ s.bothGated := by
  simp [State.gated_iff]

/-- The causes of the gates are told by four members; the others are those of the stages before (R56, R59). -/
theorem State.gates_members (s : State) (d : Direction) :
    (s.gates d).voltage = false ∧ (s.gates d).temperature = false ∧ (s.gates d).cooling = false ∧
    (s.gates d).detection = false ∧ (s.gates d).curtail = false ∧ (s.gates d).rise = false ∧
    ((s.gates d).fire = true ↔ s.fireConfirmed ∨ d = .charge ∧ s.fire.status = .watch) ∧
    ((s.gates d).permission = true ↔ s.conn.acPermission = false) ∧
    (s.gates d).dataLoss = s.table.dataLoss.holds ∧
    ((s.gates d).unconfigured = true ↔ s.config.configured = false) :=
  ⟨rfl, rfl, rfl, rfl, rfl, rfl, s.gates_fire_iff d, s.gates_permission_iff d, rfl, s.gates_unconfigured_iff d⟩

/-! ### Stages of a publication (R49 to R57, R59) -/

section
variable {s : State} {d : Direction}

theorem State.newLimit_of_gated (h : s.gated d = true) (kind : PublicationKind) (previous : Nat) :
    s.newLimit d kind previous = 0 :=
  if_pos h

theorem State.newSet_of_gated (h : s.gated d = true) (kind : PublicationKind) (previous : Nat) :
    s.newSet d kind previous = s.gates d :=
  if_pos h

/-- Without a gate the limit is the raw limit of the factors under every cap and under the rise ceiling (R54, R55,
R57), and the limiting set names the stages that lowered it (R59). -/
theorem State.newLimit_newSet_of_ungated (h : s.gated d ≠ true) (f : Factors) (hf : s.factors d = f)
    (kind : PublicationKind) (previous : Nat) :
    let raw := ((s.config.ratedCurrent : Int) * f.combined / 1000).toNat
    let capped := (s.stack.entries.filterMap (Entry.cap d)).foldl min raw
    let ceiling := riseCeiling s.config kind previous
    s.newLimit d kind previous = min capped ceiling ∧
    s.newSet d kind previous =
      { voltage := decide (f.voltage < 1000 ∧ f.voltage ≤ f.temperature),
        temperature := decide (f.temperature < 1000 ∧ f.temperature ≤ f.voltage),
        cooling := decide (f.cooling < 1000), detection := decide (f.detection < 1000),
        curtail := decide (capped < raw), rise := decide (ceiling < capped), fire := false,
        permission := false, dataLoss := false, unconfigured := false } := by
  subst hf
  intro raw capped ceiling
  have hcapped : s.computedLimit d = capped := cappedLimit_lowestCap raw d s.stack.entries
  constructor
  · rw [State.newLimit, if_neg h, hcapped]
  · rw [State.newSet, if_neg h, hcapped]
    simp only [Bool.decide_and]
    rfl

end

theorem State.factors_charge {s : State} {v low high : Int} {i j k : Nat}
    (hv : s.table.aggregates.vmax = some (v, i)) (hlow : s.table.aggregates.tmin = some (low, j))
    (hhigh : s.table.aggregates.tmax = some (high, k)) :
    s.factors .charge =
      { voltage := chargeVoltageFactor s.config (some (v, i)),
        temperature := min (envelopeCurve s.config.chargeCurve low) (envelopeCurve s.config.chargeCurve high),
        cooling := coolingFactor s.config s.thermal.cooling,
        detection := if s.fire.impaired then s.config.detectionCharge else 1000 } := by
  simp only [State.factors, temperatureFactor, hv, hlow, hhigh]

theorem State.factors_discharge {s : State} {v low high : Int} {i j k : Nat}
    (hv : s.table.aggregates.vmin = some (v, i)) (hlow : s.table.aggregates.tmin = some (low, j))
    (hhigh : s.table.aggregates.tmax = some (high, k)) :
    s.factors .discharge =
      { voltage := dischargeVoltageFactor s.config (some (v, i)),
        temperature :=
          min (envelopeCurve s.config.dischargeCurve low) (envelopeCurve s.config.dischargeCurve high),
        cooling := coolingFactor s.config s.thermal.cooling,
        detection := if s.fire.impaired then s.config.detectionDischarge else 1000 } := by
  simp only [State.factors, temperatureFactor, hv, hlow, hhigh]

theorem State.lines_zeroLimit_iff (s : State) :
    s.lines.zeroLimit = true ↔ s.envelope.record.chargeLimit = 0 ∧ s.envelope.record.dischargeLimit = 0 := by
  simp [State.lines, State.zeroLimit]

/-- Settles O50: a gated direction takes the gates' branch, and an ungated one the stages over its factors. -/
theorem publicationComputesTheRecord : Obligations.PublicationComputesTheRecord := by
  refine ⟨fun s kind => ?record, fun s kind => ?governingEntries, State.lines_zeroLimit_iff⟩
  case record =>
    have chargeGated := s.gated_charge_iff
    have dischargeGated := s.gated_discharge_iff
    refine ⟨rfl, rfl, rfl, rfl, rfl, rfl, rfl, ?bothLimits, ?watchLimit, ?chargeGates, ?dischargeGates,
      fun low j high k ungated hlow hhigh => ⟨?chargeStages, ?dischargeStages⟩⟩
    case bothLimits =>
      exact fun both => ⟨State.newLimit_of_gated (chargeGated.2 (.inl both)) kind _,
        State.newLimit_of_gated (dischargeGated.2 both) kind _⟩
    case watchLimit => exact fun watch => State.newLimit_of_gated (chargeGated.2 (.inr watch)) kind _
    case chargeGates =>
      intro gate
      have hset : (s.publish kind).envelope.record.chargeSet = s.gates .charge :=
        State.newSet_of_gated (chargeGated.2 gate) kind _
      rw [hset]
      simpa using s.gates_members .charge
    case dischargeGates =>
      intro both
      have hset : (s.publish kind).envelope.record.dischargeSet = s.gates .discharge :=
        State.newSet_of_gated (dischargeGated.2 both) kind _
      rw [hset]
      simpa using s.gates_members .discharge
    case chargeStages =>
      intro v i noWatch hv
      exact State.newLimit_newSet_of_ungated (fun gate => (chargeGated.1 gate).elim ungated noWatch) _
        (State.factors_charge hv hlow hhigh) kind _
    case dischargeStages =>
      intro v i hv
      exact State.newLimit_newSet_of_ungated (fun gate => ungated (dischargeGated.1 gate)) _
        (State.factors_discharge hv hlow hhigh) kind _
  case governingEntries =>
    refine ⟨governing_eq_none_iff .charge _, governing_eq_none_iff .discharge _, ?_, ?_⟩
    · intro below e above cap split he hbelow habove
      exact (congrArg (governing .charge) split).trans
        (governing_of_topmost .charge below e above cap he hbelow habove)
    · intro below e above cap split he hbelow habove
      exact (congrArg (governing .discharge) split).trans
        (governing_of_topmost .discharge below e above cap he hbelow habove)

end Sys2Proof.Machine
end

section
/-! Fire detection and suppressant release (Chapter 7): the site hold request, the entry into RELEASED, the RELEASE
output, the reset of a fire, and the statements about them. -/

namespace Sys2Proof.Machine

/-! ### A request answered by an event (R166) -/

/-- A response placed after its request has left the queue is the answer of `State.answered`. -/
theorem State.setPort_taken_respond (u : State) (p : Port) (kind : Byte) (o : Reply) (b : List Byte) :
    (u.setPort p (u.ports.get p).taken).respond p kind o b = u.answered p kind o b := by
  cases p <;> rfl

/-- A taken request whose block answers by an event that keeps the ports leaves what the event leaves, answered. -/
theorem Takes.eventAnswered {s u : State} {p : Port} {k : RequestKind} {body : List Byte} (h : Takes s p k body)
    {act : List Byte → PortState → State → Answer} {o : Reply} {b : List Byte} {w : Publication}
    {told : List Raised} (ports : u.ports = s.ports)
    (answer : act body (s.ports.get p).taken (s.setPort p (s.ports.get p).taken) =
      .event o b w ⟨u.setPort p (s.ports.get p).taken, told⟩) :
    EventLeaves (u.answered p k.code o b) told (s.running fun s => s.serve p k act) := by
  rw [← u.setPort_taken_respond, ports]
  exact h.event answer

/-! ### The hold (R130, R131) -/

theorem FireControl.applyHold_of_countdown {f : FireControl} (status : f.status = .countdown) (hold : f.hold = true)
    (c : ConfigSet) : f.applyHold c = { f with status := .held, countdown := .stopped } := by
  simp [FireControl.applyHold, status, hold]

theorem FireControl.applyHold_of_held {f : FireControl} (status : f.status = .held) (hold : f.hold = false)
    (c : ConfigSet) :
    f.applyHold c = { f with status := .countdown, countdown := .running c.releaseDelay } := by
  simp [FireControl.applyHold, status, hold]

/-- The hold moves COUNTDOWN and HELD alone, and each of them only against it. -/
theorem FireControl.applyHold_of_agreeing {f : FireControl} (countdown : f.status = .countdown → f.hold = false)
    (held : f.status = .held → f.hold = true) (c : ConfigSet) : f.applyHold c = f := by
  unfold FireControl.applyHold
  split
  case h_1 status => simp [countdown status]
  case h_2 status => simp [held status]
  all_goals rfl

theorem FireControl.hold_of_siteHold {f : FireControl} (site : f.siteHold = true) : f.hold = true := by
  simp [FireControl.hold, site]

theorem FireControl.hold_without_siteHold (f : FireControl) :
    ({ f with siteHold := false } : FireControl).hold = f.holdSample := Bool.or_false _

/-- HOLD_SET (R130, R131): a hold that becomes active stops a countdown. -/
theorem FireControl.setSiteHold_eq (f : FireControl) (c : ConfigSet) :
    f.setSiteHold c =
      if f.siteHold = true then f
      else if f.status = .countdown then { f with siteHold := true, status := .held, countdown := .stopped }
      else { f with siteHold := true } := by
  unfold FireControl.setSiteHold
  have active : ({ f with siteHold := true } : FireControl).hold = true := FireControl.hold_of_siteHold rfl
  split
  case isTrue => rfl
  case isFalse =>
    split
    case isTrue counting =>
      exact FireControl.applyHold_of_countdown (f := { f with siteHold := true }) counting active c
    case isFalse other =>
      exact FireControl.applyHold_of_agreeing (f := { f with siteHold := true })
        (fun counting => absurd counting other) (fun _ => active) c

/-- HOLD_CLEAR (R130, R131): a hold that becomes inactive starts the countdown again with the full delay. -/
theorem FireControl.dropSiteHold_eq (f : FireControl) (c : ConfigSet)
    (sound : f.status = .countdown → f.hold = false) :
    f.dropSiteHold c =
      if f.siteHold = false then f
      else if f.status = .held ∧ f.holdSample = false then
        { f with siteHold := false, status := .countdown, countdown := .running c.releaseDelay }
      else { f with siteHold := false } := by
  unfold FireControl.dropSiteHold
  cases site : f.siteHold with
  | false => simp
  | true =>
    have notCounting : f.status ≠ .countdown := fun counting =>
      absurd ((sound counting).symm.trans (FireControl.hold_of_siteHold site)) Bool.false_ne_true
    simp only [if_true, Bool.true_eq_false, if_false]
    split
    case isTrue ends =>
      obtain ⟨held, sample⟩ := ends
      exact FireControl.applyHold_of_held (f := { f with siteHold := false }) held
        (f.hold_without_siteHold.trans sample) c
    case isFalse goesOn =>
      refine FireControl.applyHold_of_agreeing (f := { f with siteHold := false })
        (fun counting => absurd counting notCounting) (fun held => ?_) c
      rw [f.hold_without_siteHold]
      exact eq_true_of_ne_false fun sample => goesOn ⟨held, sample⟩

/-! ### The release (R131 to R133) -/

theorem answerReleaseNow_enters (s : State) (status : s.fire.status = .alarm ∨ s.fire.status = .countdown)
    (body : List Byte) (q : PortState) : answerReleaseNow body q s = takenBy (s.enterReleased .releaseNow) := by
  unfold answerReleaseNow
  obtain alarm | counting := status
  · rw [alarm]
  · rw [counting]

theorem answerReleaseNow_refuses (s : State)
    (status : s.fire.status = .held ∨ s.fire.status = .quiet ∨ s.fire.status = .watch) (body : List Byte)
    (q : PortState) : answerReleaseNow body q s = refuse .wrongState q := by
  unfold answerReleaseNow
  obtain held | quiet | watch := status
  · rw [held]
  · rw [quiet]
  · rw [watch]

theorem answerReleaseNow_released (s : State) (status : s.fire.status = .released) (body : List Byte)
    (q : PortState) : answerReleaseNow body q s = .atPort .ok [] q := by
  unfold answerReleaseNow
  rw [status]

/-- COUNTDOWN_EXPIRY (R131, R133): the time left passes, and RELEASED is entered. -/
theorem execCountdownExpiry_of_running {s : State} {left : Nat} (running : s.resetHeld = false)
    (status : s.fire.status = .countdown) (timer : s.fire.countdown = .running left) :
    exec .countdownExpiry s = .next ((s.advance left).event fun a => a.enterReleased .countdown) := by
  change Host.Outcome.next (s.running _) = _
  rw [State.running_of s running, if_pos status, timer, Timer.due_running, State.after_some]

theorem execCountdownExpiry_of_not_countdown {s : State} (running : s.resetHeld = false)
    (status : s.fire.status ≠ .countdown) : exec .countdownExpiry s = .next s := by
  change Host.Outcome.next (s.running _) = _
  rw [State.running_of s running, if_neg status]

/-- RELEASE_PULSE_END (R111): the time left passes, and no pulse runs. -/
theorem execReleasePulseEnd_of_running {s : State} {left : Nat} (running : s.resetHeld = false)
    (timer : s.thermal.releasePulse = .running left) :
    exec .releasePulseEnd s =
      .next { s.advance left with thermal := { (s.advance left).thermal with releasePulse := .stopped } } := by
  change Host.Outcome.next (s.running _) = _
  rw [State.running_of s running, timer, Timer.due_running, State.after_some]

theorem Timer.isRunning_iff (t : Timer) : t.isRunning = true ↔ ∃ left, t = .running left := by
  cases t with
  | running left => exact iff_of_true rfl ⟨left, rfl⟩
  | stopped | paused _ | runOut => simp [Timer.isRunning]

/-- The RELEASE output (R111): at its active level exactly while a pulse runs, high unless the polarity is
ACTIVE_LOW. -/
theorem State.lines_release_iff (s : State) :
    s.lines.release = true ↔
      ((∃ left, s.thermal.releasePulse = .running left) ↔ s.thermal.pwm.releaseActiveLow = false) := by
  rw [← Timer.isRunning_iff]
  change (s.thermal.releasePulse.isRunning ^^ s.thermal.pwm.releaseActiveLow) = true ↔ _
  cases s.thermal.releasePulse.isRunning <;> cases s.thermal.pwm.releaseActiveLow <;> decide

/-- Settles O29: each request and each timer's end is answered by its branch of the model, and the hold acts by
`FireControl.setSiteHold_eq` and `FireControl.dropSiteHold_eq`. -/
theorem holdAndRelease : Obligations.HoldAndRelease := by
  refine ⟨fun s p => ⟨fun taken => ?holdSet, fun taken sound => ?holdClear⟩,
    fun s => ⟨fun p taken => ⟨fun entering => ?releases, fun other => ?refuses, fun released => ?already⟩,
      fun running => ⟨fun left counting timer => ?expires, execCountdownExpiry_of_not_countdown running,
        fun left timer => execReleasePulseEnd_of_running running timer⟩⟩,
    State.lines_release_iff⟩
  case holdSet =>
    rw [← FireControl.setSiteHold_eq]
    exact ⟨_, rfl, taken.eventAnswered rfl rfl⟩
  case holdClear =>
    rw [← FireControl.dropSiteHold_eq s.fire s.config sound]
    exact ⟨_, rfl, taken.eventAnswered rfl rfl⟩
  case releases => exact ⟨_, rfl, taken.eventAnswered rfl (answerReleaseNow_enters (s.setPort p _) entering _ _)⟩
  case refuses => exact congrArg Host.Outcome.next (taken.refused (answerReleaseNow_refuses (s.setPort p _) other _ _))
  case already =>
    exact congrArg Host.Outcome.next (taken.refused (answerReleaseNow_released (s.setPort p _) released _ _))
  case expires =>
    exact ⟨_, execCountdownExpiry_of_running running counting timer,
      State.settle_leaves (s.advance left) .ifChanged ((s.advance left).enterReleased .countdown)⟩

/-! ### The reset of a fire (R134) -/

/-- One detector blocks a FIRE_RESET when it is in service and its level, in range, is not below its pre threshold. -/
theorem resetLevelOk_eq_false_iff (c : ConfigSet) (k : DetectorKind) (d : Detector) :
    resetLevelOk c k d = false ↔
      inService k d = true ∧ 1 ≤ d.level ∧ d.level ≤ 254 ∧ c.preThreshold k ≤ d.level := by
  simp [resetLevelOk, inRange, and_assoc]

theorem FireControl.resetAllowed_eq_false_iff (f : FireControl) (c : ConfigSet) :
    f.resetAllowed c = false ↔
      ∃ i < 16, inService (c.detectorKind i) (f.detector i) = true ∧ 1 ≤ (f.detector i).level ∧
        (f.detector i).level ≤ 254 ∧ c.preThreshold (c.detectorKind i) ≤ (f.detector i).level := by
  simp only [FireControl.resetAllowed, List.all_eq_false, List.mem_range, Bool.not_eq_true,
    resetLevelOk_eq_false_iff]

theorem Detector.fireReset_eq (d : Detector) :
    d.fireReset =
      if d.state = .alarm ∨ d.state = .pre then { d with state := .normal, preRun := 0, alarmRun := 0, clearRun := 0 }
      else d := by
  unfold Detector.fireReset
  cases d.state <;> rfl

theorem FireControl.reset_eq (f : FireControl) :
    f.reset =
      { f with
        detectors := f.detectors.map fun d =>
          if d.state = .alarm ∨ d.state = .pre then
            { d with state := .normal, preRun := 0, alarmRun := 0, clearRun := 0 }
          else d,
        panelLatch := false, panelRun := 0, countdown := .stopped, status := .quiet,
        causes := ⟨false, false, false, false, false⟩ } := by
  simp only [← Detector.fireReset_eq]
  rfl

theorem answerFireReset_unconfirmed (s : State) (status : ¬ s.fireConfirmed) (body : List Byte) (q : PortState) :
    answerFireReset body q s = .atPort .ok [] q := by
  simp [answerFireReset, mt s.fireConfirmed_iff.2 status]

theorem answerFireReset_refuses (s : State) (status : s.fireConfirmed) (level : s.fire.resetAllowed s.config = false)
    (body : List Byte) (q : PortState) : answerFireReset body q s = refuse .wrongState q := by
  simp [answerFireReset, s.fireConfirmed_iff.1 status, level]

theorem answerFireReset_resets (s : State) (status : s.fireConfirmed) (level : s.fire.resetAllowed s.config = true)
    (body : List Byte) (q : PortState) :
    answerFireReset body q s = takenBy (Change.quiet { s with fire := s.fire.reset }) := by
  simp [answerFireReset, s.fireConfirmed_iff.1 status, level]

/-- Settles O30: the blocking levels are those that fail the model's level test, and a reset that none of them blocks
is `FireControl.reset`. -/
theorem fireResetEndsTheFire : Obligations.FireResetEndsTheFire := by
  intro s p taken
  refine ⟨fun status => ?unconfirmed, fun status blocked => ?refuses, fun status free => ?resets⟩
  case unconfirmed =>
    exact congrArg Host.Outcome.next (taken.refused (answerFireReset_unconfirmed (s.setPort p _) status _ _))
  case refuses =>
    have level := (s.fire.resetAllowed_eq_false_iff s.config).2 blocked
    exact congrArg Host.Outcome.next (taken.refused (answerFireReset_refuses (s.setPort p _) status level _ _))
  case resets =>
    have level : s.fire.resetAllowed s.config = true :=
      eq_true_of_ne_false (mt (s.fire.resetAllowed_eq_false_iff s.config).1 free)
    rw [← FireControl.reset_eq]
    exact ⟨_, rfl, taken.eventAnswered rfl (answerFireReset_resets (s.setPort p _) status level _ _)⟩

end Sys2Proof.Machine
end

section
/-! Event queues of the master ports (section 9.4): the fields of an event record, the requests that read and govern a
port's queue, the line ATN, and the statement about them. -/

namespace Sys2Proof.Machine

/-! ### Fields of a record (R188, R190) -/

/-- A mask whose first member is bit k is the set code, k bits up (R188). -/
theorem sum_bits_from (members : List Bool) (k : Nat) :
    ((members.zipIdx k).map fun m => if m.1 then 2 ^ m.2 else 0).sum = 2 ^ k * setCode members := by
  induction members generalizing k with
  | nil => rfl
  | cons b rest ih =>
    have first : (if b then 2 ^ k else 0) = 2 ^ k * boolCode b := by cases b <;> simp [boolCode]
    rw [List.zipIdx_cons, List.map_cons, List.sum_cons, ih, first, setCode]
    ring

theorem setCode_eq_maskIn (members : List Bool) : setCode members = maskIn members := by
  rw [maskIn, sum_bits_from, pow_zero, one_mul]

theorem setCode_lt (members : List Bool) : setCode members < 2 ^ members.length := by
  induction members with
  | nil => exact Nat.one_pos
  | cons b rest ih =>
    have bit : boolCode b ≤ 1 := by cases b <;> decide
    rw [setCode, List.length_cons, pow_succ]
    omega

/-- A small number in four bytes stands in the last of them (R188). -/
theorem byte4_of_lt {n : Nat} (small : n < 256) : byte4 n = [0, 0, 0, BitVec.ofNat 8 n] := by
  have high : n / 65536 = 0 := by omega
  have low : n % 65536 = n := by omega
  have middle : n / 256 = 0 := by omega
  rw [byte4, high, low, byte2, byte2, middle]
  rfl

theorem byte4_setCode (members : List Bool) (byte : members.length ≤ 8) :
    byte4 (setCode members) = [0, 0, 0, BitVec.ofNat 8 (maskIn members)] := by
  have small : setCode members < 256 :=
    (setCode_lt members).trans_le (Nat.pow_le_pow_right Nat.two_pos byte)
  rw [byte4_of_lt small, setCode_eq_maskIn]

theorem byte4_of_position {α : Type} [DecidableEq α] {members : List α} {x : α} {code : Nat}
    (position : code = members.idxOf x) (small : members.length < 256) :
    byte4 code = [0, 0, 0, codeIn members x] :=
  position ▸ byte4_of_lt (List.idxOf_le_length.trans_lt small)

theorem byte1_idxOf {α : Type} [DecidableEq α] (members : List α) (x : α) :
    byte1 (members.idxOf x) = [codeIn members x] := rfl

theorem byte4_boolCode (b : Bool) : byte4 (boolCode b) = [0, 0, 0, if b then 1 else 0] := by cases b <;> rfl

theorem twos_eq_toNat (bits : Nat) (i : Int) : twos bits i = (BitVec.ofInt bits i).toNat := by
  simp [twos, BitVec.toNat_ofInt]

/-! ### Codes by position (R190) -/

theorem switchCode_eq_idxOf (x : Switch) : switchCode x = [Switch.opened, .closed].idxOf x := by cases x <;> rfl

theorem contactorCode_eq_idxOf (x : Contactor) : contactorCode x = [Contactor.neg, .pre, .pos].idxOf x := by
  cases x <;> rfl

theorem detectorStateCode_eq_idxOf (x : DetectorState) :
    detectorStateCode x = [DetectorState.normal, .pre, .alarm, .fault, .disabled].idxOf x := by cases x <;> rfl

theorem fireCode_eq_idxOf (x : FireStatus) :
    fireCode x = [FireStatus.quiet, .watch, .alarm, .countdown, .held, .released].idxOf x := by cases x <;> rfl

theorem releaseEntryCode_eq_idxOf (x : ReleaseEntry) :
    releaseEntryCode x = [ReleaseEntry.countdown, .releaseNow].idxOf x := by cases x <;> rfl

theorem lockCauseCode_eq_idxOf (x : LockCause) :
    lockCauseCode x = [LockCause.fire, .hardLimit, .contactor, .precharge].idxOf x := by cases x <;> rfl

theorem reasonCode_eq_idxOf (x : ConnectionReason) :
    reasonCode x =
      [ConnectionReason.connect, .precharged, .connected, .disconnect, .dataLoss, .fire, .hardLimit, .contactor,
        .prechargeFailed, .opened, .unlock].idxOf x := by cases x <;> rfl

theorem permitCode_eq_idxOf (x : PermitState) :
    permitCode x = [PermitState.granted, .lapsed, .withdrawn].idxOf x := by cases x <;> rfl

theorem errorCode_eq_idxOf (x : ErrorKind) :
    errorCode x = [ErrorKind.timeout, .framing, .check, .address, .monitorFault].idxOf x := by cases x <;> rfl

theorem tachCode_eq_idxOf (x : TachChannel) : tachCode x = [TachChannel.fanA, .fanB, .pump].idxOf x := by
  cases x <;> rfl

theorem checkCode_eq_idxOf (x : CheckState) :
    checkCode x = [CheckState.healthy, .faulted, .trying, .latched].idxOf x := by cases x <;> rfl

theorem coolingCode_eq_idxOf (x : CoolingState) :
    coolingCode x = [CoolingState.normal, .degraded, .lost].idxOf x := by cases x <;> rfl

/-- The connection state, the opening kind and the lock cause as an event carries them: FFh for an absent one (R155,
R190). -/
theorem connectionBytes_eq (c : Connection) :
    [(connectionBytes c).state, (connectionBytes c).kind, (connectionBytes c).cause] =
      byte1 (connectionCode c) ++ opt1 c.kindCode ++ opt1 (c.lockCause.map lockCauseCode) := by
  cases c with
  | opened | precharging _ | closing | closed => rfl
  | lockedOut cause => cases cause <;> rfl
  | opening kind _ =>
    cases kind with
    | normal | abort => rfl
    | emergency cause _ => cases cause <;> rfl

/-! ### Event records (R172, R192) -/

theorem eventRow_kind (e : Event) : (eventRow e).kind = BitVec.ofNat 8 e.kindCode := by cases e <;> rfl

theorem eventRow_eventClass (e : Event) : (eventRow e).eventClass = BitVec.ofNat 8 e.eventClass.code := by
  cases e <;> rfl

theorem eventRow_subject (e : Event) : (eventRow e).subject = e.subject := by
  cases e with
  | contactorFault c command => exact congrArg some (contactorCode_eq_idxOf c).symm
  | coolingFault c state => exact congrArg some (tachCode_eq_idxOf c).symm
  | _ => rfl

/-- The value bytes of each kind: a set, a code by position, a number, or the parts that R192 places. -/
theorem eventRow_value (e : Event) : (eventRow e).value = e.valueBytes := by
  symm
  cases e with
  | hardLimit kinds => exact congrArg some (byte4_setCode kinds.members (by simp [HardLimits.members]))
  | dataLossBegin conditions => exact congrArg some (byte4_setCode conditions.members (by simp [DataLoss.members]))
  | gridState grid line conv util => exact congrArg some (byte4_setCode [grid, line, conv, util] (by simp))
  | envelopeFell charge discharge => exact congrArg some (byte4_setCode [charge, discharge] (by simp))
  | fireState status causes =>
    simp only [Event.valueBytes, eventRow, fireCode_eq_idxOf, setCode_eq_maskIn, byte1_idxOf]
    rfl
  | connectionState now reason =>
    simp only [Event.valueBytes, eventRow, ← connectionBytes_eq, reasonCode_eq_idxOf, byte1_idxOf]
    rfl
  | openedUnderLoad current => simp only [Event.valueBytes, eventRow, twos_eq_toNat]
  | contactorFault c x => exact congrArg some (byte4_of_position (switchCode_eq_idxOf x) (by decide))
  | detectorState i x => exact congrArg some (byte4_of_position (detectorStateCode_eq_idxOf x) (by decide))
  | releaseStarted x => exact congrArg some (byte4_of_position (releaseEntryCode_eq_idxOf x) (by decide))
  | permitState x => exact congrArg some (byte4_of_position (permitCode_eq_idxOf x) (by decide))
  | monitorMissing a x | monitorAbsent a x =>
    exact congrArg some (byte4_of_position (errorCode_eq_idxOf x) (by decide))
  | coolingFault c x => exact congrArg some (byte4_of_position (checkCode_eq_idxOf x) (by decide))
  | coolingState x => exact congrArg some (byte4_of_position (coolingCode_eq_idxOf x) (by decide))
  | acPermission asserted => exact congrArg some (byte4_boolCode asserted)
  | _ => rfl

theorem eventRow_eventClass_eq_zero_iff (e : Event) : (eventRow e).eventClass = 0 ↔ e.eventClass = .alarm := by
  rw [eventRow_eventClass]
  cases e.eventClass <;> decide

/-- A value, where the event has one, takes the four bytes that an absent one leaves 0. -/
theorem Event.valueBytes_getD_length (e : Event) : (e.valueBytes.getD [0, 0, 0, 0]).length = 4 := by
  cases e with
  | openedUnderLoad current => cases current <;> rfl
  | connectionState now reason =>
    rw [Event.valueBytes, ← connectionBytes_eq]
    rfl
  | _ => rfl

theorem EventRecord.bytes_eq (r : EventRecord) :
    r.bytes =
      [(eventRow r.event).kind, (eventRow r.event).eventClass,
        BitVec.ofNat 8 (maskIn [(eventRow r.event).subject.isSome, (eventRow r.event).value.isSome])] ++
      byte2 ((eventRow r.event).subject.getD 0) ++ (eventRow r.event).value.getD [0, 0, 0, 0] ++
      byte4 r.uptime.toNat ++ byte2 r.sweepNumber.toNat := by
  rw [eventRow_kind, eventRow_eventClass, eventRow_subject, eventRow_value, ← setCode_eq_maskIn]
  rfl

theorem EventRecord.bytes_length (r : EventRecord) : r.bytes.length = 15 := by
  simp only [EventRecord.bytes, List.length_append, Event.valueBytes_getD_length]
  rfl

/-! ### Answers (R174 to R176) -/

theorem oneToSixteen_iff (n : Nat) : oneToSixteen n = true ↔ 1 ≤ n ∧ n ≤ 16 := by simp [oneToSixteen]

theorem oneToSixteen_eq_false {n : Nat} (outside : n = 0 ∨ 16 < n) : oneToSixteen n = false := by
  rw [← Bool.not_eq_true, oneToSixteen_iff]
  omega

theorem answerEventRead_refuses {count : Byte} (outside : count.toNat = 0 ∨ 16 < count.toNat) (q : PortState)
    (s : State) : answerEventRead [count] q s = refuse .range q :=
  if_neg (Bool.eq_false_iff.1 (oneToSixteen_eq_false outside))

/-- A front of the queue that has the count's length, or less and is the whole queue, is what a read removes. -/
theorem answerEventRead_removes {count : Byte} {removed kept : List EventRecord} {q : PortState}
    (lower : 1 ≤ count.toNat) (upper : count.toNat ≤ 16) (queue : q.events = removed ++ kept)
    (oldest : removed.length = count.toNat ∨ (removed.length < count.toNat ∧ kept = [])) (s : State) :
    answerEventRead [count] q s =
      .atPort .ok (byte1 removed.length ++ removed.flatMap EventRecord.bytes) { q with events := kept } := by
  have parts : q.events.take count.toNat = removed ∧ q.events.drop count.toNat = kept := by
    rw [queue]
    obtain full | ⟨fewer, rfl⟩ := oldest
    · exact ⟨List.take_left' full, List.drop_left' full⟩
    · rw [List.append_nil]
      exact ⟨List.take_of_length_le fewer.le, List.drop_of_length_le fewer.le⟩
  obtain ⟨front, rest⟩ := parts
  rw [← front, ← rest]
  exact if_pos ((oneToSixteen_iff _).2 ⟨lower, upper⟩)

theorem answerAttentionLevel_refuses {level : Byte} (outside : level.toNat = 0 ∨ 16 < level.toNat) (q : PortState)
    (s : State) : answerAttentionLevel [level] q s = refuse .range q :=
  if_neg (Bool.eq_false_iff.1 (oneToSixteen_eq_false outside))

theorem answerAttentionLevel_sets {level : Byte} (lower : 1 ≤ level.toNat) (upper : level.toNat ≤ 16)
    (q : PortState) (s : State) :
    answerAttentionLevel [level] q s = .atPort .ok [] { q with attention := level.toNat } :=
  if_pos ((oneToSixteen_iff _).2 ⟨lower, upper⟩)

/-! ### The line ATN (R177, R186) -/

theorem PortState.attentionNow_iff (q : PortState) :
    q.attentionNow = true ↔
      q.attention ≤ q.events.length ∨ (∃ r ∈ q.events, (eventRow r.event).eventClass = 0) ∨ q.overflow = true := by
  simp only [PortState.attentionNow, Bool.or_eq_true, decide_eq_true_eq, List.any_eq_true,
    eventRow_eventClass_eq_zero_iff, or_assoc]

theorem State.lines_atn_get (s : State) (p : Port) : s.lines.atn.get p = s.atn p := by cases p <;> rfl

theorem State.atn_iff (s : State) (p : Port) :
    s.atn p = true ↔ s.resetHeld = false ∧ (s.ports.get p).attentionNow = true := by simp [State.atn]

/-- Settles O15: each request is answered at its port by its branch of the model, an event record's fields are those of
its row in R192's table, and ATN is `PortState.attentionNow` while no reset is held. -/
theorem eventRequestsOfThePort : Obligations.EventRequestsOfThePort := by
  refine ⟨fun s p count taken => ⟨fun outside => ?readRefused, fun lower upper removed kept queue oldest => ?read⟩,
    fun s p => ⟨fun classes taken => ?mask, fun taken => ?clearOverflow, fun level taken =>
      ⟨fun outside => ?levelRefused, fun lower upper => ?level⟩⟩,
    fun r => ⟨r.bytes_eq, r.bytes_length⟩, fun s p => ?line⟩
  case readRefused => exact congrArg Host.Outcome.next (taken.refused (answerEventRead_refuses outside _ _))
  case read =>
    exact congrArg Host.Outcome.next
      (taken.atPort (answerEventRead_removes (q := (s.ports.get p).taken) lower upper queue oldest _))
  case mask => exact congrArg Host.Outcome.next (taken.atPort (act := answerEventMask) rfl)
  case clearOverflow =>
    exact congrArg Host.Outcome.next
      (taken.atPort (act := fun _ q _ => .atPort .ok [] { q with overflow := false }) rfl)
  case levelRefused => exact congrArg Host.Outcome.next (taken.refused (answerAttentionLevel_refuses outside _ _))
  case level => exact congrArg Host.Outcome.next (taken.atPort (answerAttentionLevel_sets lower upper _ _))
  case line => rw [s.lines_atn_get, s.atn_iff, PortState.attentionNow_iff]

end Sys2Proof.Machine
end

section
/-! What a command can do, said once. Its work begins where it is taken, once the time of a timer has passed, with a
request taken from its queue, or with the chain line ended (`Began`); it is the work of an event of the part, which is
then settled (`EventWork`), work that no other block follows (`SilentWork`, `ChainWork`), or work of a port alone
(`LineWork`, `PortEdit`). `exec_leaves` says so of every command, and `step_keeps` derives the properties that every
step keeps. -/

namespace Sys2Proof.Machine

/-! ### Where the work begins -/

/-- The states in which the work of a command taken in `s` can begin. -/
inductive Began (s : State) : State → Prop
  | now : Began s s
  | later (dt : Nat) : Began s (s.advance dt)
  | taken (p : Port) : Began s (s.setPort p (s.ports.get p).taken)
  | line (n : Nat) : Began s (s.withChain (s.chain.lineBusy n))
  | lineLater (dt n : Nat) : Began s ((s.advance dt).withChain ((s.advance dt).chain.lineBusy n))

/-- The commands that end a reply or the wait for one (R7, R8). -/
def EndsReply : Instr → Prop
  | .chainReplyEnd _ | .chainReplyError _ | .chainReplyTimeout _ => True
  | _ => False

/-! ### The work of an event -/

/-- The work of an event of the part, by its command: the state `b` in which it begins, whether it publishes, and what
it leaves for the settling. -/
inductive EventWork : Instr → State → Publication → Change → Prop
  | portReset {p : Port} {b : State} (reset : (b.ports.get p).lineDetector ≠ .waitingForMark) :
      EventWork (.portReset p) b .ifChanged (.quiet (b.portReset p))
  | push {p : Port} {b : State} {v : CurtailValues} {st : StackState} {h : Nat} {d : Option Entry}
      (valid : v.valid = true)
      (pushed : b.stack.push b.slots p ((v.clamp b.config.ratedCurrent p).body p) = .pushed st h d) :
      EventWork (.pushCurtail p) b .ifChanged (b.afterPush st h d)
  | amend {p : Port} {b : State} {v : CurtailValues} {h : Nat} {e : Entry} (valid : v.valid = true)
      (own : b.stack.ownDirect p h = some e) :
      EventWork (.amendCurtail p) b .always
        (.quiet { b with stack := b.stack.amend e.handle (v.clamp b.config.ratedCurrent p) })
  | release {p : Port} {b : State} {h : Nat} {e : Entry} (own : b.stack.ownDirect p h = some e) :
      EventWork (.releaseCurtail p) b .ifChanged (.quiet { b with stack := b.stack.remove e.handle })
  | pop {p : Port} {b : State} {e : Entry} (top : b.stack.topDirect p = some e) :
      EventWork (.popCurtail p) b .ifChanged (.quiet { b with stack := b.stack.remove e.handle })
  | releaseAll {p : Port} {b : State} :
      EventWork (.releaseAllCurtail p) b .ifChanged (.quiet { b with stack := b.stack.withoutDirect p })
  | expiry {h : Nat} {b : State} {e : Entry}
      (timed : ∃ x ∈ b.stack.entries, x.handle = h ∧ x.remaining ≠ none) :
      EventWork (.curtailExpiry h) b .ifChanged
        ⟨{ b with stack := b.stack.remove h }, expiredEvents b.slots e⟩
  | claim {p : Port} {b : State} {k : Nat} {w : WatchSpec} (slot : k ≤ 7)
      (free : claimedByOther b.slots p k = false) (valid : w.valid k = true)
      (chain : w.chain = true → claimedBy b.slots p (k + 1) = true) :
      EventWork (.claimWatch p) b .ifChanged (.quiet (b.takeClaim p k w))
  | releaseWatch {p : Port} {b : State} {k : Nat} (slot : k ≤ 7) (claimed : (b.claim k).isSome = true)
      (own : claimedByOther b.slots p k = false) (unchained : chainedFromAbove b.slots k = false) :
      EventWork (.releaseWatch p) b .ifChanged (.quiet (b.takeRelease k))
  | connect {p : Port} {b : State} (passed : b.connectRefusal = none) :
      EventWork (.connect p) b .ifChanged ({ b with thermal := b.thermal.allAuto }.withConn b.conn.connect)
  | disconnect {p : Port} {b : State} :
      EventWork (.disconnect p) b .ifChanged (b.withConn (b.conn.disconnect b.config b.table.string))
  | unlock {p : Port} {b : State} (passed : b.unlockRefusal = none) :
      EventWork (.unlock p) b .ifChanged (b.withConn b.conn.unlock)
  | gridTrip {p : Port} {b : State} :
      EventWork (.gridTrip p) b .ifChanged (.quiet { b with conn := b.conn.gridTrip b.config p })
  | gridRestored {p : Port} {b : State} :
      EventWork (.gridRestored p) b .ifChanged (.quiet { b with conn := b.conn.gridRestored })
  | permit {p : Port} {b : State} {seconds : Nat} :
      EventWork (.permit p) b .ifChanged (.quiet (b.grant seconds))
  | withdraw {p : Port} {b : State} : EventWork (.withdraw p) b .ifChanged (.quiet b.withdraw)
  | sweepOnce {p : Port} {b : State} (configured : b.config.configured = true) :
      EventWork (.sweepOnce p) b .ifChanged (.quiet (b.withChain b.chain.sweepOnce))
  | sweepContinuous {p : Port} {b : State} (configured : b.config.configured = true) :
      EventWork (.sweepContinuous p) b .ifChanged
        (.quiet (b.withChain (b.chain.sweepContinuous b.config.sweepPeriod)))
  | sweepStop {p : Port} {b : State} (disconnected : b.conn.connection.disconnected = true) :
      EventWork (.sweepStop p) b .ifChanged (.quiet (b.withChain b.chain.sweepStop))
  | coolingManual {p : Port} {b : State} {c : DutyChannel} {duty : Nat}
      (configured : b.config.configured = true) (disconnected : b.conn.connection.disconnected = true) :
      EventWork (.coolingManual p) b .ifChanged
        (.quiet { b with thermal := b.thermal.setChannel c ((b.thermal.channels.get c).toManual duty) })
  | coolingAuto {p : Port} {b : State} {c : DutyChannel} :
      EventWork (.coolingAuto p) b .ifChanged
        (.quiet { b with thermal := b.thermal.setChannel c (b.thermal.channels.get c).toAuto })
  | coolingRetry {p : Port} {b : State} :
      EventWork (.coolingRetry p) b .ifChanged
        ⟨{ b with
            thermal := b.thermal.withTachs
              (Tachs.of fun ch => (b.thermal.tachs.get ch).retried (heldAtZero b.thermal.forcing ch)) },
          retryEvents b.thermal.tachs⟩
  | holdSet {p : Port} {b : State} :
      EventWork (.holdSet p) b .ifChanged (.quiet { b with fire := b.fire.setSiteHold b.config })
  | holdClear {p : Port} {b : State} :
      EventWork (.holdClear p) b .ifChanged (.quiet { b with fire := b.fire.dropSiteHold b.config })
  | releaseNow {p : Port} {b : State} (entering : b.fire.status = .alarm ∨ b.fire.status = .countdown) :
      EventWork (.releaseNow p) b .ifChanged (b.enterReleased .releaseNow)
  | fireReset {p : Port} {b : State} (confirmed : b.fire.status.confirmed = true) :
      EventWork (.fireReset p) b .ifChanged (.quiet { b with fire := b.fire.reset })
  | detectorEnable {p : Port} {b : State} {i : Nat} :
      EventWork (.detectorEnable p) b .ifChanged (.quiet (b.withDetector i (b.fire.detector i).enable))
  | detectorDisable {p : Port} {b : State} {i : Nat} (unconfirmed : b.fire.status.confirmed = false) :
      EventWork (.detectorDisable p) b .ifChanged (.quiet (b.withDetector i (b.fire.detector i).disable))
  | configWrite {p : Port} {b : State} {n : Nat} {range : ItemRange} {v : ItemValue}
      (item : itemRange n = some range) (passed : b.writeRefusal = none) (admitted : range.admits v = true) :
      EventWork (.configWrite p) b (writePublication b.config.configured)
        ((b.leaveConfigured n).andThen fun t => Change.quiet (t.storeItem n v))
  | configAccept {p : Port} {b : State} (unconfigured : b.config.configured = false)
      (passed : b.config.firstFailure = none) :
      EventWork (.configAccept p) b .ifChanged b.accept
  | sweep {c : Instr} {b : State} {e : Exchange} {o : ExchangeOutcome} (reply : EndsReply c)
      (going : b.chain.activity ≠ .aborting) (last : b.config.monitorCount ≤ e.address) :
      EventWork c b .sweep (b.withChain (b.chain.fillEntry e o)).completion
  | ageTimer {b : State} : EventWork .ageTimerExpiry b .always (.quiet { b with table := b.table.aged })
  | periodStart {b : State} :
      EventWork .pwmPeriodStart b .ifChanged (.quiet { b with thermal := b.thermal.periodStart b.config })
  | windowEnd {b : State} :
      EventWork .tachWindowEnd b .ifChanged
        ⟨{ b with thermal := { b.thermal.withTachs b.tachsAfterWindow with windowLeft := Length.tachWindow } },
          b.windowEvents⟩
  | countdown {b : State} (counting : b.fire.status = .countdown) :
      EventWork .countdownExpiry b .ifChanged (b.enterReleased .countdown)
  | disablement {i : Nat} {b : State} :
      EventWork (.disablementExpiry i) b .ifChanged (.quiet (b.withDetector i (b.fire.detector i).enable))
  | sampling {levels : List Byte} {panel hold : Bool} {b : State} :
      EventWork (.fireSampling levels panel hold) b .ifChanged
        (({ b with fire := b.fire.sampling b.config levels panel hold } : State).openForFire b.fire.status)
  | feedback {k : Contactor} {v : Switch} {b : State} (new : (b.conn.contactors.get k).feedback ≠ v) :
      EventWork (.contactorFeedbackChange k v) b .ifChanged (b.withConn (b.conn.feedback b.config k v))
  | disagreement {k : Contactor} {b : State} :
      EventWork (.disagreementTimerExpiry k) b .ifChanged (b.withConn (b.conn.contactorFault k))
  | precharge {b : State} (running : b.conn.precharge.isRunning = true) :
      EventWork .prechargeTimerExpiry b .ifChanged (b.withConn b.conn.prechargeFailed)
  | openWait {b : State} (running : b.conn.openWait.isRunning = true) :
      EventWork .openWaitExpiry b .ifChanged (b.withConn (b.conn.waitExpired b.table.string))
  | dataLossOpen {b : State} (running : b.conn.dataLossOpen.isRunning = true) :
      EventWork .dataLossOpenExpiry b .ifChanged
        (b.withConn (b.conn.beginNormal b.config b.table.string .dataLoss))
  | lapse {b : State} (running : b.conn.permitTimer.isRunning = true) :
      EventWork .permitLapse b .ifChanged b.lapse
  | gridLine {v : Bool} {b : State} (new : b.conn.linePresent ≠ v) :
      EventWork (.gridLineChange v) b .ifChanged (.quiet { b with conn := b.conn.gridLine b.config v })
  | convNotice {b : State} :
      EventWork .convNoticeTimerExpiry b .ifChanged (.quiet { b with conn := b.conn.convExpired })
  | reconnect {b : State} (running : b.conn.reconnect.isRunning = true) :
      EventWork .reconnectTimerExpiry b .ifChanged (.quiet { b with conn := { b.conn with reconnect := .runOut } })

/-! ### Work that no other block follows -/

/-- Work on the chain alone. -/
inductive ChainWork : Instr → State → ChainState → Prop
  | boundary {b : State} (running : b.chain.periodTimer.isRunning = true) :
      ChainWork .periodBoundary b b.chain.boundary
  | begin {b : State} (may : b.chain.mayBegin = true) : ChainWork .sweepBegin b b.chain.beginSweep
  | send {b : State} : ChainWork .chainFrameSend b b.sendDueFrame
  | await {b : State} : ChainWork .commandFrameEnd b b.chain.awaitReply
  | quiet {b : State} : ChainWork .chainLineFree b b.chain.lineQuiet
  | bleedOff {b : State} : ChainWork .bleedOffSent b b.chain.bleedOffDone
  | retry {c : Instr} {b : State} {e : Exchange} (reply : EndsReply c) : ChainWork c b (b.chain.retryDue e)
  | endAbort {c : Instr} {b : State} (reply : EndsReply c) (aborting : b.chain.activity = .aborting) :
      ChainWork c b b.chain.endAbort.serveBleedOff
  | next {c : Instr} {b : State} {e : Exchange} {o : ExchangeOutcome} (reply : EndsReply c) :
      ChainWork c b ((b.chain.fillEntry e o).exchangeDue (e.address + 1))

/-- Work that no other block follows: on the chain, on the tach inputs and timers, and the running out of the cool-down
timer and of the release pulse. -/
inductive SilentWork : Instr → State → State → Prop
  | chain {c : Instr} {b : State} {x : ChainState} (work : ChainWork c b x) : SilentWork c b (b.withChain x)
  | cooldown {b : State} : SilentWork .cooldownExpiry b { b with conn := { b.conn with cooldown := .runOut } }
  | grace {ch : TachChannel} {b : State} :
      SilentWork (.graceTimerExpiry ch) b
        (b.setTach ch
          (if b.thermal.windowLeft = Length.tachWindow then
            (b.thermal.tachs.get ch).graceRunOut.noteArmed
              (armed b.config b.thermal.forcing b.thermal.channels ch (b.thermal.tachs.get ch).graceRunOut)
          else (b.thermal.tachs.get ch).graceRunOut))
  | retry {ch : TachChannel} {b : State} (faulted : (b.thermal.tachs.get ch).check = .faulted) :
      SilentWork (.retryTimerExpiry ch) b
        (b.setTach ch ((b.thermal.tachs.get ch).tryAgain (heldAtZero b.thermal.forcing ch)))
  | level {ch : TachChannel} {high : Bool} {b : State} :
      SilentWork (.tachFilteredLevelChange ch high) b (b.setTach ch ((b.thermal.tachs.get ch).level high))
  | releasePulse {b : State} :
      SilentWork .releasePulseEnd b { b with thermal := { b.thermal with releasePulse := .stopped } }

/-! ### Work of a port alone -/

/-- What a command of a port's lines makes of the port (R163 to R167, R178). -/
inductive LineWork : Instr → Port → PortState → PortState → Prop
  | receive {p : Port} {q : PortState} {chars : List RxChar} :
      LineWork (.requestFrameReceived p chars) p q (chars.foldl PortState.receive q)
  | gap {p : Port} {q : PortState} : LineWork (.interCharacterTimeout p) p q q.gap
  | resume {p : Port} {q : PortState} : LineWork (.receiverHuntResumed p) p q q.resumeHunt
  | sent {p : Port} {q : PortState} : LineWork (.responseSent p) p q q.sent
  | toMark {p : Port} {q : PortState} : LineWork (.lineReturnsToMark p) p q q.lineToMark

/-- What the answer to a request that a port answers alone makes of the port, before its response is placed: nothing
(a refusal among them), or one of the port's own records (R169, R170, R174 to R176). -/
inductive PortEdit : Instr → Port → PortState → PortState → Prop
  | keep {c : Instr} {p : Port} {q : PortState} : PortEdit c p q q
  | cursor {p : Port} {q : PortState} {bank index : Nat} (valid : cursorValid bank index = true) :
      PortEdit (.setCursor p) p q { q with cursorBank := bank, cursorIndex := index }
  | readOn {p : Port} {q : PortState} {count : Nat} (lower : 1 ≤ count) :
      PortEdit (.readNext p) p q { q with cursorIndex := indexAfter q.cursorBank q.cursorIndex count }
  | eventsRead {p : Port} {q : PortState} {count : Nat} :
      PortEdit (.eventRead p) p q { q with events := q.events.drop count }
  | mask {p : Port} {q : PortState} {body : List Byte} :
      PortEdit (.eventMask p) p q { q with mask := maskGiven body }
  | clearOverflow {p : Port} {q : PortState} : PortEdit (.eventClearOverflow p) p q { q with overflow := false }
  | attention {p : Port} {q : PortState} {level : Nat} (lower : 1 ≤ level) (upper : level ≤ 16) :
      PortEdit (.attentionLevel p) p q { q with attention := level }

/-! ### What a command leaves -/

/-- The states that a command can leave, from a state in which no power-on reset is held: as it was; with a port's line
moved on; with a request answered at its port, its own records aside; after work that no other block follows; after an
event of the part; and after an event with the response to its request placed. -/
inductive Leaves (c : Instr) (s : State) : State → Prop
  | asIs : Leaves c s s
  | line {p : Port} {q : PortState} (work : LineWork c p (s.ports.get p) q) : Leaves c s (s.setPort p q)
  | answered {p : Port} {q : PortState} {frame : List Byte} (n : Nat) (none : (s.ports.get p).waiting = [])
      (edit : PortEdit c p (s.ports.get p).taken q) :
      Leaves c s ({ s with freeReads := n }.setPort p (q.place frame))
  | silent {b u : State} (began : Began s b) (work : SilentWork c b u) : Leaves c s u
  | event {b : State} {w : Publication} {x : Change} (began : Began s b) (work : EventWork c b w x) :
      Leaves c s (State.settle b w x)
  | requested {p : Port} {w : Publication} {x : Change} {kind : Byte} {o : Reply} {body : List Byte}
      (none : (s.ports.get p).waiting = [])
      (work : EventWork c (s.setPort p (s.ports.get p).taken) w x) :
      Leaves c s ((State.settle (s.setPort p (s.ports.get p).taken) w x).respond p kind o body)

/-! ### Timers -/

theorem Timer.pass_isRunning (t : Timer) (dt : Nat) : (t.pass dt).isRunning = t.isRunning := by cases t <;> rfl

theorem Timer.isRunning_of_due {t : Timer} {dt : Nat} (h : t.due = some dt) : t.isRunning = true := by
  cases t with
  | running n => rfl
  | stopped | paused _ | runOut => cases h

/-- A command that waits for a timer leaves the state as it is, or begins once the timer's time has passed. -/
theorem Leaves.after {c : Instr} {s : State} {left : Option Nat} {f : State → State}
    (work : ∀ dt, left = some dt → Leaves c s (f (s.advance dt))) : Leaves c s (s.after left f) := by
  cases left with
  | none => exact .asIs
  | some dt => exact work dt rfl

theorem Leaves.ite {c : Instr} {s t u : State} {q : Prop} [Decidable q] (yes : q → Leaves c s t)
    (no : ¬ q → Leaves c s u) : Leaves c s (if q then t else u) := by
  split
  case isTrue h => exact yes h
  case isFalse h => exact no h

/-! ### Requests (R166) -/

/-- What the block that owns a request answers: at the port alone, or by an event of the part. -/
inductive AnswerWork (c : Instr) (p : Port) (q : PortState) (b : State) : Answer → Prop
  | atPort {o : Reply} {body : List Byte} {q' : PortState} (edit : PortEdit c p q q') :
      AnswerWork c p q b (.atPort o body q')
  | records {body : List Byte} {q' : PortState} (edit : PortEdit c p q q') : AnswerWork c p q b (.records body q')
  | event {o : Reply} {body : List Byte} {w : Publication} {x : Change} (work : EventWork c b w x) :
      AnswerWork c p q b (.event o body w x)

theorem AnswerWork.refuse {c : Instr} {p : Port} {q : PortState} {b : State} {o : Reply} :
    AnswerWork c p q b (refuse o q) := .atPort .keep

theorem AnswerWork.ite {c : Instr} {p : Port} {q : PortState} {b : State} {a a' : Answer} {r : Prop} [Decidable r]
    (yes : r → AnswerWork c p q b a) (no : ¬ r → AnswerWork c p q b a') :
    AnswerWork c p q b (if r then a else a') := by
  split
  case isTrue h => exact yes h
  case isFalse h => exact no h

theorem State.setPort_respond (s : State) (p : Port) (q : PortState) (kind : Byte) (o : Reply) (body : List Byte) :
    (s.setPort p q).respond p kind o body = s.setPort p (q.place (responseFrame (responseKind kind) o body)) := by
  cases p <;> rfl

/-- A request that is taken and answered at its port alone. -/
theorem Leaves.answeredAt {c : Instr} {s : State} {p : Port} {q : PortState} {kind : Byte} {o : Reply}
    {body : List Byte} (none : (s.ports.get p).waiting = []) (edit : PortEdit c p (s.ports.get p).taken q) :
    Leaves c s ((s.setPort p q).respond p kind o body) := by
  rw [State.setPort_respond]
  exact .answered s.freeReads none edit

theorem State.setPort_setPort (s : State) (p : Port) (q q' : PortState) :
    (s.setPort p q).setPort p q' = s.setPort p q' := by cases p <;> rfl

theorem PortState.head_cases (q : PortState) :
    q.head = none ∨ q.waiting = [] ∧ ∃ r, q.requests.head? = some r ∧ q.head = some r := by
  unfold PortState.head
  cases q.waiting with
  | nil => cases q.requests.head? <;> simp
  | cons _ _ => exact .inl rfl

/-- The taking of a request: the checks of the port controller, and then the answer of the owning block. -/
theorem Leaves.serve {s : State} {p : Port} {k : RequestKind} {act : List Byte → PortState → State → Answer}
    (answer : ∀ body q b, AnswerWork (requestCommand k p) p q b (act body q b)) :
    Leaves (requestCommand k p) s (s.serve p k act) := by
  unfold State.serve
  obtain none | ⟨waiting, r, -, head⟩ := (s.ports.get p).head_cases
  · rw [none]
    exact .asIs
  · rw [head]
    refine .ite (fun _ => ?_) (fun _ => .asIs)
    refine .ite (fun _ => .answeredAt waiting .keep) (fun _ => ?_)
    refine .ite (fun _ => .answeredAt waiting .keep) (fun _ => ?_)
    rw [State.setPort_ports, Ports.get_set, if_pos rfl]
    have work := answer r.body (s.ports.get p).taken (s.setPort p (s.ports.get p).taken)
    generalize act _ _ _ = a at work ⊢
    cases work with
    | atPort edit =>
      unfold State.answer
      dsimp only
      rw [State.setPort_setPort]
      exact .answeredAt waiting edit
    | records edit =>
      unfold State.answer
      dsimp only
      rw [State.setPort_respond]
      have last := State.setPort_setPort { s with freeReads := s.freeReads + 1 } p (s.ports.get p).taken
      refine (last _).symm ▸ ?_
      exact .answered _ waiting edit
    | event work => exact .requested waiting work

end Sys2Proof.Machine
end

section
/-! Every command of the part leaves one of the states of `Leaves`: the answers to the requests, the events of the
part's own lines and timers, and the end of an exchange. -/

namespace Sys2Proof.Machine

/-! ### Answers of the port controller -/

section
variable {p : Port} {q : PortState} {b : State} (body : List Byte)

theorem answerSetCursor_work : AnswerWork (.setCursor p) p q b (answerSetCursor body q b) :=
  .ite (fun valid => .atPort (.cursor valid)) (fun _ => .refuse)

theorem answerReadNext_work : AnswerWork (.readNext p) p q b (answerReadNext p body q b) :=
  .ite (fun count => .records (.readOn ((oneToSixteen_iff _).1 count).1)) (fun _ => .refuse)

theorem answerEventRead_work : AnswerWork (.eventRead p) p q b (answerEventRead body q b) :=
  .ite (fun _ => .atPort .eventsRead) (fun _ => .refuse)

theorem answerAttentionLevel_work : AnswerWork (.attentionLevel p) p q b (answerAttentionLevel body q b) := by
  refine .ite (fun level => ?_) (fun _ => .refuse)
  obtain ⟨lower, upper⟩ := (oneToSixteen_iff _).1 level
  exact .atPort (.attention lower upper)

/-! ### Answers of the curtailment stack and of the watch table -/

theorem answerPush_work : AnswerWork (.pushCurtail p) p q b (answerPush p body q b) := by
  refine .ite (fun valid => ?_) (fun _ => .refuse)
  cases pushed : b.stack.push b.slots p (((curtailValues body 0).clamp b.config.ratedCurrent p).body p) with
  | full => exact .refuse
  | pushed st h d => exact .event (.push valid pushed)

theorem answerAmend_work : AnswerWork (.amendCurtail p) p q b (answerAmend p body q b) := by
  refine .ite (fun valid => ?_) (fun _ => .refuse)
  cases own : b.stack.ownDirect p (u8 body 0) with
  | none => exact .refuse
  | some e => exact .event (.amend valid own)

theorem answerRelease_work : AnswerWork (.releaseCurtail p) p q b (answerRelease p body q b) := by
  unfold answerRelease
  cases own : b.stack.ownDirect p (u8 body 0) with
  | none => exact .refuse
  | some e => exact .event (.release own)

theorem answerPop_work : AnswerWork (.popCurtail p) p q b (answerPop p body q b) := by
  unfold answerPop
  cases top : b.stack.topDirect p with
  | none => exact .refuse
  | some e => exact .event (.pop top)

theorem answerClaim_work : AnswerWork (.claimWatch p) p q b (answerClaim p body q b) := by
  refine .ite (fun _ => .refuse) (fun slot => .ite (fun _ => .refuse) (fun free => ?_))
  cases watchSpecField body with
  | none => exact .refuse
  | some w =>
    refine .ite (fun _ => .refuse) (fun valid => .ite (fun _ => .refuse) (fun chain => ?_))
    refine .event (.claim (Nat.not_lt.1 slot) (Bool.eq_false_iff.2 free) (by simpa using valid) fun chained => ?_)
    simpa [chained] using chain

theorem answerReleaseWatch_work : AnswerWork (.releaseWatch p) p q b (answerReleaseWatch p body q b) := by
  refine .ite (fun _ => .refuse) (fun slot => .ite (fun _ => .refuse) (fun claimed => .ite (fun _ => .refuse)
    (fun own => .ite (fun _ => .refuse) (fun unchained => ?_))))
  exact .event (.releaseWatch (Nat.not_lt.1 slot) (by simpa [Option.isSome_iff_ne_none] using claimed)
    (Bool.eq_false_iff.2 own) (Bool.eq_false_iff.2 unchained))

/-! ### Answers of the connection controller -/

theorem answerConnect_work : AnswerWork (.connect p) p q b (answerConnect body q b) := by
  unfold answerConnect
  cases passed : b.connectRefusal with
  | none => exact .event (.connect passed)
  | some refusal =>
    obtain ⟨outcome, reason⟩ := refusal
    cases reason with
    | none => exact .refuse
    | some reason => exact .atPort .keep

theorem answerUnlock_work : AnswerWork (.unlock p) p q b (answerUnlock body q b) := by
  unfold answerUnlock
  cases passed : b.unlockRefusal with
  | none => exact .event (.unlock passed)
  | some reason => exact .atPort .keep

theorem answerPermit_work : AnswerWork (.permit p) p q b (answerPermit body q b) :=
  .ite (fun _ => .event .permit) (fun _ => .refuse)

/-! ### Answers of the chain controller and of the thermal controller -/

theorem answerSweepOnce_work : AnswerWork (.sweepOnce p) p q b (answerSweepOnce body q b) :=
  .ite (fun configured => .event (.sweepOnce configured)) (fun _ => .refuse)

theorem answerSweepContinuous_work :
    AnswerWork (.sweepContinuous p) p q b (answerSweepContinuous body q b) :=
  .ite (fun configured => .event (.sweepContinuous configured)) (fun _ => .refuse)

theorem answerSweepStop_work : AnswerWork (.sweepStop p) p q b (answerSweepStop body q b) :=
  .ite (fun disconnected => .event (.sweepStop disconnected)) (fun _ => .refuse)

theorem answerCoolingManual_work : AnswerWork (.coolingManual p) p q b (answerCoolingManual body q b) := by
  unfold answerCoolingManual
  cases dutyOfCode (u8 body 0) with
  | none => exact .refuse
  | some c =>
    refine .ite (fun _ => .refuse) (fun configured => .ite (fun _ => .refuse) (fun disconnected => ?_))
    exact .event (.coolingManual (by simpa using configured) (by simpa using disconnected))

theorem answerCoolingAuto_work : AnswerWork (.coolingAuto p) p q b (answerCoolingAuto body q b) := by
  unfold answerCoolingAuto
  cases dutyOfCode (u8 body 0) with
  | none => exact .refuse
  | some c => exact .event .coolingAuto

/-! ### Answers of the fire controller -/

theorem answerReleaseNow_work : AnswerWork (.releaseNow p) p q b (answerReleaseNow body q b) := by
  unfold answerReleaseNow
  cases status : b.fire.status with
  | alarm => exact .event (.releaseNow (.inl status))
  | countdown => exact .event (.releaseNow (.inr status))
  | held | quiet | watch => exact .refuse
  | released => exact .atPort .keep

theorem answerFireReset_work : AnswerWork (.fireReset p) p q b (answerFireReset body q b) := by
  refine .ite (fun _ => .atPort .keep) (fun confirmed => .ite (fun _ => ?_) (fun _ => .refuse))
  exact .event (.fireReset (by simpa using confirmed))

theorem answerDetectorEnable_work : AnswerWork (.detectorEnable p) p q b (answerDetectorEnable body q b) :=
  .ite (fun _ => .refuse) (fun _ => .ite (fun _ => .atPort .keep) (fun _ => .event .detectorEnable))

theorem answerDetectorDisable_work : AnswerWork (.detectorDisable p) p q b (answerDetectorDisable body q b) := by
  refine .ite (fun _ => .refuse) (fun _ => .ite (fun _ => .refuse) (fun unconfirmed => ?_))
  exact .event (.detectorDisable (by simpa using unconfirmed))

/-! ### Answers of the configuration set -/

theorem answerConfigWrite_work : AnswerWork (.configWrite p) p q b (answerConfigWrite body q b) := by
  unfold answerConfigWrite
  cases item : itemRange (u8 body 0) with
  | none => exact .refuse
  | some range =>
    cases passed : b.writeRefusal with
    | some reason => exact .atPort .keep
    | none => exact .ite (fun admitted => .event (.configWrite item passed admitted)) (fun _ => .refuse)

theorem answerConfigRead_work : AnswerWork (.configRead p) p q b (answerConfigRead body q b) := by
  unfold answerConfigRead
  cases itemRange (u8 body 0) with
  | none => exact .refuse
  | some range => exact .atPort .keep

theorem answerConfigAccept_work : AnswerWork (.configAccept p) p q b (answerConfigAccept body q b) := by
  refine .ite (fun _ => .atPort .keep) (fun unconfigured => ?_)
  cases passed : b.config.firstFailure with
  | some failure => exact .atPort .keep
  | none => exact .event (.configAccept (by simpa using unconfigured) passed)

end

/-! ### The end of an exchange (R8 to R11) -/

section
variable {c : Instr} {s b : State}

/-- The exchange ends: it was aborted, the next address follows, or the sweep completes. -/
theorem Leaves.endExchange (reply : EndsReply c) (began : Began s b) (e : Exchange) (o : ExchangeOutcome) :
    Leaves c s (b.endExchange e o) := by
  refine .ite (fun aborting => ?_) (fun going => .ite (fun _ => ?_) (fun last => ?_))
  · exact .silent began (.chain (.endAbort reply aborting))
  · exact .silent began (.chain (.next reply))
  · exact .event began (.sweep reply going (Nat.not_lt.1 last))

/-- An attempt fails: it is retried, or the exchange ends as missed. -/
theorem Leaves.failAttempt (reply : EndsReply c) {quiet : Nat}
    (began : Began s (b.withChain (b.chain.lineBusy quiet))) (e : Exchange) (error : ErrorKind) :
    Leaves c s (b.failAttempt e error quiet) :=
  .ite (fun _ => .silent began (.chain (.retry reply))) (fun _ => .endExchange reply began e (.missed error))

theorem Leaves.endReply (reply : EndsReply c) (e : Exchange) (chars : List ChainChar) :
    Leaves c s (s.endReply e chars) := by
  unfold State.endReply
  cases replyVerdict e.address chars with
  | incomplete => exact .asIs
  | accepted values => exact .endExchange reply (.line 0) e _
  | failed error =>
    cases error with
    | check | monitorFault => exact .failAttempt reply (.line _) e _
    | timeout | framing | address => exact .asIs

theorem Leaves.breakReply (reply : EndsReply c) (e : Exchange) (chars : List ChainChar) :
    Leaves c s (s.breakReply e chars) := by
  unfold State.breakReply
  cases replyVerdict e.address chars with
  | incomplete | accepted values => exact .asIs
  | failed error =>
    cases error with
    | framing | address => exact .failAttempt reply (.line _) e _
    | timeout | check | monitorFault => exact .asIs

end

/-! ### Every command -/

/-- The taking of a request whose kind names none (R166, check 1). -/
theorem Leaves.serveUnknown {s : State} {p : Port} : Leaves (.unknownKind p) s (s.serveUnknown p) := by
  unfold State.serveUnknown
  obtain none | ⟨waiting, r, -, head⟩ := (s.ports.get p).head_cases
  · rw [none]
    exact .asIs
  · rw [head]
    dsimp only
    cases RequestKind.ofCode r.kind with
    | some k => exact .asIs
    | none => exact .answeredAt waiting .keep

/-- The entry whose time runs out is timed as its time has passed. -/
theorem advance_timed {s : State} {h dt : Nat} {e : Entry} (found : s.stack.find h = some e)
    (timed : e.remaining = some dt) :
    ∃ x ∈ (s.advance dt).stack.entries, x.handle = h ∧ x.remaining ≠ none := by
  have live : e ∈ s.stack.entries := List.mem_of_find?_eq_some found
  have handle : e.handle = h := by simpa using List.find?_some found
  exact ⟨e.pass dt, List.mem_map_of_mem live, handle, by simp [Entry.pass, timed]⟩

/-- While power-on reset is held, every command but the resets changes nothing (R186; log entry 3). -/
theorem exec_of_resetHeld {c : Instr} {s : State} (held : s.resetHeld = true) (notReset : c ≠ .powerOnReset)
    (notEnd : c ≠ .powerOnResetEnd) : exec c s = .next s := by
  have run : ∀ f, s.running f = s := fun f => if_pos held
  cases c with
  | powerOnReset => exact absurd rfl notReset
  | powerOnResetEnd => exact absurd rfl notEnd
  | _ => exact congrArg Host.Outcome.next (run _)

/-- Every command but the resets, from a state in which no power-on reset is held. -/
theorem running_leaves {c : Instr} {s t : State} (notReset : c ≠ .powerOnReset) (notEnd : c ≠ .powerOnResetEnd)
    (running : s.resetHeld = false) (executed : exec c s = .next t) : Leaves c s t := by
  have leaves : ∀ f, exec c s = .next (s.running f) → Leaves c s (f s) → Leaves c s t := fun f shape work => by
    rw [shape, State.running_of s running] at executed
    exact Host.Outcome.next.inj executed ▸ work
  cases c with
  | powerOnReset => exact absurd rfl notReset
  | powerOnResetEnd => exact absurd rfl notEnd
  | requestFrameReceived p chars => exact leaves _ rfl (.line .receive)
  | interCharacterTimeout p => exact leaves _ rfl (.line .gap)
  | receiverHuntResumed p => exact leaves _ rfl (.line .resume)
  | responseSent p => exact leaves _ rfl (.line .sent)
  | lineReturnsToMark p => exact leaves _ rfl (.line .toMark)
  | portReset p => exact leaves _ rfl (.ite (fun _ => .asIs) fun mark => .event .now (.portReset mark))
  | unknownKind p => exact leaves _ rfl .serveUnknown
  | readStatus p => exact leaves _ rfl (.serve (k := .readStatus) fun _ _ _ => .atPort .keep)
  | readEnvelope p => exact leaves _ rfl (.serve (k := .readEnvelope) fun _ _ _ => .atPort .keep)
  | setCursor p => exact leaves _ rfl (.serve (k := .setCursor) fun body _ _ => answerSetCursor_work body)
  | readNext p => exact leaves _ rfl (.serve (k := .readNext) fun body _ _ => answerReadNext_work body)
  | eventRead p => exact leaves _ rfl (.serve (k := .eventRead) fun body _ _ => answerEventRead_work body)
  | eventMask p => exact leaves _ rfl (.serve (k := .eventMask) fun _ _ _ => .atPort .mask)
  | eventClearOverflow p =>
    exact leaves _ rfl (.serve (k := .eventClearOverflow) fun _ _ _ => .atPort .clearOverflow)
  | attentionLevel p =>
    exact leaves _ rfl (.serve (k := .attentionLevel) fun body _ _ => answerAttentionLevel_work body)
  | pushCurtail p => exact leaves _ rfl (.serve (k := .pushCurtail) fun body _ _ => answerPush_work body)
  | amendCurtail p => exact leaves _ rfl (.serve (k := .amendCurtail) fun body _ _ => answerAmend_work body)
  | releaseCurtail p => exact leaves _ rfl (.serve (k := .releaseCurtail) fun body _ _ => answerRelease_work body)
  | popCurtail p => exact leaves _ rfl (.serve (k := .popCurtail) fun body _ _ => answerPop_work body)
  | releaseAllCurtail p => exact leaves _ rfl (.serve (k := .releaseAllCurtail) fun _ _ _ => .event .releaseAll)
  | claimWatch p => exact leaves _ rfl (.serve (k := .claimWatch) fun body _ _ => answerClaim_work body)
  | releaseWatch p => exact leaves _ rfl (.serve (k := .releaseWatch) fun body _ _ => answerReleaseWatch_work body)
  | connect p => exact leaves _ rfl (.serve (k := .connect) fun body _ _ => answerConnect_work body)
  | disconnect p => exact leaves _ rfl (.serve (k := .disconnect) fun _ _ _ => .event .disconnect)
  | unlock p => exact leaves _ rfl (.serve (k := .unlock) fun body _ _ => answerUnlock_work body)
  | gridTrip p => exact leaves _ rfl (.serve (k := .gridTrip) fun _ _ _ => .event .gridTrip)
  | gridRestored p => exact leaves _ rfl (.serve (k := .gridRestored) fun _ _ _ => .event .gridRestored)
  | permit p => exact leaves _ rfl (.serve (k := .permit) fun body _ _ => answerPermit_work body)
  | withdraw p => exact leaves _ rfl (.serve (k := .withdraw) fun _ _ _ => .event .withdraw)
  | sweepOnce p => exact leaves _ rfl (.serve (k := .sweepOnce) fun body _ _ => answerSweepOnce_work body)
  | sweepContinuous p =>
    exact leaves _ rfl (.serve (k := .sweepContinuous) fun body _ _ => answerSweepContinuous_work body)
  | sweepStop p => exact leaves _ rfl (.serve (k := .sweepStop) fun body _ _ => answerSweepStop_work body)
  | coolingManual p => exact leaves _ rfl (.serve (k := .coolingManual) fun body _ _ => answerCoolingManual_work body)
  | coolingAuto p => exact leaves _ rfl (.serve (k := .coolingAuto) fun body _ _ => answerCoolingAuto_work body)
  | coolingRetry p => exact leaves _ rfl (.serve (k := .coolingRetry) fun _ _ _ => .event .coolingRetry)
  | holdSet p => exact leaves _ rfl (.serve (k := .holdSet) fun _ _ _ => .event .holdSet)
  | holdClear p => exact leaves _ rfl (.serve (k := .holdClear) fun _ _ _ => .event .holdClear)
  | releaseNow p => exact leaves _ rfl (.serve (k := .releaseNow) fun body _ _ => answerReleaseNow_work body)
  | fireReset p => exact leaves _ rfl (.serve (k := .fireReset) fun body _ _ => answerFireReset_work body)
  | detectorEnable p =>
    exact leaves _ rfl (.serve (k := .detectorEnable) fun body _ _ => answerDetectorEnable_work body)
  | detectorDisable p =>
    exact leaves _ rfl (.serve (k := .detectorDisable) fun body _ _ => answerDetectorDisable_work body)
  | configWrite p => exact leaves _ rfl (.serve (k := .configWrite) fun body _ _ => answerConfigWrite_work body)
  | configRead p => exact leaves _ rfl (.serve (k := .configRead) fun body _ _ => answerConfigRead_work body)
  | configAccept p => exact leaves _ rfl (.serve (k := .configAccept) fun body _ _ => answerConfigAccept_work body)
  | curtailExpiry h =>
    refine leaves _ rfl ?_
    cases found : s.stack.find h with
    | none => exact .asIs
    | some e => exact .after fun dt timed => .event (.later dt) (.expiry (advance_timed found timed))
  | periodBoundary =>
    exact leaves _ rfl (.after fun dt due => .silent (.later dt)
      (.chain (.boundary ((Timer.pass_isRunning _ dt).trans (Timer.isRunning_of_due due)))))
  | sweepBegin => exact leaves _ rfl (.ite (fun may => .silent .now (.chain (.begin may))) fun _ => .asIs)
  | chainFrameSend => exact leaves _ rfl (.ite (fun _ => .silent .now (.chain .send)) fun _ => .asIs)
  | commandFrameEnd =>
    exact leaves _ rfl (.ite (fun _ => .after fun dt _ => .silent (.later dt) (.chain .await)) fun _ => .asIs)
  | chainLineFree =>
    exact leaves _ rfl (.ite (fun _ => .after fun dt _ => .silent (.later dt) (.chain .quiet)) fun _ => .asIs)
  | bleedOffSent =>
    exact leaves _ rfl (.ite (fun _ => .after fun dt _ => .silent (.later dt) (.chain .bleedOff)) fun _ => .asIs)
  | chainReplyEnd chars =>
    have reply : EndsReply (.chainReplyEnd chars) := trivial
    refine leaves _ rfl ?_
    cases s.chain.awaited with
    | none => exact .asIs
    | some e => exact .endReply reply e chars
  | chainReplyError chars =>
    have reply : EndsReply (.chainReplyError chars) := trivial
    refine leaves _ rfl ?_
    cases s.chain.awaited with
    | none => exact .asIs
    | some e => exact .breakReply reply e chars
  | chainReplyTimeout someReceived =>
    have reply : EndsReply (.chainReplyTimeout someReceived) := trivial
    refine leaves _ rfl ?_
    cases s.chain.awaited with
    | none => exact .asIs
    | some e =>
      exact .ite (fun _ => .failAttempt reply (.line _) e _)
        (fun _ => .after fun dt _ => .failAttempt reply (.lineLater dt _) e _)
  | ageTimerExpiry => exact leaves _ rfl (.after fun dt _ => .event (.later dt) .ageTimer)
  | pwmPeriodStart => exact leaves _ rfl (.event (.later _) .periodStart)
  | tachWindowEnd => exact leaves _ rfl (.event (.later _) .windowEnd)
  | graceTimerExpiry ch => exact leaves _ rfl (.after fun dt _ => .silent (.later dt) .grace)
  | retryTimerExpiry ch =>
    refine leaves _ rfl (.ite (fun faulted => .after fun dt _ => .silent (.later dt) (.retry ?_)) fun _ => .asIs)
    cases ch <;> exact faulted
  | releasePulseEnd => exact leaves _ rfl (.after fun dt _ => .silent (.later dt) .releasePulse)
  | fireSampling levels panel hold => exact leaves _ rfl (.event (.later _) .sampling)
  | countdownExpiry =>
    exact leaves _ rfl (.ite (fun counting => .after fun dt _ => .event (.later dt) (.countdown counting))
      fun _ => .asIs)
  | disablementExpiry i => exact leaves _ rfl (.after fun dt _ => .event (.later dt) .disablement)
  | contactorFeedbackChange k v =>
    exact leaves _ rfl (.ite (fun _ => .asIs) fun new => .event .now (.feedback new))
  | disagreementTimerExpiry k => exact leaves _ rfl (.after fun dt _ => .event (.later dt) .disagreement)
  | prechargeTimerExpiry =>
    exact leaves _ rfl (.after fun dt due => .event (.later dt)
      (.precharge ((Timer.pass_isRunning _ dt).trans (Timer.isRunning_of_due due))))
  | cooldownExpiry => exact leaves _ rfl (.after fun dt _ => .silent (.later dt) .cooldown)
  | openWaitExpiry =>
    exact leaves _ rfl (.after fun dt due => .event (.later dt)
      (.openWait ((Timer.pass_isRunning _ dt).trans (Timer.isRunning_of_due due))))
  | dataLossOpenExpiry =>
    exact leaves _ rfl (.after fun dt due => .event (.later dt)
      (.dataLossOpen ((Timer.pass_isRunning _ dt).trans (Timer.isRunning_of_due due))))
  | permitLapse =>
    exact leaves _ rfl (.after fun dt due => .event (.later dt)
      (.lapse ((Timer.pass_isRunning _ dt).trans (Timer.isRunning_of_due due))))
  | gridLineChange v => exact leaves _ rfl (.ite (fun _ => .asIs) fun new => .event .now (.gridLine new))
  | convNoticeTimerExpiry => exact leaves _ rfl (.after fun dt _ => .event (.later dt) .convNotice)
  | reconnectTimerExpiry =>
    exact leaves _ rfl (.after fun dt due => .event (.later dt)
      (.reconnect ((Timer.pass_isRunning _ dt).trans (Timer.isRunning_of_due due))))
  | tachFilteredLevelChange ch high => exact leaves _ rfl (.silent .now .level)

/-- Every command but the resets. -/
theorem exec_leaves {c : Instr} {s t : State} (notReset : c ≠ .powerOnReset) (notEnd : c ≠ .powerOnResetEnd)
    (executed : exec c s = .next t) : Leaves c s t := by
  cases held : s.resetHeld with
  | false => exact running_leaves notReset notEnd held executed
  | true =>
    have stays : exec c s = .next s := exec_of_resetHeld held notReset notEnd
    exact Host.Outcome.next.inj (stays.symm.trans executed) ▸ .asIs

end Sys2Proof.Machine
end

section
/-! The fields of a settled event, and how a property of the blocks is shown to be kept by every step. -/

namespace Sys2Proof.Machine

/-! ### The fields of a settled event -/

section
variable (b : State) (w : Publication) (x : Change)

@[simp] theorem State.settle_chain : (State.settle b w x).chain = x.st.chain := (State.settle_leaves b w x).chain
@[simp] theorem State.settle_table : (State.settle b w x).table = x.st.table := (State.settle_leaves b w x).table
@[simp] theorem State.settle_stack : (State.settle b w x).stack = x.st.stack := (State.settle_leaves b w x).stack
@[simp] theorem State.settle_slots : (State.settle b w x).slots = x.st.slots := (State.settle_leaves b w x).slots
@[simp] theorem State.settle_config : (State.settle b w x).config = x.st.config := (State.settle_leaves b w x).config
@[simp] theorem State.settle_clock : (State.settle b w x).clock = x.st.clock := (State.settle_leaves b w x).clock
@[simp] theorem State.settle_freeReads : (State.settle b w x).freeReads = x.st.freeReads :=
  (State.settle_leaves b w x).freeReads
@[simp] theorem State.settle_pending : (State.settle b w x).pending = x.st.pending :=
  (State.settle_leaves b w x).pending
@[simp] theorem State.settle_resetHeld : (State.settle b w x).resetHeld = x.st.resetHeld :=
  (State.settle_leaves b w x).resetHeld

/-- Whether and how the event publishes: the inputs are compared as the event leaves them, all blocks derived. -/
def State.settledPublication : Option PublicationKind :=
  publicationDue w b.inputs (State.derived b x.st (decide (w = .sweep))).inputs

theorem State.settle_eq :
    State.settle b w x =
      ((State.derived b x.st (decide (w = .sweep))).published (State.settledPublication b w x)).deliver
        (x.raised ++
          differenceEvents b
            ((State.derived b x.st (decide (w = .sweep))).published (State.settledPublication b w x)) ++
          publicationEvents (State.settledPublication b w x) b
            ((State.derived b x.st (decide (w = .sweep))).published (State.settledPublication b w x))) := rfl

@[simp] theorem State.settle_fire : (State.settle b w x).fire = x.st.fire.withRelays x.st.config := by
  rw [State.settle_eq]
  cases State.settledPublication b w x <;> rfl

@[simp] theorem State.settle_conn : (State.settle b w x).conn = rederiveConn b x.st := by
  rw [State.settle_eq]
  cases State.settledPublication b w x <;> rfl

@[simp] theorem State.settle_thermal :
    (State.settle b w x).thermal = rederiveThermal (decide (w = .sweep)) b x.st := by
  rw [State.settle_eq]
  cases State.settledPublication b w x <;> rfl

/-- The event publishes from the state that it leaves (R46), or keeps the envelope. -/
theorem State.settle_envelope :
    (State.settle b w x).envelope =
      match State.settledPublication b w x with
      | none => x.st.envelope
      | some kind => (({ State.settle b w x with envelope := x.st.envelope } : State).publish kind).envelope := by
  rw [State.settle_eq]
  cases State.settledPublication b w x <;> rfl

theorem State.settle_inputs :
    (State.settle b w x).inputs = (State.derived b x.st (decide (w = .sweep))).inputs := by
  rw [State.settle_eq]
  cases State.settledPublication b w x <;> rfl

end

/-! ### Properties of the blocks -/

/-- Two states agree on every block but the ports. -/
structure Agrees (s u : State) : Prop where
  chain : u.chain = s.chain
  table : u.table = s.table
  envelope : u.envelope = s.envelope
  stack : u.stack = s.stack
  slots : u.slots = s.slots
  thermal : u.thermal = s.thermal
  fire : u.fire = s.fire
  conn : u.conn = s.conn
  config : u.config = s.config

theorem Agrees.setPort (s : State) (p : Port) (q : PortState) : Agrees s (s.setPort p q) :=
  ⟨rfl, rfl, rfl, rfl, rfl, rfl, rfl, rfl, rfl⟩

theorem Agrees.respond (s : State) (p : Port) (kind : Byte) (o : Reply) (body : List Byte) :
    Agrees s (s.respond p kind o body) := ⟨rfl, rfl, rfl, rfl, rfl, rfl, rfl, rfl, rfl⟩

theorem Agrees.answered (s : State) (n : Nat) (p : Port) (q : PortState) :
    Agrees s ({ s with freeReads := n }.setPort p q) := ⟨rfl, rfl, rfl, rfl, rfl, rfl, rfl, rfl, rfl⟩

theorem Agrees.pending (s : State) (rest : List Instr) : Agrees s { s with pending := rest } :=
  ⟨rfl, rfl, rfl, rfl, rfl, rfl, rfl, rfl, rfl⟩

theorem Agrees.afterReset (s : State) (held : Bool) : Agrees State.reset (s.afterReset held) :=
  ⟨rfl, rfl, rfl, rfl, rfl, rfl, rfl, rfl, rfl⟩

/-- A property of the blocks that holds at reset and that the passing of time, the end of a use of the chain line,
silent work, and every settled event keep. -/
structure KeptByWork (P : State → Prop) : Prop where
  agrees : ∀ {s u : State}, Agrees s u → P s → P u
  reset : P State.reset
  advance : ∀ {s : State} (dt : Nat), P s → P (s.advance dt)
  line : ∀ {s : State} (n : Nat), P s → P (s.withChain (s.chain.lineBusy n))
  silent : ∀ {c : Instr} {b u : State}, SilentWork c b u → P b → P u
  event : ∀ {c : Instr} {b : State} {w : Publication} {x : Change}, EventWork c b w x → P b → P (State.settle b w x)

section
variable {P : State → Prop} (kept : KeptByWork P) {s : State}
include kept

theorem KeptByWork.began {b : State} (began : Began s b) (hs : P s) : P b := by
  cases began with
  | now => exact hs
  | later dt => exact kept.advance dt hs
  | taken p => exact kept.agrees (.setPort s p _) hs
  | line n => exact kept.line n hs
  | lineLater dt n => exact kept.line n (kept.advance dt hs)

theorem KeptByWork.leaves {c : Instr} {t : State} (leaves : Leaves c s t) (hs : P s) : P t := by
  cases leaves with
  | asIs => exact hs
  | line work => exact kept.agrees (.setPort s _ _) hs
  | answered n none edit => exact kept.agrees (.answered s n _ _) hs
  | silent began work => exact kept.silent work (kept.began began hs)
  | event began work => exact kept.event work (kept.began began hs)
  | requested none work => exact kept.agrees (.respond _ _ _ _ _) (kept.event work (kept.began (.taken _) hs))

theorem KeptByWork.exec {c : Instr} {t : State} (executed : exec c s = .next t) (hs : P s) : P t := by
  by_cases reset : c = .powerOnReset
  · subst reset
    exact Host.Outcome.next.inj executed ▸ kept.agrees (.afterReset s true) kept.reset
  by_cases ended : c = .powerOnResetEnd
  · subst ended
    exact Host.Outcome.next.inj executed ▸ kept.agrees (.afterReset s false) kept.reset
  exact kept.leaves (exec_leaves reset ended executed) hs

/-- Every step keeps the property. -/
theorem KeptByWork.step {t : State} (stepped : step s = .next t) (hs : P s) : P t := by
  unfold Machine.step at stepped
  split at stepped
  case h_1 =>
    obtain rfl := Host.Outcome.next.inj stepped
    unfold State.idle State.running
    split
    · exact hs
    · exact kept.advance _ hs
  case h_2 => exact kept.exec stepped (kept.agrees (.pending s _) hs)

end

end Sys2Proof.Machine
end

section
/-! What the shared pieces of an event's work leave as it was: every block that the manual's rule for them does not
name. -/

namespace Sys2Proof.Machine

@[simp] theorem Change.quiet_st (s : State) : (Change.quiet s).st = s := rfl
@[simp] theorem Change.quiet_raised (s : State) : (Change.quiet s).raised = [] := rfl
@[simp] theorem Change.raise_st (x : Change) (rs : List Raised) : (x.raise rs).st = x.st := rfl
@[simp] theorem Change.andThen_st (x : Change) (f : State → Change) : (x.andThen f).st = (f x.st).st := rfl

/-- A push changes the stack, and the slot whose entry it displaced. -/
@[simp] theorem State.afterPush_keeps (s : State) (st : StackState) (h : Nat) (d : Option Entry) :
    (s.afterPush st h d).st.chain = s.chain ∧ (s.afterPush st h d).st.table = s.table ∧
    (s.afterPush st h d).st.envelope = s.envelope ∧ (s.afterPush st h d).st.thermal = s.thermal ∧
    (s.afterPush st h d).st.fire = s.fire ∧ (s.afterPush st h d).st.conn = s.conn ∧
    (s.afterPush st h d).st.ports = s.ports ∧ (s.afterPush st h d).st.config = s.config ∧
    (s.afterPush st h d).st.clock = s.clock ∧ (s.afterPush st h d).st.resetHeld = s.resetHeld ∧
    (s.afterPush st h d).st.freeReads = s.freeReads ∧ (s.afterPush st h d).st.pending = s.pending := by
  cases d <;> exact ⟨rfl, rfl, rfl, rfl, rfl, rfl, rfl, rfl, rfl, rfl, rfl, rfl⟩

@[simp] theorem State.afterPush_stack (s : State) (st : StackState) (h : Nat) (d : Option Entry) :
    (s.afterPush st h d).st.stack = st := by
  cases d <;> rfl

@[simp] theorem State.rechained_keeps (s : State) (k : Nat) :
    (s.rechained k).chain = s.chain ∧ (s.rechained k).table = s.table ∧ (s.rechained k).envelope = s.envelope ∧
    (s.rechained k).thermal = s.thermal ∧ (s.rechained k).fire = s.fire ∧ (s.rechained k).conn = s.conn ∧
    (s.rechained k).ports = s.ports ∧ (s.rechained k).config = s.config ∧ (s.rechained k).clock = s.clock ∧
    (s.rechained k).resetHeld = s.resetHeld ∧ (s.rechained k).freeReads = s.freeReads ∧
    (s.rechained k).pending = s.pending := ⟨rfl, rfl, rfl, rfl, rfl, rfl, rfl, rfl, rfl, rfl, rfl, rfl⟩

@[simp] theorem State.takeClaim_keeps (s : State) (p : Port) (k : Nat) (w : WatchSpec) :
    (s.takeClaim p k w).chain = s.chain ∧ (s.takeClaim p k w).table = s.table ∧
    (s.takeClaim p k w).envelope = s.envelope ∧ (s.takeClaim p k w).thermal = s.thermal ∧
    (s.takeClaim p k w).fire = s.fire ∧ (s.takeClaim p k w).conn = s.conn ∧ (s.takeClaim p k w).ports = s.ports ∧
    (s.takeClaim p k w).config = s.config ∧ (s.takeClaim p k w).clock = s.clock ∧
    (s.takeClaim p k w).resetHeld = s.resetHeld ∧ (s.takeClaim p k w).freeReads = s.freeReads ∧
    (s.takeClaim p k w).pending = s.pending := by
  unfold State.takeClaim
  dsimp only
  split <;> exact ⟨rfl, rfl, rfl, rfl, rfl, rfl, rfl, rfl, rfl, rfl, rfl, rfl⟩

@[simp] theorem State.takeRelease_keeps (s : State) (k : Nat) :
    (s.takeRelease k).chain = s.chain ∧ (s.takeRelease k).table = s.table ∧
    (s.takeRelease k).envelope = s.envelope ∧ (s.takeRelease k).thermal = s.thermal ∧
    (s.takeRelease k).fire = s.fire ∧ (s.takeRelease k).conn = s.conn ∧ (s.takeRelease k).ports = s.ports ∧
    (s.takeRelease k).config = s.config ∧ (s.takeRelease k).clock = s.clock ∧
    (s.takeRelease k).resetHeld = s.resetHeld ∧ (s.takeRelease k).freeReads = s.freeReads ∧
    (s.takeRelease k).pending = s.pending := by
  unfold State.takeRelease
  dsimp only
  split <;> exact ⟨rfl, rfl, rfl, rfl, rfl, rfl, rfl, rfl, rfl, rfl, rfl, rfl⟩

@[simp] theorem State.releasePort_keeps (s : State) (p : Port) :
    (s.releasePort p).chain = s.chain ∧ (s.releasePort p).table = s.table ∧
    (s.releasePort p).envelope = s.envelope ∧ (s.releasePort p).thermal = s.thermal ∧
    (s.releasePort p).fire = s.fire ∧ (s.releasePort p).conn = s.conn ∧ (s.releasePort p).ports = s.ports ∧
    (s.releasePort p).config = s.config ∧ (s.releasePort p).clock = s.clock ∧
    (s.releasePort p).resetHeld = s.resetHeld ∧ (s.releasePort p).freeReads = s.freeReads ∧
    (s.releasePort p).pending = s.pending := ⟨rfl, rfl, rfl, rfl, rfl, rfl, rfl, rfl, rfl, rfl, rfl, rfl⟩

/-- A port reset acts on the port, its slots and their entries, and for SITE on the hold (R178). -/
@[simp] theorem State.portReset_keeps (s : State) (p : Port) :
    (s.portReset p).chain = s.chain ∧ (s.portReset p).table = s.table ∧ (s.portReset p).envelope = s.envelope ∧
    (s.portReset p).thermal = s.thermal ∧ (s.portReset p).conn = s.conn ∧ (s.portReset p).config = s.config ∧
    (s.portReset p).clock = s.clock ∧ (s.portReset p).resetHeld = s.resetHeld ∧
    (s.portReset p).freeReads = s.freeReads ∧ (s.portReset p).pending = s.pending := by
  unfold State.portReset
  dsimp only
  split <;> exact ⟨rfl, rfl, rfl, rfl, rfl, rfl, rfl, rfl, rfl, rfl⟩

@[simp] theorem State.portReset_stack (s : State) (p : Port) : (s.portReset p).stack = (s.releasePort p).stack := by
  unfold State.portReset
  dsimp only
  split <;> rfl

@[simp] theorem State.portReset_slots (s : State) (p : Port) : (s.portReset p).slots = (s.releasePort p).slots := by
  unfold State.portReset
  dsimp only
  split <;> rfl

theorem State.portReset_fire (s : State) (p : Port) :
    (s.portReset p).fire = if p = .site then s.fire.dropSiteHold s.config else s.fire := by
  unfold State.portReset
  dsimp only
  split <;> rfl

@[simp] theorem State.pushSlot_keeps (s : State) (k : Nat) :
    (s.pushSlot k).st.chain = s.chain ∧ (s.pushSlot k).st.table = s.table ∧
    (s.pushSlot k).st.envelope = s.envelope ∧ (s.pushSlot k).st.thermal = s.thermal ∧
    (s.pushSlot k).st.fire = s.fire ∧ (s.pushSlot k).st.conn = s.conn ∧ (s.pushSlot k).st.ports = s.ports ∧
    (s.pushSlot k).st.config = s.config ∧ (s.pushSlot k).st.clock = s.clock ∧
    (s.pushSlot k).st.resetHeld = s.resetHeld ∧ (s.pushSlot k).st.freeReads = s.freeReads ∧
    (s.pushSlot k).st.pending = s.pending := by
  unfold State.pushSlot
  split
  · exact ⟨rfl, rfl, rfl, rfl, rfl, rfl, rfl, rfl, rfl, rfl, rfl, rfl⟩
  · dsimp only
    split
    · simp
    · exact ⟨rfl, rfl, rfl, rfl, rfl, rfl, rfl, rfl, rfl, rfl, rfl, rfl⟩

@[simp] theorem State.pushSlots_keeps (s : State) (ks : List Nat) :
    (s.pushSlots ks).st.chain = s.chain ∧ (s.pushSlots ks).st.table = s.table ∧
    (s.pushSlots ks).st.envelope = s.envelope ∧ (s.pushSlots ks).st.thermal = s.thermal ∧
    (s.pushSlots ks).st.fire = s.fire ∧ (s.pushSlots ks).st.conn = s.conn ∧ (s.pushSlots ks).st.ports = s.ports ∧
    (s.pushSlots ks).st.config = s.config ∧ (s.pushSlots ks).st.clock = s.clock ∧
    (s.pushSlots ks).st.resetHeld = s.resetHeld ∧ (s.pushSlots ks).st.freeReads = s.freeReads ∧
    (s.pushSlots ks).st.pending = s.pending := by
  induction ks generalizing s with
  | nil => exact ⟨rfl, rfl, rfl, rfl, rfl, rfl, rfl, rfl, rfl, rfl, rfl, rfl⟩
  | cons k rest ih => simp [State.pushSlots, ih]

/-- The evaluation of the watch table acts on the stack and the slots (R87). -/
@[simp] theorem State.evaluateWatch_keeps (s : State) :
    s.evaluateWatch.st.chain = s.chain ∧ s.evaluateWatch.st.table = s.table ∧
    s.evaluateWatch.st.envelope = s.envelope ∧ s.evaluateWatch.st.thermal = s.thermal ∧
    s.evaluateWatch.st.fire = s.fire ∧ s.evaluateWatch.st.conn = s.conn ∧ s.evaluateWatch.st.ports = s.ports ∧
    s.evaluateWatch.st.config = s.config ∧ s.evaluateWatch.st.clock = s.clock ∧
    s.evaluateWatch.st.resetHeld = s.resetHeld ∧ s.evaluateWatch.st.freeReads = s.freeReads ∧
    s.evaluateWatch.st.pending = s.pending := by
  simp [State.evaluateWatch]

@[simp] theorem State.takeSweep_keeps (s : State) :
    s.takeSweep.st.envelope = s.envelope ∧ s.takeSweep.st.stack = s.stack ∧ s.takeSweep.st.slots = s.slots ∧
    s.takeSweep.st.thermal = s.thermal ∧ s.takeSweep.st.fire = s.fire ∧ s.takeSweep.st.conn = s.conn ∧
    s.takeSweep.st.ports = s.ports ∧ s.takeSweep.st.config = s.config ∧ s.takeSweep.st.clock = s.clock ∧
    s.takeSweep.st.resetHeld = s.resetHeld ∧ s.takeSweep.st.freeReads = s.freeReads ∧
    s.takeSweep.st.pending = s.pending := ⟨rfl, rfl, rfl, rfl, rfl, rfl, rfl, rfl, rfl, rfl, rfl, rfl⟩

/-- A sweep completion acts on no other block (R12, R22, R44). -/
@[simp] theorem State.completion_keeps (s : State) :
    s.completion.st.envelope = s.envelope ∧ s.completion.st.fire = s.fire ∧ s.completion.st.ports = s.ports ∧
    s.completion.st.config = s.config ∧ s.completion.st.clock = s.clock ∧ s.completion.st.resetHeld = s.resetHeld ∧
    s.completion.st.freeReads = s.freeReads ∧ s.completion.st.pending = s.pending := by
  simp [State.completion, State.withConn, State.measureThermal]

/-- The state of a completion in which the connection controller acts: chain, table, watch table and thermal demand
have followed the sweep. -/
def State.measured (s : State) : State := s.takeSweep.st.evaluateWatch.st.measureThermal

@[simp] theorem State.measured_keeps (s : State) :
    s.measured.chain = s.takeSweep.st.chain ∧ s.measured.table = s.takeSweep.st.table ∧
    s.measured.envelope = s.envelope ∧ s.measured.stack = s.takeSweep.st.evaluateWatch.st.stack ∧
    s.measured.slots = s.takeSweep.st.evaluateWatch.st.slots ∧ s.measured.fire = s.fire ∧
    s.measured.conn = s.conn ∧ s.measured.config = s.config ∧ s.measured.ports = s.ports := by
  simp [State.measured, State.measureThermal]

theorem State.completion_st (s : State) : s.completion.st = (s.measured.withConn s.measured.sweepConn).st := rfl

theorem State.completion_conn (s : State) : s.completion.st.conn = s.measured.sweepConn.conn := rfl

theorem State.completion_thermal (s : State) : s.completion.st.thermal = s.measured.thermal := rfl

@[simp] theorem State.completion_chain (s : State) : s.completion.st.chain = s.takeSweep.st.chain := by
  simp [State.completion, State.withConn, State.measureThermal]

@[simp] theorem State.completion_table (s : State) : s.completion.st.table = s.takeSweep.st.table := by
  simp [State.completion, State.withConn, State.measureThermal]

@[simp] theorem State.completion_stack (s : State) :
    s.completion.st.stack = s.takeSweep.st.evaluateWatch.st.stack := rfl

@[simp] theorem State.completion_slots (s : State) :
    s.completion.st.slots = s.takeSweep.st.evaluateWatch.st.slots := rfl

@[simp] theorem State.withConn_keeps (s : State) (x : ConnChange) :
    (s.withConn x).st.chain = s.chain ∧ (s.withConn x).st.table = s.table ∧
    (s.withConn x).st.envelope = s.envelope ∧ (s.withConn x).st.stack = s.stack ∧
    (s.withConn x).st.slots = s.slots ∧ (s.withConn x).st.thermal = s.thermal ∧ (s.withConn x).st.fire = s.fire ∧
    (s.withConn x).st.ports = s.ports ∧ (s.withConn x).st.config = s.config ∧ (s.withConn x).st.clock = s.clock ∧
    (s.withConn x).st.resetHeld = s.resetHeld ∧ (s.withConn x).st.freeReads = s.freeReads ∧
    (s.withConn x).st.pending = s.pending := ⟨rfl, rfl, rfl, rfl, rfl, rfl, rfl, rfl, rfl, rfl, rfl, rfl, rfl⟩

@[simp] theorem State.withConn_conn (s : State) (x : ConnChange) : (s.withConn x).st.conn = x.conn := rfl

@[simp] theorem State.openForFire_keeps (s : State) (f : FireStatus) :
    (s.openForFire f).st.chain = s.chain ∧ (s.openForFire f).st.table = s.table ∧
    (s.openForFire f).st.envelope = s.envelope ∧ (s.openForFire f).st.stack = s.stack ∧
    (s.openForFire f).st.slots = s.slots ∧ (s.openForFire f).st.thermal = s.thermal ∧
    (s.openForFire f).st.fire = s.fire ∧ (s.openForFire f).st.ports = s.ports ∧
    (s.openForFire f).st.config = s.config ∧ (s.openForFire f).st.clock = s.clock ∧
    (s.openForFire f).st.resetHeld = s.resetHeld ∧ (s.openForFire f).st.freeReads = s.freeReads ∧
    (s.openForFire f).st.pending = s.pending := by
  unfold State.openForFire
  split <;> exact ⟨rfl, rfl, rfl, rfl, rfl, rfl, rfl, rfl, rfl, rfl, rfl, rfl, rfl⟩

@[simp] theorem State.dropFallback_keeps (s : State) :
    s.dropFallback.chain = s.chain ∧ s.dropFallback.table = s.table ∧ s.dropFallback.envelope = s.envelope ∧
    s.dropFallback.slots = s.slots ∧ s.dropFallback.thermal = s.thermal ∧ s.dropFallback.fire = s.fire ∧
    s.dropFallback.ports = s.ports ∧ s.dropFallback.config = s.config ∧ s.dropFallback.clock = s.clock ∧
    s.dropFallback.resetHeld = s.resetHeld ∧ s.dropFallback.freeReads = s.freeReads ∧
    s.dropFallback.pending = s.pending := by
  unfold State.dropFallback
  split <;> exact ⟨rfl, rfl, rfl, rfl, rfl, rfl, rfl, rfl, rfl, rfl, rfl, rfl⟩

@[simp] theorem State.grant_keeps (s : State) (n : Nat) :
    (s.grant n).chain = s.chain ∧ (s.grant n).table = s.table ∧ (s.grant n).envelope = s.envelope ∧
    (s.grant n).slots = s.slots ∧ (s.grant n).thermal = s.thermal ∧ (s.grant n).fire = s.fire ∧
    (s.grant n).ports = s.ports ∧ (s.grant n).config = s.config ∧ (s.grant n).clock = s.clock ∧
    (s.grant n).resetHeld = s.resetHeld ∧ (s.grant n).freeReads = s.freeReads ∧ (s.grant n).pending = s.pending := by
  simp [State.grant]

@[simp] theorem State.withdraw_keeps (s : State) :
    s.withdraw.chain = s.chain ∧ s.withdraw.table = s.table ∧ s.withdraw.envelope = s.envelope ∧
    s.withdraw.slots = s.slots ∧ s.withdraw.thermal = s.thermal ∧ s.withdraw.fire = s.fire ∧
    s.withdraw.ports = s.ports ∧ s.withdraw.config = s.config ∧ s.withdraw.clock = s.clock ∧
    s.withdraw.resetHeld = s.resetHeld ∧ s.withdraw.freeReads = s.freeReads ∧ s.withdraw.pending = s.pending := by
  simp [State.withdraw]

/-- A lapse acts on the permit and on the stack (R157). -/
@[simp] theorem State.lapse_keeps (s : State) :
    s.lapse.st.chain = s.chain ∧ s.lapse.st.table = s.table ∧ s.lapse.st.envelope = s.envelope ∧
    s.lapse.st.thermal = s.thermal ∧ s.lapse.st.fire = s.fire ∧ s.lapse.st.ports = s.ports ∧
    s.lapse.st.config = s.config ∧ s.lapse.st.clock = s.clock ∧ s.lapse.st.resetHeld = s.resetHeld ∧
    s.lapse.st.freeReads = s.freeReads ∧ s.lapse.st.pending = s.pending := by
  unfold State.lapse
  split
  · simp
  · exact ⟨rfl, rfl, rfl, rfl, rfl, rfl, rfl, rfl, rfl, rfl, rfl⟩

@[simp] theorem State.enterReleased_keeps (s : State) (e : ReleaseEntry) :
    (s.enterReleased e).st.chain = s.chain ∧ (s.enterReleased e).st.table = s.table ∧
    (s.enterReleased e).st.envelope = s.envelope ∧ (s.enterReleased e).st.stack = s.stack ∧
    (s.enterReleased e).st.slots = s.slots ∧ (s.enterReleased e).st.conn = s.conn ∧
    (s.enterReleased e).st.ports = s.ports ∧ (s.enterReleased e).st.config = s.config ∧
    (s.enterReleased e).st.clock = s.clock ∧ (s.enterReleased e).st.resetHeld = s.resetHeld ∧
    (s.enterReleased e).st.freeReads = s.freeReads ∧ (s.enterReleased e).st.pending = s.pending :=
  ⟨rfl, rfl, rfl, rfl, rfl, rfl, rfl, rfl, rfl, rfl, rfl, rfl⟩

@[simp] theorem State.leaveConfigured_keeps (s : State) (n : Nat) :
    (s.leaveConfigured n).st.table = s.table ∧ (s.leaveConfigured n).st.envelope = s.envelope ∧
    (s.leaveConfigured n).st.stack = s.stack ∧ (s.leaveConfigured n).st.slots = s.slots ∧
    (s.leaveConfigured n).st.fire = s.fire ∧ (s.leaveConfigured n).st.conn = s.conn ∧
    (s.leaveConfigured n).st.ports = s.ports ∧ (s.leaveConfigured n).st.clock = s.clock ∧
    (s.leaveConfigured n).st.resetHeld = s.resetHeld ∧ (s.leaveConfigured n).st.freeReads = s.freeReads ∧
    (s.leaveConfigured n).st.pending = s.pending := by
  unfold State.leaveConfigured
  split <;> exact ⟨rfl, rfl, rfl, rfl, rfl, rfl, rfl, rfl, rfl, rfl, rfl⟩

/-- A stored value acts on the records, the divisor and the detectors (R3, R15, R120). -/
@[simp] theorem State.storeItem_keeps (s : State) (n : Nat) (v : ItemValue) :
    (s.storeItem n v).table = s.table ∧ (s.storeItem n v).envelope = s.envelope ∧
    (s.storeItem n v).stack = s.stack ∧ (s.storeItem n v).slots = s.slots ∧ (s.storeItem n v).thermal = s.thermal ∧
    (s.storeItem n v).conn = s.conn ∧ (s.storeItem n v).ports = s.ports ∧ (s.storeItem n v).clock = s.clock ∧
    (s.storeItem n v).resetHeld = s.resetHeld ∧ (s.storeItem n v).freeReads = s.freeReads ∧
    (s.storeItem n v).pending = s.pending := by
  unfold State.storeItem State.itemEffect
  split
  · exact ⟨rfl, rfl, rfl, rfl, rfl, rfl, rfl, rfl, rfl, rfl, rfl⟩
  · split
    · exact ⟨rfl, rfl, rfl, rfl, rfl, rfl, rfl, rfl, rfl, rfl, rfl⟩
    · split
      · exact ⟨rfl, rfl, rfl, rfl, rfl, rfl, rfl, rfl, rfl, rfl, rfl⟩
      · split <;> exact ⟨rfl, rfl, rfl, rfl, rfl, rfl, rfl, rfl, rfl, rfl, rfl⟩

@[simp] theorem State.accept_keeps (s : State) :
    s.accept.st.envelope = s.envelope ∧ s.accept.st.stack = s.stack ∧ s.accept.st.slots = s.slots ∧
    s.accept.st.fire = s.fire ∧ s.accept.st.conn = s.conn ∧ s.accept.st.ports = s.ports ∧
    s.accept.st.clock = s.clock ∧ s.accept.st.resetHeld = s.resetHeld ∧ s.accept.st.freeReads = s.freeReads ∧
    s.accept.st.pending = s.pending := ⟨rfl, rfl, rfl, rfl, rfl, rfl, rfl, rfl, rfl, rfl⟩

end Sys2Proof.Machine
end

section
/-! What a command makes of the blocks, between the states before and after it: nothing; silent work, or an event
settled, after some time has passed. -/

namespace Sys2Proof.Machine

/-! ### No time -/

@[simp] theorem Timer.pass_zero (t : Timer) : t.pass 0 = t := by cases t <;> rfl

@[simp] theorem Entry.pass_zero (e : Entry) : e.pass 0 = e := by
  obtain ⟨handle, owner, origin, charge, discharge, remaining⟩ := e
  cases remaining <;> rfl

@[simp] theorem Detector.pass_zero (d : Detector) : d.pass 0 = d := by
  unfold Detector.pass
  cases h : d.disablement <;> simp [← h]

@[simp] theorem ContactorRecord.pass_zero (r : ContactorRecord) : r.pass 0 = r := by simp [ContactorRecord.pass]

@[simp] theorem TachRecord.pass_zero (r : TachRecord) : r.pass 0 = r := by simp [TachRecord.pass]

@[simp] theorem State.advance_zero (s : State) : s.advance 0 = s := by
  have entries : s.stack.entries.map (Entry.pass 0) = s.stack.entries := by simp [funext Entry.pass_zero]
  have detectors : s.fire.detectors.map (Detector.pass 0) = s.fire.detectors := by simp [funext Detector.pass_zero]
  simp [State.advance, ThermalState.pass, FireControl.pass, ConnectionControl.pass, entries, detectors]

/-- A chain as it was, but that a use of its line may have ended. -/
def ChainState.LineAlone (c d : ChainState) : Prop := d = c ∨ ∃ n, d = c.lineBusy n

/-- Where the work begins, some time has passed, and the chain line or a port's queue may have moved on. -/
theorem Began.advanced {s b : State} (began : Began s b) :
    ∃ dt chain ports, (s.advance dt).chain.LineAlone chain ∧
      b = { s.advance dt with chain := chain, ports := ports } := by
  cases began with
  | now => exact ⟨0, _, s.ports, .inl rfl, by simp⟩
  | later dt => exact ⟨dt, _, _, .inl rfl, rfl⟩
  | taken p => exact ⟨0, _, _, .inl rfl, by rw [State.advance_zero]; rfl⟩
  | line n => exact ⟨0, _, _, .inr ⟨n, rfl⟩, by rw [State.advance_zero]; rfl⟩
  | lineLater dt n => exact ⟨dt, _, _, .inr ⟨n, rfl⟩, rfl⟩

/-! ### Moves of the blocks -/

/-- Some time after a state, with the chain and the ports as they may be. -/
def State.later (s : State) (dt : Nat) (chain : ChainState) (ports : Ports PortState) : State :=
  { s.advance dt with chain := chain, ports := ports }

section
variable (s : State) (dt : Nat) (chain : ChainState) (ports : Ports PortState)

@[simp] theorem State.later_keeps :
    (s.later dt chain ports).table = (s.advance dt).table ∧ (s.later dt chain ports).envelope = s.envelope ∧
    (s.later dt chain ports).stack = (s.advance dt).stack ∧ (s.later dt chain ports).slots = s.slots ∧
    (s.later dt chain ports).thermal = s.thermal.pass dt ∧ (s.later dt chain ports).fire = s.fire.pass dt ∧
    (s.later dt chain ports).conn = s.conn.pass dt ∧ (s.later dt chain ports).config = s.config ∧
    (s.later dt chain ports).clock = s.clock + dt := ⟨rfl, rfl, rfl, rfl, rfl, rfl, rfl, rfl, rfl⟩

end

/-- What a command other than a reset makes of the blocks but the ports, and of the clock. -/
inductive Moves (c : Instr) (s : State) : State → Prop
  | still {t : State} (agrees : Agrees s t) (clock : t.clock = s.clock) : Moves c s t
  | silent {dt : Nat} {chain : ChainState} {ports : Ports PortState} {t : State}
      (line : (s.advance dt).chain.LineAlone chain) (work : SilentWork c (s.later dt chain ports) t) : Moves c s t
  | event {dt : Nat} {chain : ChainState} {ports : Ports PortState} {w : Publication} {x : Change} {t : State}
      (line : (s.advance dt).chain.LineAlone chain) (work : EventWork c (s.later dt chain ports) w x)
      (agrees : Agrees (State.settle (s.later dt chain ports) w x) t)
      (clock : t.clock = (State.settle (s.later dt chain ports) w x).clock) : Moves c s t

theorem Agrees.refl (s : State) : Agrees s s := ⟨rfl, rfl, rfl, rfl, rfl, rfl, rfl, rfl, rfl⟩

theorem Leaves.moves {c : Instr} {s t : State} (leaves : Leaves c s t) : Moves c s t := by
  cases leaves with
  | asIs => exact .still (.refl s) rfl
  | line work => exact .still (.setPort s _ _) rfl
  | answered n none edit => exact .still (.answered s n _ _) rfl
  | silent began work =>
    obtain ⟨dt, chain, ports, line, rfl⟩ := began.advanced
    exact .silent line work
  | event began work =>
    obtain ⟨dt, chain, ports, line, rfl⟩ := began.advanced
    exact .event line work (.refl _) rfl
  | requested none work =>
    rename_i p _ _ _ _ _
    obtain ⟨dt, chain, ports, line, began⟩ := (Began.taken (s := s) p).advanced
    rw [began] at work ⊢
    exact .event line work (.respond _ _ _ _ _) rfl

theorem exec_moves {c : Instr} {s t : State} (notReset : c ≠ .powerOnReset) (notEnd : c ≠ .powerOnResetEnd)
    (executed : exec c s = .next t) : Moves c s t := (exec_leaves notReset notEnd executed).moves

/-- No work of an event moves the clock. -/
theorem EventWork.clock {c : Instr} {b : State} {w : Publication} {x : Change} (work : EventWork c b w x) :
    x.st.clock = b.clock := by
  cases work <;> simp

theorem SilentWork.clock {c : Instr} {b u : State} (work : SilentWork c b u) : u.clock = b.clock := by
  cases work <;> rfl

/-- The envelope is written by publications alone. -/
theorem EventWork.envelope {c : Instr} {b : State} {w : Publication} {x : Change} (work : EventWork c b w x) :
    x.st.envelope = b.envelope := by
  cases work <;> simp

end Sys2Proof.Machine
end

section
/-! The fire controller through every step (Chapter 7): detectors and cause sets, the soundness of the fire state with
the detectors and the hold, and the statement that every step keeps it. -/

namespace Sys2Proof.Machine

/-! ### Detectors (section 7.1) -/

theorem alerted_iff (k : DetectorKind) (d : Detector) :
    alerted k d = true ↔ k ≠ .none ∧ (d.state = .pre ∨ d.state = .alarm) := by
  unfold alerted inService
  cases d.state <;> simp

theorem FireControl.detector_pass (f : FireControl) (dt i : Nat) :
    (f.pass dt).detector i = (f.detector i).pass dt := by
  unfold FireControl.detector FireControl.pass
  dsimp only
  rw [List.getD_eq_getElem?_getD, List.getElem?_map, List.getD_eq_getElem?_getD]
  cases f.detectors[i]? <;> rfl

/-- Detectors of the same kinds and states are alerted alike. -/
theorem KindAlerted.congr {c c' : ConfigSet} {f f' : FireControl}
    (kinds : ∀ i < 16, c'.detectorKind i = c.detectorKind i)
    (states : ∀ i, (f'.detector i).state = (f.detector i).state) (k : DetectorKind) :
    KindAlerted c' f' k ↔ KindAlerted c f k := by
  simp only [KindAlerted, states]
  exact and_congr_right fun _ => exists_congr fun i => and_congr_right fun h => by rw [kinds i h]

/-! ### Cause sets (R127 to R129) -/

theorem anyAlerted_iff (c : ConfigSet) (f : FireControl) : anyAlerted c f = true ↔ ∃ k, KindAlerted c f k := by
  simp only [anyAlerted, List.any_eq_true, List.mem_range, alerted_iff, KindAlerted]
  constructor
  · rintro ⟨i, hi, kind, state⟩
    exact ⟨c.detectorKind i, kind, i, hi, rfl, state⟩
  · rintro ⟨k, kind, i, hi, rfl, state⟩
    exact ⟨i, hi, kind, state⟩

theorem any_kind_iff (c : ConfigSet) (q : DetectorKind → Nat → Bool) (k : DetectorKind) :
    ((List.range 16).any fun i => decide (c.detectorKind i = k) && q k i) = true ↔
      ∃ i < 16, c.detectorKind i = k ∧ q k i = true := by
  simp

theorem any_alerted_iff (c : ConfigSet) (f : FireControl) (k : DetectorKind) :
    ((List.range 16).any fun i => decide (c.detectorKind i = k) && alerted k (f.detector i)) = true ↔
      KindAlerted c f k := by
  rw [any_kind_iff c (fun k i => alerted k (f.detector i))]
  simp only [alerted_iff, KindAlerted]
  constructor
  · rintro ⟨i, hi, kind, real, state⟩
    exact ⟨real, i, hi, kind, state⟩
  · rintro ⟨real, i, hi, kind, state⟩
    exact ⟨i, hi, kind, real, state⟩

theorem causesNow_are (c : ConfigSet) (f : FireControl) (panel : Bool) :
    CausesAre c { f with causes := causesNow c f panel } panel :=
  ⟨any_alerted_iff c f .offgas, any_alerted_iff c f .smoke, any_alerted_iff c f .heat, any_alerted_iff c f .manual,
    rfl⟩

/-- The members of a cause set are told of the kinds alerted, whatever else a record holds. -/
theorem CausesAre.congr {c c' : ConfigSet} {f f' : FireControl} {panel : Bool}
    (kinds : ∀ k, KindAlerted c' f' k ↔ KindAlerted c f k) (causes : f'.causes = f.causes)
    (are : CausesAre c f panel) : CausesAre c' f' panel := by
  obtain ⟨offgas, smoke, heat, manual, last⟩ := are
  rw [← causes] at offgas smoke heat manual last
  exact ⟨offgas.trans (kinds _).symm, smoke.trans (kinds _).symm, heat.trans (kinds _).symm,
    manual.trans (kinds _).symm, last⟩

theorem WatchFollows.congr {c c' : ConfigSet} {f f' : FireControl}
    (kinds : ∀ k, KindAlerted c' f' k ↔ KindAlerted c f k) (status : f'.status = f.status)
    (causes : f'.causes = f.causes) (follows : WatchFollows c f) : WatchFollows c' f' := by
  have same : (∃ k, KindAlerted c' f' k) ↔ ∃ k, KindAlerted c f k := exists_congr kinds
  exact ⟨fun h => status.trans (follows.watch (same.1 h)), fun h => status.trans (follows.quiet (mt same.2 h)),
    follows.causes.congr kinds causes⟩

/-- Without a confirmed fire the fire state is derived from the detectors (R127). -/
theorem FireControl.watchOrQuiet_follows (f : FireControl) (c : ConfigSet) : WatchFollows c (f.watchOrQuiet c) := by
  have are := causesNow_are c f false
  unfold FireControl.watchOrQuiet
  split
  case isTrue some =>
    have found := (anyAlerted_iff c f).1 some
    exact ⟨fun _ => rfl, fun none => absurd found none, ⟨are.offgas, are.smoke, are.heat, are.manual, are.panel⟩⟩
  case isFalse none =>
    have calm : ∀ k, ¬ KindAlerted c f k := fun k h => none ((anyAlerted_iff c f).2 ⟨k, h⟩)
    have clear : ∀ k, false = true ↔ KindAlerted c f k := fun k => iff_of_false Bool.false_ne_true (calm k)
    exact ⟨fun ⟨k, h⟩ => absurd h (calm k), fun _ => rfl, ⟨clear _, clear _, clear _, clear _, rfl⟩⟩

theorem FireControl.watchOrQuiet_unconfirmed (f : FireControl) (c : ConfigSet) :
    (f.watchOrQuiet c).status.confirmed = false := by
  unfold FireControl.watchOrQuiet
  split <;> rfl

theorem FireControl.watchOrQuiet_eq (f : FireControl) (c : ConfigSet) :
    f.watchOrQuiet c =
      { f with status := (f.watchOrQuiet c).status, causes := (f.watchOrQuiet c).causes } := by
  unfold FireControl.watchOrQuiet
  split <;> rfl

/-- Outside a sampling event a confirmed state stays, and any other is derived afresh. -/
theorem FireControl.reassess_eq (f : FireControl) (c : ConfigSet) :
    f.reassess c = { f with status := (f.reassess c).status, causes := (f.reassess c).causes } := by
  unfold FireControl.reassess
  split
  · rfl
  · exact f.watchOrQuiet_eq c

/-! ### The soundness of the fire state -/

/-- The fire state with the detectors while no fire is confirmed, and the countdown timer with COUNTDOWN. -/
structure FireControl.Timed (c : ConfigSet) (f : FireControl) : Prop where
  unconfirmed : f.status.confirmed = false → WatchFollows c f
  countdown : f.countdown.isRunning = true ↔ f.status = .countdown

/-- What `FireSound` says, of a configuration and a fire controller. -/
structure FireControl.Sound (c : ConfigSet) (f : FireControl) : Prop extends Timed c f where
  unheld : f.status = .countdown → f.hold = false
  held : f.status = .held → f.hold = true

theorem fireSound_iff (s : State) : FireSound s ↔ s.fire.Sound s.config := by
  have status : ¬ s.fireConfirmed ↔ s.fire.status.confirmed = false := by
    rw [s.fireConfirmed_iff, Bool.not_eq_true]
  exact ⟨fun h => ⟨⟨fun u => h.unconfirmed (status.2 u), h.countdown⟩, h.unheld, h.held⟩,
    fun h => ⟨fun u => h.unconfirmed (status.1 u), h.countdown, h.unheld, h.held⟩⟩

section
variable {c : ConfigSet} {f : FireControl}

/-- A change that leaves kinds, detector states, status, causes, timer and hold leaves the soundness. -/
theorem FireControl.Sound.congr {c' : ConfigSet} {f' : FireControl} (sound : f.Sound c)
    (kinds : ∀ k, KindAlerted c' f' k ↔ KindAlerted c f k) (status : f'.status = f.status)
    (causes : f'.causes = f.causes) (timer : f'.countdown.isRunning = f.countdown.isRunning)
    (hold : f'.hold = f.hold) : f'.Sound c' :=
  ⟨⟨fun u => (sound.unconfirmed (status ▸ u)).congr kinds status causes, by rw [timer, status]; exact sound.countdown⟩,
    fun h => hold.trans (sound.unheld (status ▸ h)), fun h => hold.trans (sound.held (status ▸ h))⟩

theorem FireControl.Sound.pass (sound : f.Sound c) (dt : Nat) : (f.pass dt).Sound c :=
  sound.congr (KindAlerted.congr (fun _ _ => rfl) fun i => by rw [f.detector_pass]; rfl) rfl rfl
    (Timer.pass_isRunning _ dt) rfl

theorem FireControl.Sound.withRelays (sound : f.Sound c) : (f.withRelays c).Sound c :=
  sound.congr (fun _ => .rfl) rfl rfl rfl rfl

/-- A fire state that is not confirmed, with no countdown running. -/
theorem FireControl.sound_of_follows (status : f.status.confirmed = false) (follows : WatchFollows c f)
    (timer : f.countdown.isRunning = false) : f.Sound c := by
  have away : ∀ {x : FireStatus}, x.confirmed = true → f.status ≠ x := fun hx h => by simp [h, hx] at status
  exact ⟨⟨fun _ => follows, iff_of_false (by simp [timer]) (away rfl)⟩, fun h => absurd h (away rfl),
    fun h => absurd h (away rfl)⟩

/-- A confirmed fire state in which COUNTDOWN and HELD go with the timer and the hold. -/
theorem FireControl.sound_of_confirmed (status : f.status.confirmed = true)
    (timer : f.countdown.isRunning = true ↔ f.status = .countdown) (unheld : f.status = .countdown → f.hold = false)
    (held : f.status = .held → f.hold = true) : f.Sound c :=
  ⟨⟨fun u => by simp [status] at u, timer⟩, unheld, held⟩

theorem FireControl.Timed.unconfirmed_timer (timed : f.Timed c) (status : f.status.confirmed = false) :
    f.countdown.isRunning = false := by
  rw [← Bool.not_eq_true, timed.countdown]
  exact fun h => by simp [h, FireStatus.confirmed] at status

/-- The hold acts (R131). -/
theorem FireControl.Timed.applyHold (timed : f.Timed c) : (f.applyHold c).Sound c := by
  cases status : f.status with
  | quiet | watch =>
    have agreeing : f.applyHold c = f :=
      applyHold_of_agreeing (fun h => by simp [status] at h) (fun h => by simp [status] at h) c
    have calm : f.status.confirmed = false := by rw [status]; rfl
    rw [agreeing]
    exact sound_of_follows calm (timed.unconfirmed calm) (timed.unconfirmed_timer calm)
  | alarm | released =>
    have agreeing : f.applyHold c = f :=
      applyHold_of_agreeing (fun h => by simp [status] at h) (fun h => by simp [status] at h) c
    rw [agreeing]
    exact ⟨timed, fun h => by simp [status] at h, fun h => by simp [status] at h⟩
  | countdown =>
    cases hold : f.hold with
    | true =>
      rw [applyHold_of_countdown status hold]
      exact sound_of_confirmed rfl (by simp [Timer.isRunning]) (fun h => nomatch h) fun _ => hold
    | false =>
      rw [applyHold_of_agreeing (fun _ => hold) (fun h => by simp [status] at h)]
      exact ⟨timed, fun _ => hold, fun h => by simp [status] at h⟩
  | held =>
    cases hold : f.hold with
    | true =>
      rw [applyHold_of_agreeing (fun h => by simp [status] at h) fun _ => hold]
      exact ⟨timed, fun h => by simp [status] at h, fun _ => hold⟩
    | false =>
      rw [applyHold_of_held status hold]
      exact sound_of_confirmed rfl (by simp [Timer.isRunning]) (fun _ => hold) fun h => nomatch h

theorem FireControl.Timed.withSiteHold (timed : f.Timed c) (site : Bool) :
    FireControl.Timed c { f with siteHold := site } :=
  ⟨fun u => WatchFollows.congr (f := f) (fun _ => .rfl) rfl rfl (timed.unconfirmed u), timed.countdown⟩

theorem FireControl.Sound.setSiteHold (sound : f.Sound c) : (f.setSiteHold c).Sound c := by
  unfold FireControl.setSiteHold
  split
  · exact sound
  · exact (sound.withSiteHold true).applyHold

theorem FireControl.Sound.dropSiteHold (sound : f.Sound c) : (f.dropSiteHold c).Sound c := by
  unfold FireControl.dropSiteHold
  split
  · exact (sound.withSiteHold false).applyHold
  · exact sound

theorem FireControl.release_sound : f.release.Sound c :=
  sound_of_confirmed rfl (by simp [FireControl.release, Timer.isRunning]) (fun h => nomatch h) fun h => nomatch h

theorem Detector.fireReset_calm (d : Detector) : ¬ (d.fireReset.state = .pre ∨ d.fireReset.state = .alarm) := by
  rw [d.fireReset_eq]
  split
  · simp
  · rename_i calm
    exact fun h => calm h.symm

theorem FireControl.detector_reset (i : Nat) : f.reset.detector i = (f.detector i).fireReset := by
  unfold FireControl.detector FireControl.reset
  dsimp only
  rw [List.getD_eq_getElem?_getD, List.getElem?_map, List.getD_eq_getElem?_getD]
  cases f.detectors[i]? <;> rfl

/-- A taken FIRE_RESET leaves no detector in PRE or ALARM (R134). -/
theorem FireControl.reset_sound : f.reset.Sound c := by
  have calm : ∀ k, ¬ KindAlerted c f.reset k := by
    rintro k ⟨-, i, -, -, state⟩
    rw [detector_reset] at state
    exact Detector.fireReset_calm _ state
  have clear : ∀ k, false = true ↔ KindAlerted c f.reset k := fun k => iff_of_false Bool.false_ne_true (calm k)
  exact sound_of_follows rfl ⟨fun ⟨k, h⟩ => absurd h (calm k), fun _ => rfl,
    ⟨clear _, clear _, clear _, clear _, rfl⟩⟩ rfl

/-- A change of the detectors outside a sampling event, with the fire state derived afresh (R127). -/
theorem FireControl.Sound.reassess {c' : ConfigSet} {f' : FireControl} (sound : f.Sound c)
    (status : f'.status = f.status) (timer : f'.countdown = f.countdown) (hold : f'.hold = f.hold) :
    (f'.reassess c').Sound c' := by
  unfold FireControl.reassess
  split
  case isTrue confirmed =>
    exact sound_of_confirmed confirmed (by rw [status, timer]; exact sound.countdown)
      (fun h => hold.trans (sound.unheld (status ▸ h))) (fun h => hold.trans (sound.held (status ▸ h)))
  case isFalse calm =>
    have calm : f.status.confirmed = false := by rw [← status]; exact Bool.eq_false_iff.2 calm
    refine sound_of_follows (f'.watchOrQuiet_unconfirmed c') (f'.watchOrQuiet_follows c') ?_
    rw [watchOrQuiet_eq]
    exact timer ▸ sound.unconfirmed_timer calm

theorem FireControl.Sound.setDetector (sound : f.Sound c) (c' : ConfigSet) (i : Nat) (d : Detector) :
    ((f.setDetector i d).reassess c').Sound c' := sound.reassess rfl rfl rfl

/-- The entry into a confirmed state (R128). -/
theorem FireControl.confirm_sound (timer : f.countdown.isRunning = false) : (f.confirm c).Sound c := by
  have stopped : ¬ f.countdown.isRunning = true := by simp [timer]
  unfold FireControl.confirm
  dsimp only
  split
  · exact sound_of_confirmed rfl (iff_of_false stopped fun h => nomatch h) (fun h => nomatch h) fun h => nomatch h
  · split
    case isTrue hold =>
      exact sound_of_confirmed rfl (iff_of_false stopped fun h => nomatch h) (fun h => nomatch h) fun _ => hold
    case isFalse hold =>
      exact sound_of_confirmed rfl (iff_of_true rfl rfl) (fun _ => Bool.eq_false_iff.2 hold) fun h => nomatch h

theorem FireControl.applyHold_confirmed (c : ConfigSet) :
    (f.applyHold c).status.confirmed = f.status.confirmed := by
  cases status : f.status with
  | quiet | watch | alarm | released => simp [FireControl.applyHold, status]
  | countdown | held =>
    cases hold : f.hold with
    | true => simp [FireControl.applyHold, status, hold, FireStatus.confirmed]
    | false => simp [FireControl.applyHold, status, hold, FireStatus.confirmed]

/-- In a confirmed state the cause set may grow (R129). -/
theorem FireControl.Sound.withCauses (sound : f.Sound c) (status : f.status.confirmed = true) (causes : CauseSet) :
    FireControl.Sound c { f with causes := causes } :=
  sound_of_confirmed status sound.countdown sound.unheld sound.held

/-- The samples of FIRE_SAMPLING, before the fire state follows (R114 to R119, R126, R130). -/
def FireControl.sampled (f : FireControl) (c : ConfigSet) (levels : List Byte) (panel hold : Bool) : FireControl :=
  { f with
    detectors := sampledDetectors c f levels, panelRun := bump f.panelRun panel,
    panelLatch := f.panelLatch || decide (3 ≤ bump f.panelRun panel), holdSample := hold,
    samplingLeft := Length.sampling }

theorem FireControl.sampling_eq (f : FireControl) (c : ConfigSet) (levels : List Byte) (panel hold : Bool) :
    f.sampling c levels panel hold =
      if f.status.confirmed then
        { (f.sampled c levels panel hold).applyHold c with
          causes := causesGrown c f (f.sampled c levels panel hold) }
      else if confirmedNow c (f.sampled c levels panel hold) then (f.sampled c levels panel hold).confirm c
      else (f.sampled c levels panel hold).watchOrQuiet c := rfl

/-- The sampling event (R114). -/
theorem FireControl.Sound.sampling (sound : f.Sound c) (levels : List Byte) (panel hold : Bool) :
    (f.sampling c levels panel hold).Sound c := by
  rw [f.sampling_eq]
  split
  case isTrue confirmed =>
    have timed : Timed c (f.sampled c levels panel hold) :=
      ⟨fun u => by simp [sampled, confirmed] at u, sound.countdown⟩
    exact timed.applyHold.withCauses ((applyHold_confirmed c).trans confirmed) _
  case isFalse calm =>
    have timer : (f.sampled c levels panel hold).countdown.isRunning = false :=
      sound.unconfirmed_timer (Bool.eq_false_iff.2 calm)
    split
    · exact confirm_sound timer
    · refine sound_of_follows (watchOrQuiet_unconfirmed _ c) (watchOrQuiet_follows _ c) ?_
      rw [watchOrQuiet_eq]
      exact timer

end

/-! ### The configuration and the detectors (R120) -/

theorem ConfigSet.value_store (c : ConfigSet) (n m : Nat) (v : ItemValue) (hn : 1 ≤ n) (hm : 1 ≤ m) (ne : n ≠ m) :
    (c.store n v).value m = c.value m := by
  have away : n - 1 ≠ m - 1 := by omega
  simp [ConfigSet.value, ConfigSet.store, List.getD_eq_getElem?_getD, away]

theorem ConfigSet.detectorKind_store (c : ConfigSet) (n i : Nat) (v : ItemValue) (hn : 1 ≤ n) (ne : n ≠ 58 + i) :
    (c.store n v).detectorKind i = c.detectorKind i := by
  simp only [ConfigSet.detectorKind, ConfigSet.int, c.value_store n (58 + i) v hn (by omega) ne]

theorem itemRange_bounds {n : Nat} {range : ItemRange} (item : itemRange n = some range) : 1 ≤ n ∧ n ≤ 89 := by
  by_contra outside
  rw [itemRange, if_neg outside] at item
  cases item

theorem FireControl.detector_thresholdWritten (f : FireControl) (c : ConfigSet) (k : DetectorKind) (i : Nat)
    (hi : i < 16) :
    (f.thresholdWritten c k).detector i =
      if c.detectorKind i = k then (f.detector i).clearRuns else f.detector i := by
  simp only [FireControl.detector, FireControl.thresholdWritten]
  rw [List.getD_eq_getElem?_getD, List.getElem?_map, List.getElem?_range hi]
  rfl

theorem State.storeItem_config (s : State) (n : Nat) (v : ItemValue) :
    (s.storeItem n v).config = s.config.store n v := by
  unfold State.storeItem State.itemEffect
  split
  · rfl
  · split
    · rfl
    · split
      · rfl
      · split <;> rfl

/-- The fire controller after a write: the detector of a kind item, the runs of a kind's thresholds, or nothing. -/
theorem State.storeItem_fire (s : State) (n : Nat) (v : ItemValue) :
    (s.storeItem n v).fire =
      if 58 ≤ n ∧ n ≤ 73 then
        (s.fire.setDetector (n - 58) (s.fire.detector (n - 58)).kindWritten).reassess (s.config.store n v)
      else if 74 ≤ n ∧ n ≤ 79 then s.fire.thresholdWritten (s.config.store n v) (thresholdKind n)
      else s.fire := by
  unfold State.storeItem State.itemEffect
  split
  case isTrue first =>
    rw [if_neg (by omega), if_neg (by omega)]
  case isFalse =>
    split
    case isTrue third =>
      rw [if_neg (by omega), if_neg (by omega)]
    case isFalse =>
      split
      case isTrue kind => rfl
      case isFalse => split <;> rfl

/-- A taken write keeps the soundness of the fire state with the detectors. -/
theorem FireControl.Sound.storeItem {s : State} (sound : s.fire.Sound s.config) {n : Nat} (hn : 1 ≤ n)
    (v : ItemValue) : (s.storeItem n v).fire.Sound (s.config.store n v) := by
  rw [State.storeItem_fire]
  split
  case isTrue kind => exact sound.setDetector _ _ _
  case isFalse noKind =>
    have kinds : ∀ i < 16, (s.config.store n v).detectorKind i = s.config.detectorKind i := fun i hi =>
      s.config.detectorKind_store n i v hn (by omega)
    split
    case isTrue threshold =>
      refine sound.congr (fun k => ?_) rfl rfl rfl rfl
      refine and_congr_right fun _ => exists_congr fun i => and_congr_right fun hi => ?_
      rw [kinds i hi, detector_thresholdWritten _ _ _ i hi]
      split <;> rfl
    case isFalse => exact sound.congr (KindAlerted.congr kinds fun _ => rfl) rfl rfl rfl rfl

/-! ### Every step -/

theorem State.leaveConfigured_items (s : State) (n : Nat) :
    (s.leaveConfigured n).st.config.items = s.config.items := by
  unfold State.leaveConfigured
  split <;> rfl

/-- The kinds of the detectors are items, whatever the configuration state. -/
theorem ConfigSet.detectorKind_of_items {c c' : ConfigSet} (items : c'.items = c.items) (i : Nat) :
    c'.detectorKind i = c.detectorKind i := by
  simp only [ConfigSet.detectorKind, ConfigSet.int, ConfigSet.value, items]

theorem FireControl.Sound.of_items {c c' : ConfigSet} {f : FireControl} (sound : f.Sound c)
    (items : c'.items = c.items) : f.Sound c' :=
  sound.congr (KindAlerted.congr (fun i _ => ConfigSet.detectorKind_of_items items i) fun _ => rfl) rfl rfl rfl rfl

theorem detectorCount_pos_iff (c : ConfigSet) (f : FireControl) (q : DetectorKind → Detector → Bool) :
    1 ≤ detectorCount c f q ↔ ∃ i < 16, q (c.detectorKind i) (f.detector i) = true := by
  simp [detectorCount, Nat.one_le_iff_ne_zero]

theorem detectorCount_pass (c : ConfigSet) (f : FireControl) (dt : Nat) (q : DetectorKind → Detector → Bool)
    (still : ∀ k d, q k (d.pass dt) = q k d) : detectorCount c (f.pass dt) q = detectorCount c f q := by
  simp only [detectorCount, f.detector_pass, still]

/-- The relays follow exactly when deriving them changes nothing. -/
theorem relaysFollow_iff (s : State) : RelaysFollow s ↔ s.fire.withRelays s.config = s.fire := by
  have fault : (∃ i < 16, (s.fire.detector i).state = .fault) ↔
      1 ≤ detectorCount s.config s.fire fun _ d => decide (d.state = .fault) := by
    simp [detectorCount_pos_iff]
  constructor
  · rintro ⟨impaired, faultRelay, alarmRelay⟩
    have same : impairedNow s.config s.fire = s.fire.impaired :=
      Bool.eq_iff_iff.2 (decide_eq_true_iff.trans impaired.symm)
    have relay : faultRelayNow s.config s.fire = s.fire.faultRelay := by
      rw [Bool.eq_iff_iff, faultRelay, faultRelayNow, same, Bool.or_eq_true, decide_eq_true_iff, fault]
    have alarm : s.fire.status.confirmed = s.fire.alarmRelay := by
      rw [Bool.eq_iff_iff, alarmRelay, State.fireConfirmed_iff]
    rw [FireControl.withRelays, same, relay, alarm]
  · intro same
    have impaired : impairedNow s.config s.fire = s.fire.impaired := congrArg FireControl.impaired same
    have relay : faultRelayNow s.config s.fire = s.fire.faultRelay := congrArg FireControl.faultRelay same
    have alarm : s.fire.status.confirmed = s.fire.alarmRelay := congrArg FireControl.alarmRelay same
    exact ⟨by rw [← impaired]; exact decide_eq_true_iff,
      by rw [← relay, faultRelayNow, impaired, Bool.or_eq_true, decide_eq_true_iff, fault],
      by rw [← alarm, State.fireConfirmed_iff]⟩

theorem FireControl.withRelays_pass (f : FireControl) (c : ConfigSet) (dt : Nat) :
    (f.pass dt).withRelays c = (f.withRelays c).pass dt := by
  simp only [FireControl.withRelays, impairedNow, faultRelayNow]
  rw [detectorCount_pass _ _ _ _ fun _ _ => rfl, detectorCount_pass _ _ _ _ fun _ _ => rfl]
  rfl

theorem fireSound_kept : KeptByWork FireSound where
  agrees agree sound := by
    rw [fireSound_iff] at sound ⊢
    rw [agree.fire, agree.config]
    exact sound
  reset := by
    rw [fireSound_iff]
    refine FireControl.sound_of_follows rfl (WatchFollows.congr (f := FireControl.watchOrQuiet State.reset.fire _)
      (fun _ => .rfl) ?_ ?_ (FireControl.watchOrQuiet_follows _ _)) rfl <;> decide +kernel
  advance dt sound := by
    rw [fireSound_iff] at sound ⊢
    exact sound.pass dt
  line n sound := by
    rw [fireSound_iff] at sound ⊢
    exact sound
  silent work sound := by
    rw [fireSound_iff] at sound ⊢
    cases work <;> exact sound
  event {c b w x} work sound := by
    rw [fireSound_iff] at sound ⊢
    rw [State.settle_fire, State.settle_config]
    refine FireControl.Sound.withRelays ?_
    cases work with
    | portReset reset =>
      rw [Change.quiet_st, State.portReset_fire]
      split
      · simpa using sound.dropSiteHold
      · simpa using sound
    | holdSet => exact sound.setSiteHold
    | holdClear => exact sound.dropSiteHold
    | releaseNow entering => exact FireControl.release_sound
    | countdown counting => exact FireControl.release_sound
    | fireReset confirmed => exact FireControl.reset_sound
    | detectorEnable => exact sound.setDetector _ _ _
    | detectorDisable unconfirmed => exact sound.setDetector _ _ _
    | disablement => exact sound.setDetector _ _ _
    | sampling => simpa using sound.sampling _ _ _
    | @configWrite p _ n range v item passed admitted =>
      have left : (b.leaveConfigured n).st.fire.Sound (b.leaveConfigured n).st.config := by
        simp only [State.leaveConfigured_keeps]
        exact sound.of_items (b.leaveConfigured_items n)
      rw [Change.andThen_st, Change.quiet_st, State.storeItem_config]
      exact left.storeItem (itemRange_bounds item).1 _
    | configAccept unconfigured passed => exact sound.of_items rfl
    | _ => simpa using sound

theorem relaysFollow_kept : KeptByWork RelaysFollow where
  agrees agree follow := by
    rw [relaysFollow_iff] at follow ⊢
    rw [agree.fire, agree.config]
    exact follow
  reset := by
    rw [relaysFollow_iff]
    decide +kernel
  advance {s} dt follow := by
    rw [relaysFollow_iff] at follow ⊢
    rw [State.advance_fire, State.advance_config, FireControl.withRelays_pass, follow]
  line n follow := by
    rw [relaysFollow_iff] at follow ⊢
    exact follow
  silent work follow := by
    rw [relaysFollow_iff] at follow ⊢
    cases work <;> exact follow
  event work follow := by
    rw [relaysFollow_iff, State.settle_fire, State.settle_config]
    rfl

/-- Settles O58: the fire state's soundness and the relays are each kept by every piece of work (`KeptByWork`). -/
theorem fireStaysSound : Obligations.FireStaysSound := by
  unfold Obligations.FireStaysSound
  exact ⟨fun _ _ stepped => ⟨fireSound_kept.step stepped, relaysFollow_kept.step stepped⟩, fun _ => ⟨rfl, rfl⟩⟩

end Sys2Proof.Machine
end

section
/-! The connection controller through every step (Chapter 8): what its operations leave unchanged, the commands and
timers that go with the connection state, the securing of the string, and the two timers that follow conditions. -/

namespace Sys2Proof.Machine

/-! ### What the operations of an opening can do -/

namespace ConnectionControl

/-- Phase MAINS ends once POS and PRE show OPEN, or the record stays (R150). -/
theorem passMains_cases (c : ConnectionControl) :
    c.passMains = c ∨
      ∃ kind, c.connection = .opening kind .mains ∧ c.showsOpen .pos = true ∧ c.showsOpen .pre = true ∧
        c.passMains = (c.commandTo .neg .opened).toState (.opening kind .neg) := by
  unfold passMains
  split
  case h_1 kind mains =>
    split
    · rename_i shown
      rw [Bool.and_eq_true] at shown
      exact .inr ⟨kind, mains, shown.1, shown.2, rfl⟩
    · exact .inl rfl
  all_goals exact .inl rfl

/-- Phase NEG ends once the feedback shows it, or the record stays (R150). -/
theorem passNeg_cases (c : ConnectionControl) :
    c.passNeg = .quiet c ∨
      ∃ kind, c.connection = .opening kind .neg ∧ c.passNeg = c.toStateFor kind.ending .opened := by
  unfold passNeg
  split
  case h_1 kind neg =>
    split
    · exact .inr ⟨kind, neg, rfl⟩
    · exact .inl rfl
  all_goals exact .inl rfl

end ConnectionControl

/-! ### The part of the record that moving the contactors leaves -/

/-- The permit, the grid and the timers that follow conditions are as they were. -/
structure SidesKept (c d : ConnectionControl) : Prop where
  dataLossOpen : d.dataLossOpen = c.dataLossOpen
  permit : d.permit = c.permit
  permitTimer : d.permitTimer = c.permitTimer
  fallbackHandle : d.fallbackHandle = c.fallbackHandle
  linePresent : d.linePresent = c.linePresent
  convNotice : d.convNotice = c.convNotice
  utilNotice : d.utilNotice = c.utilNotice
  convTimer : d.convTimer = c.convTimer
  reconnect : d.reconnect = c.reconnect
  acPermission : d.acPermission = c.acPermission

namespace SidesKept

variable {c d e : ConnectionControl}

theorem refl (c : ConnectionControl) : SidesKept c c := ⟨rfl, rfl, rfl, rfl, rfl, rfl, rfl, rfl, rfl, rfl⟩

theorem trans (first : SidesKept c d) (second : SidesKept d e) : SidesKept c e :=
  ⟨second.1.trans first.1, second.2.trans first.2, second.3.trans first.3, second.4.trans first.4,
    second.5.trans first.5, second.6.trans first.6, second.7.trans first.7, second.8.trans first.8,
    second.9.trans first.9, second.10.trans first.10⟩

theorem moved (c : ConnectionControl) (k : Contactors ContactorRecord) (n : Connection) (p : Timer) (a : Nat)
    (cool open_ : Timer) :
    SidesKept c { c with
      contactors := k, connection := n, precharge := p, attempts := a, cooldown := cool, openWait := open_ } :=
  ⟨rfl, rfl, rfl, rfl, rfl, rfl, rfl, rfl, rfl, rfl⟩

theorem passMains (c : ConnectionControl) : SidesKept c c.passMains := by
  rcases c.passMains_cases with stays | ⟨kind, -, -, -, ends⟩
  · rw [stays]
    exact .refl c
  · rw [ends]
    exact .moved c _ _ _ _ _ _

theorem passNeg (c : ConnectionControl) : SidesKept c c.passNeg.conn := by
  rcases c.passNeg_cases with stays | ⟨kind, -, ends⟩
  · rw [stays]
    exact .refl c
  · rw [ends]
    exact .moved c _ _ _ _ _ _

theorem goOnOpening (c : ConnectionControl) : SidesKept c c.goOnOpening.conn :=
  (passMains c).trans (passNeg _)

theorem beginEmergency (c : ConnectionControl) (cause : LockCause) (reason : ConnectionReason) :
    SidesKept c (c.beginEmergency cause reason).conn :=
  (SidesKept.moved c _ _ _ _ _ _).trans (goOnOpening _)

theorem emergency (c : ConnectionControl) (cause : LockCause) (reason : ConnectionReason) :
    SidesKept c (c.emergency cause reason).conn := by
  unfold ConnectionControl.emergency
  split
  case h_1 | h_2 | h_3 | h_4 => exact beginEmergency c cause reason
  case h_5 | h_6 | h_7 | h_9 => exact .moved c _ _ _ _ _ _
  case h_8 | h_10 => exact .refl c

theorem endWait (c : ConnectionControl) : SidesKept c c.endWait.conn :=
  (SidesKept.moved c _ _ _ _ _ _).trans (goOnOpening _)

theorem beginNormal (c : ConnectionControl) (config : ConfigSet) (string : StringReadings)
    (reason : ConnectionReason) : SidesKept c (c.beginNormal config string reason).conn := by
  unfold ConnectionControl.beginNormal
  dsimp only
  split
  · exact (SidesKept.moved c _ _ _ _ _ _).trans (endWait _)
  · exact .moved c _ _ _ _ _ _

theorem beginAbort (c : ConnectionControl) : SidesKept c c.beginAbort.conn :=
  (SidesKept.moved c _ _ _ _ _ _).trans (goOnOpening _)

theorem disconnect (c : ConnectionControl) (config : ConfigSet) (string : StringReadings) :
    SidesKept c (c.disconnect config string).conn := by
  unfold ConnectionControl.disconnect
  split
  case h_1 => exact beginNormal c _ _ _
  case h_2 | h_3 => exact beginAbort c
  case h_4 | h_5 | h_6 => exact .refl c

theorem waitExpired (c : ConnectionControl) (string : StringReadings) : SidesKept c (c.waitExpired string).conn :=
  endWait c

theorem connect (c : ConnectionControl) : SidesKept c c.connect.conn := .moved c _ _ _ _ _ _

theorem passNegWait (c : ConnectionControl) (config : ConfigSet) : SidesKept c (c.passNegWait config).conn := by
  unfold ConnectionControl.passNegWait
  split
  · exact .refl c
  · exact .moved c _ _ _ _ _ _

theorem passPos (c : ConnectionControl) : SidesKept c c.passPos := by
  unfold ConnectionControl.passPos
  split
  · exact .refl c
  · exact .moved c _ _ _ _ _ _

theorem passPre (c : ConnectionControl) : SidesKept c c.passPre.conn := by
  unfold ConnectionControl.passPre
  split
  · exact .moved c _ _ _ _ _ _
  · exact .refl c

theorem followFeedback (c : ConnectionControl) (config : ConfigSet) : SidesKept c (c.followFeedback config).conn := by
  unfold ConnectionControl.followFeedback
  split
  case h_1 => exact passNegWait c config
  case h_3 => exact (passPos c).trans (passPre _)
  case h_4 => exact goOnOpening c
  case h_2 | h_5 | h_6 | h_7 => exact .refl c

theorem feedback (c : ConnectionControl) (config : ConfigSet) (k : Contactor) (v : Switch) :
    SidesKept c (c.feedback config k v).conn :=
  (SidesKept.moved c _ _ _ _ _ _).trans (followFeedback _ config)

theorem prechargeFailed (c : ConnectionControl) : SidesKept c c.prechargeFailed.conn := .moved c _ _ _ _ _ _

theorem lockContactor (c : ConnectionControl) : SidesKept c c.lockContactor.conn := by
  unfold ConnectionControl.lockContactor
  split
  · exact .refl c
  all_goals exact .moved c _ _ _ _ _ _

theorem contactorFault (c : ConnectionControl) (k : Contactor) : SidesKept c (c.contactorFault k).conn :=
  (SidesKept.moved c _ _ _ _ _ _).trans (lockContactor _)

theorem unlock (c : ConnectionControl) : SidesKept c c.unlock.conn := .moved c _ _ _ _ _ _

theorem sweepConn (s : State) : SidesKept s.conn s.sweepConn.conn := by
  unfold State.sweepConn
  split
  · exact emergency _ _ _
  · split
    · split
      · exact .moved _ _ _ _ _ _ _
      · exact .refl _
    · split
      · exact endWait _
      · exact .refl _
    all_goals exact .refl _

end SidesKept

/-! ### Commands and timers with the connection state (section 8.2) -/

namespace ConnectionControl

/-- The command of a contactor (R141). -/
def commandOf (c : ConnectionControl) (k : Contactor) : Switch := (c.contactors.get k).command

@[simp] theorem commandOf_commandTo (c : ConnectionControl) (k j : Contactor) (v : Switch) :
    (c.commandTo k v).commandOf j = if k = j then v else c.commandOf j := by
  unfold commandOf commandTo ContactorRecord.withCommand ContactorRecord.retimed
  rw [Contactors.get_set]
  split
  · rename_i same
    subst same
    split
    · assumption
    · split <;> rfl
  · rfl

@[simp] theorem commandOf_toState (c : ConnectionControl) (n : Connection) (k : Contactor) :
    (c.toState n).commandOf k = c.commandOf k := rfl

/-- What `ConnectionSound` says of the connection record alone. -/
structure Sound (c : ConnectionControl) : Prop where
  commands : c.connection.commands (c.commandOf .neg) (c.commandOf .pre) (c.commandOf .pos)
  precharge : c.precharge.isRunning = true ↔ c.connection = .precharging .charging
  openWait : c.openWait.isRunning = true ↔ c.connection = .opening .normal .wait
  attempts : c.attempts ≤ 3
  third : c.attempts = 3 → c.connection.isLocked = true

variable {c : ConnectionControl}

theorem Sound.attempts_lt (sound : c.Sound) (unlocked : c.connection.isLocked = false) : c.attempts < 3 := by
  have le := sound.attempts
  have ne : c.attempts ≠ 3 := fun three => by simp [sound.third three] at unlocked
  omega

/-- A new state, neither CHARGING nor the wait of a NORMAL opening, with the commands that go with it. -/
theorem sound_toState {n : Connection} (commands : n.commands (c.commandOf .neg) (c.commandOf .pre) (c.commandOf .pos))
    (charging : n ≠ .precharging .charging) (wait : n ≠ .opening .normal .wait) (attempts : c.attempts ≤ 3)
    (third : c.attempts = 3 → n.isLocked = true) : (c.toState n).Sound where
  commands := commands
  precharge := by simp [toState, charging, Timer.isRunning]
  openWait := by simp [toState, wait, Timer.isRunning]
  attempts := attempts
  third := third

/-- A change of the record beside the connection. -/
theorem Sound.congr {d : ConnectionControl} (sound : c.Sound) (commands : ∀ k, d.commandOf k = c.commandOf k)
    (connection : d.connection = c.connection) (precharge : d.precharge.isRunning = c.precharge.isRunning)
    (openWait : d.openWait.isRunning = c.openWait.isRunning) (attempts : d.attempts = c.attempts) : d.Sound where
  commands := by
    rw [connection, commands, commands, commands]
    exact sound.commands
  precharge := by rw [connection, precharge]; exact sound.precharge
  openWait := by rw [connection, openWait]; exact sound.openWait
  attempts := attempts ▸ sound.attempts
  third three := by rw [connection]; exact sound.third (attempts ▸ three)

theorem Sound.pass (sound : c.Sound) (dt : Nat) : (c.pass dt).Sound :=
  sound.congr (fun k => by cases k <;> rfl) rfl (Timer.pass_isRunning _ dt) (Timer.pass_isRunning _ dt) rfl

theorem Sound.passMains (sound : c.Sound) : c.passMains.Sound := by
  rcases c.passMains_cases with stays | ⟨kind, mains, -, -, ends⟩
  · rwa [stays]
  · have commands := sound.commands
    have fewer := sound.attempts_lt (by rw [mains]; rfl)
    rw [mains] at commands
    rw [ends]
    refine sound_toState ?_ (fun h => nomatch h) (fun h => nomatch h) sound.attempts
      fun three => absurd three (Nat.ne_of_lt fewer)
    cases kind with
    | normal | emergency cause fromAbort => simpa [Connection.commands] using commands.2
    | abort => exact commands.elim

theorem commands_ending (kind : Opening) : kind.ending.commands .opened .opened .opened := by
  cases kind <;> exact ⟨rfl, rfl, rfl⟩

theorem Sound.commands_neg {kind : Opening} (sound : c.Sound) (phase : c.connection = .opening kind .neg) :
    c.commandOf .neg = .opened ∧ c.commandOf .pre = .opened ∧ c.commandOf .pos = .opened := by
  have commands := sound.commands
  rw [phase] at commands
  cases kind <;> exact commands

theorem Sound.passNeg (sound : c.Sound) : c.passNeg.conn.Sound := by
  rcases c.passNeg_cases with stays | ⟨kind, phase, ends⟩
  · rwa [stays]
  · obtain ⟨neg, pre, pos⟩ := sound.commands_neg phase
    have fewer := sound.attempts_lt (by rw [phase]; rfl)
    rw [ends]
    refine sound_toState ?_ ?_ ?_ sound.attempts fun three => absurd three (Nat.ne_of_lt fewer)
    · rw [neg, pre, pos]
      exact commands_ending kind
    · cases kind <;> exact fun h => nomatch h
    · cases kind <;> exact fun h => nomatch h

theorem Sound.goOnOpening (sound : c.Sound) : c.goOnOpening.conn.Sound := sound.passMains.passNeg

/-- Phase MAINS of an opening that was not ABORT. -/
theorem Sound.beginMains (neg : c.commandOf .neg = .closed) (fewer : c.attempts < 3) {kind : Opening}
    (kinds : kind ≠ .abort) : (c.beginMains kind).Sound := by
  refine sound_toState ?_ (fun h => nomatch h) (fun h => nomatch h) fewer.le
    fun three => absurd three (Nat.ne_of_lt fewer)
  cases kind with
  | normal | emergency cause fromAbort => simp [Connection.commands, neg]
  | abort => exact absurd rfl kinds

theorem Sound.beginEmergency (neg : c.commandOf .neg = .closed) (fewer : c.attempts < 3) (cause : LockCause)
    (reason : ConnectionReason) : (c.beginEmergency cause reason).conn.Sound :=
  (Sound.beginMains neg fewer (kind := .emergency cause false) fun h => nomatch h).goOnOpening

/-- NEG is commanded CLOSED from NEG_WAIT to the end of a wait. -/
theorem Sound.neg_closed (sound : c.Sound)
    (connection : (∃ p, c.connection = .precharging p) ∨ c.connection = .closing ∨ c.connection = .closed ∨
      c.connection = .opening .normal .wait ∨ c.connection = .opening .normal .mains) :
    c.commandOf .neg = .closed ∧ c.attempts < 3 := by
  have commands := sound.commands
  rcases connection with ⟨p, at_⟩ | at_ | at_ | at_ | at_
  · refine ⟨?_, sound.attempts_lt (by rw [at_]; rfl)⟩
    rw [at_] at commands
    cases p <;> exact commands.1
  all_goals
    refine ⟨?_, sound.attempts_lt (by rw [at_]; rfl)⟩
    rw [at_] at commands
    exact commands.1

/-- An EMERGENCY opening takes a running one over in its phase (R151). -/
theorem Sound.turned (sound : c.Sound) {phase : OpeningPhase} {kind : Opening}
    (at_ : c.connection = .opening kind phase)
    (moving : phase ≠ .wait) (cause : LockCause) (fromAbort : Bool) :
    (c.toState (.opening (.emergency cause fromAbort) phase)).Sound := by
  have commands := sound.commands
  have fewer := sound.attempts_lt (by rw [at_]; rfl)
  refine sound_toState ?_ (fun h => nomatch h) (fun h => nomatch h) sound.attempts
    fun three => absurd three (Nat.ne_of_lt fewer)
  rw [at_] at commands
  cases phase with
  | wait => exact absurd rfl moving
  | mains | neg =>
    cases kind with
    | normal | emergency _ _ => exact commands
    | abort => first | exact commands | exact commands.elim

/-- A string whose contactors are all commanded OPEN is locked out. -/
theorem locked (neg : c.commandOf .neg = .opened) (pre : c.commandOf .pre = .opened) (pos : c.commandOf .pos = .opened)
    (attempts : c.attempts ≤ 3) (cause : LockCause) : (c.toState (.lockedOut cause)).Sound :=
  sound_toState ⟨neg, pre, pos⟩ (fun h => nomatch h) (fun h => nomatch h) attempts fun _ => rfl

theorem Sound.emergency (sound : c.Sound) (cause : LockCause) (reason : ConnectionReason) :
    (c.emergency cause reason).conn.Sound := by
  unfold ConnectionControl.emergency
  split
  case h_1 p at_ => exact .beginEmergency (sound.neg_closed (.inl ⟨p, at_⟩)).1 (sound.neg_closed (.inl ⟨p, at_⟩)).2 _ _
  case h_2 at_ =>
    obtain ⟨neg, fewer⟩ := sound.neg_closed (.inr (.inl at_))
    exact .beginEmergency neg fewer _ _
  case h_3 at_ =>
    obtain ⟨neg, fewer⟩ := sound.neg_closed (.inr (.inr (.inl at_)))
    exact .beginEmergency neg fewer _ _
  case h_4 at_ =>
    obtain ⟨neg, fewer⟩ := sound.neg_closed (.inr (.inr (.inr (.inl at_))))
    exact .beginEmergency neg fewer _ _
  case h_5 at_ => exact sound.turned at_ (fun h => nomatch h) _ _
  case h_6 at_ => exact sound.turned at_ (fun h => nomatch h) _ _
  case h_7 phase at_ =>
    refine sound.turned at_ (fun wait => ?_) _ _
    have commands := sound.commands
    rw [at_, wait] at commands
    exact commands
  case h_8 => exact sound
  case h_9 at_ =>
    have commands := sound.commands
    rw [at_] at commands
    obtain ⟨neg, pre, pos⟩ := commands
    exact locked neg pre pos sound.attempts cause
  case h_10 => exact sound

theorem Sound.endWait (sound : c.Sound) (wait : c.connection = .opening .normal .wait) : c.endWait.conn.Sound := by
  obtain ⟨neg, fewer⟩ := sound.neg_closed (.inr (.inr (.inr (.inl wait))))
  exact (Sound.beginMains neg fewer (kind := .normal) fun h => nomatch h).goOnOpening

theorem Sound.beginNormal (sound : c.Sound) (closed : c.connection = .closed) (config : ConfigSet)
    (string : StringReadings) (reason : ConnectionReason) : (c.beginNormal config string reason).conn.Sound := by
  have commands := sound.commands
  have fewer := sound.attempts_lt (by rw [closed]; rfl)
  rw [closed] at commands
  have started : Sound { c.toState (.opening .normal .wait) with openWait := .running config.openWait } :=
    ⟨commands, iff_of_false (by simp [toState, Timer.isRunning]) (fun h => nomatch h), iff_of_true rfl rfl, fewer.le,
      fun three => absurd three (Nat.ne_of_lt fewer)⟩
  unfold ConnectionControl.beginNormal
  dsimp only
  split
  · exact started.endWait rfl
  · exact started

theorem commandOf_allOpen (k : Contactor) : c.allOpen.commandOf k = .opened := by
  cases k <;> simp [ConnectionControl.allOpen]

theorem Sound.beginAbort (fewer : c.attempts < 3) : c.beginAbort.conn.Sound := by
  have started : (c.allOpen.toState (.opening .abort .neg)).Sound :=
    sound_toState ⟨commandOf_allOpen .neg, commandOf_allOpen .pre, commandOf_allOpen .pos⟩ (fun h => nomatch h)
      (fun h => nomatch h) fewer.le fun three => absurd three (Nat.ne_of_lt fewer)
  exact started.goOnOpening

theorem Sound.disconnect (sound : c.Sound) (config : ConfigSet) (string : StringReadings) :
    (c.disconnect config string).conn.Sound := by
  unfold ConnectionControl.disconnect
  split
  case h_1 closed => exact sound.beginNormal closed _ _ _
  case h_2 at_ => exact .beginAbort (sound.attempts_lt (by rw [at_]; rfl))
  case h_3 at_ => exact .beginAbort (sound.attempts_lt (by rw [at_]; rfl))
  all_goals exact sound

theorem Sound.connect (sound : c.Sound) (opened : c.connection = .opened) : c.connect.conn.Sound := by
  have commands := sound.commands
  have fewer := sound.attempts_lt (by rw [opened]; rfl)
  rw [opened] at commands
  obtain ⟨-, pre, pos⟩ := commands
  exact sound_toState (by simp [Connection.commands, pre, pos]) (fun h => nomatch h) (fun h => nomatch h) fewer.le
    fun three => absurd three (Nat.ne_of_lt fewer)

theorem Sound.passNegWait (sound : c.Sound) (waiting : c.connection = .precharging .negWait) (config : ConfigSet) :
    (c.passNegWait config).conn.Sound := by
  have commands := sound.commands
  have fewer := sound.attempts_lt (by rw [waiting]; rfl)
  rw [waiting] at commands
  obtain ⟨neg, -, pos⟩ := commands
  unfold ConnectionControl.passNegWait
  split
  · exact sound
  · exact ⟨⟨(commandOf_commandTo c .pre .neg .closed).trans neg, commandOf_commandTo c .pre .pre .closed,
        (commandOf_commandTo c .pre .pos .closed).trans pos⟩,
      iff_of_true rfl rfl, iff_of_false (by simp [ConnChange.quiet, toState, Timer.isRunning]) (fun h => nomatch h),
      fewer.le, fun three => absurd three (Nat.ne_of_lt fewer)⟩

theorem passPos_connection (c : ConnectionControl) : c.passPos.connection = c.connection := by
  unfold ConnectionControl.passPos
  split <;> rfl

theorem Sound.passPos (sound : c.Sound) (closing : c.connection = .closing) : c.passPos.Sound := by
  unfold ConnectionControl.passPos
  split
  · exact sound
  · have commands := sound.commands
    rw [closing] at commands
    refine ⟨?_, sound.precharge, sound.openWait, sound.attempts, sound.third⟩
    rw [show (c.commandTo .pre .opened).connection = .closing from closing]
    exact ⟨(commandOf_commandTo c .pre .neg .opened).trans commands.1,
      (commandOf_commandTo c .pre .pos .opened).trans commands.2⟩

theorem Sound.passPre (sound : c.Sound) (closing : c.connection = .closing) : c.passPre.conn.Sound := by
  unfold ConnectionControl.passPre
  split
  case isTrue shown =>
    have commands := sound.commands
    rw [closing] at commands
    exact sound_toState ⟨commands.1, shown.1, commands.2⟩ (fun h => nomatch h) (fun h => nomatch h) (Nat.zero_le 3)
      fun none => nomatch none
  case isFalse => exact sound

theorem Sound.followFeedback (sound : c.Sound) (config : ConfigSet) : (c.followFeedback config).conn.Sound := by
  unfold ConnectionControl.followFeedback
  split
  case h_1 waiting => exact sound.passNegWait waiting config
  case h_3 closing => exact (sound.passPos closing).passPre ((passPos_connection c).trans closing)
  case h_4 => exact sound.goOnOpening
  case h_2 | h_5 | h_6 | h_7 => exact sound

theorem ContactorRecord.withFeedback_command (r : ContactorRecord) (v : Switch) :
    (r.withFeedback v).command = r.command := by
  unfold ContactorRecord.withFeedback ContactorRecord.retimed
  split
  · rfl
  · split <;> rfl

/-- A contactor's record replaced by one with the same command. -/
theorem Sound.setContactor (sound : c.Sound) (k : Contactor) (r : ContactorRecord)
    (command : r.command = (c.contactors.get k).command) :
    Sound { c with contactors := c.contactors.set k r } := by
  refine sound.congr (fun j => ?_) rfl rfl rfl rfl
  unfold commandOf
  rw [Contactors.get_set]
  split
  · rename_i same
    exact same ▸ command
  · rfl

theorem Sound.feedback (sound : c.Sound) (config : ConfigSet) (k : Contactor) (v : Switch) :
    (c.feedback config k v).conn.Sound :=
  (sound.setContactor k _ (ContactorRecord.withFeedback_command _ v)).followFeedback config

theorem Sound.beginClosing (sound : c.Sound) (charging : c.connection = .precharging .charging) :
    c.beginClosing.conn.Sound := by
  obtain ⟨neg, fewer⟩ := sound.neg_closed (.inl ⟨_, charging⟩)
  exact sound_toState (by simp [Connection.commands, neg]) (fun h => nomatch h) (fun h => nomatch h) fewer.le
    fun three => absurd three (Nat.ne_of_lt fewer)

theorem Sound.prechargeFailed (sound : c.Sound) (running : c.precharge.isRunning = true) :
    c.prechargeFailed.conn.Sound := by
  have charging := sound.precharge.1 running
  have commands := sound.commands
  have fewer := sound.attempts_lt (by rw [charging]; rfl)
  rw [charging] at commands
  have all (k : Contactor) : ((c.commandTo .pre .opened).commandTo .neg .opened).commandOf k = .opened := by
    cases k <;> simp [commands.2.2]
  unfold ConnectionControl.prechargeFailed ConnChange.andThen
  dsimp only
  by_cases third : c.attempts + 1 = 3
  · rw [if_pos third]
    exact sound_toState ⟨all .neg, all .pre, all .pos⟩ (fun h => nomatch h) (fun h => nomatch h)
      (by simp [third]) fun _ => rfl
  · rw [if_neg third]
    exact sound_toState ⟨all .neg, all .pre, all .pos⟩ (fun h => nomatch h) (fun h => nomatch h)
      (Nat.succ_le_of_lt fewer) fun three => absurd three third

/-- A contactor fault locks the string out (R142). -/
theorem Sound.lockContactor (sound : c.Sound) : c.allOpen.lockContactor.conn.Sound := by
  have opened : ∀ cause, (c.allOpen.toState (.lockedOut cause)).Sound :=
    locked (commandOf_allOpen .neg) (commandOf_allOpen .pre) (commandOf_allOpen .pos) sound.attempts
  unfold ConnectionControl.lockContactor
  split
  case h_1 cause at_ =>
    have at_ : c.connection = .lockedOut cause := at_
    refine ⟨?_, ?_, ?_, sound.attempts,
      fun _ => by simp [ConnChange.quiet, allOpen, commandTo, at_, Connection.isLocked]⟩
    · rw [show (ConnChange.quiet c.allOpen).conn.connection = .lockedOut cause from at_]
      exact ⟨commandOf_allOpen .neg, commandOf_allOpen .pre, commandOf_allOpen .pos⟩
    · exact sound.precharge
    · exact sound.openWait
  all_goals exact opened .contactor

theorem Sound.contactorFault (sound : c.Sound) (k : Contactor) : (c.contactorFault k).conn.Sound :=
  (sound.setContactor k (c.contactors.get k).fault rfl).lockContactor

theorem Sound.unlock (sound : c.Sound) (locked : c.connection.isLocked = true) : c.unlock.conn.Sound := by
  have commands := sound.commands
  cases at_ : c.connection with
  | lockedOut cause =>
    rw [at_] at commands
    exact sound_toState commands (fun h => nomatch h) (fun h => nomatch h) (Nat.zero_le 3) fun none => nomatch none
  | opened | precharging _ | closing | closed | opening _ _ => simp [at_, Connection.isLocked] at locked

theorem Sound.sweepConn {s : State} (sound : s.conn.Sound) : s.sweepConn.conn.Sound := by
  unfold State.sweepConn
  split
  · exact sound.emergency _ _
  · split
    case h_1 charging =>
      split
      · exact sound.beginClosing charging
      · exact sound
    case h_2 wait =>
      split
      · exact sound.endWait wait
      · exact sound
    all_goals exact sound

/-! ### A secured string (R151, R152) -/

theorem Secured.passMains (secured : c.connection.secured) : c.passMains.connection.secured := by
  rcases c.passMains_cases with stays | ⟨kind, mains, -, -, ends⟩
  · rwa [stays]
  · rw [ends]
    rw [mains] at secured
    cases kind <;> exact secured

theorem Secured.passNeg (secured : c.connection.secured) : c.passNeg.conn.connection.secured := by
  rcases c.passNeg_cases with stays | ⟨kind, neg, ends⟩
  · rwa [stays]
  · rw [ends]
    rw [neg] at secured
    cases kind <;> exact secured

theorem Secured.goOnOpening (secured : c.connection.secured) : c.goOnOpening.conn.connection.secured :=
  Secured.passNeg (Secured.passMains secured)

/-- An emergency open secures the string. -/
theorem emergency_secures (c : ConnectionControl) (cause : LockCause) (reason : ConnectionReason) :
    (c.emergency cause reason).conn.connection.secured := by
  unfold ConnectionControl.emergency
  split
  case h_1 | h_2 | h_3 | h_4 => exact Secured.goOnOpening trivial
  case h_5 | h_6 | h_7 | h_9 => trivial
  case h_8 at_ => simp [ConnChange.quiet, at_, Connection.secured]
  case h_10 at_ => simp [ConnChange.quiet, at_, Connection.secured]

theorem Secured.disconnect (secured : c.connection.secured) (config : ConfigSet) (string : StringReadings) :
    (c.disconnect config string).conn.connection.secured := by
  unfold ConnectionControl.disconnect
  split
  case h_1 at_ | h_2 at_ | h_3 at_ => simp [at_, Connection.secured] at secured
  all_goals exact secured

theorem Secured.followFeedback (secured : c.connection.secured) (config : ConfigSet) :
    (c.followFeedback config).conn.connection.secured := by
  unfold ConnectionControl.followFeedback
  split
  case h_1 at_ => simp [at_, Connection.secured] at secured
  case h_3 at_ => simp [at_, Connection.secured] at secured
  case h_4 => exact Secured.goOnOpening secured
  all_goals exact secured

theorem lockContactor_secures (c : ConnectionControl) : c.lockContactor.conn.connection.secured := by
  unfold ConnectionControl.lockContactor
  split
  case h_1 at_ => simp [ConnChange.quiet, at_, Connection.secured]
  all_goals trivial

theorem Secured.sweepConn {s : State} (secured : s.conn.connection.secured) :
    s.sweepConn.conn.connection.secured := by
  unfold State.sweepConn
  split
  · exact emergency_secures _ _ _
  · split
    case h_1 at_ => simp [at_, Connection.secured] at secured
    case h_2 at_ => simp [at_, Connection.secured] at secured
    all_goals exact secured

end ConnectionControl

/-! ### Every event -/

theorem State.dropFallback_conn (s : State) : s.dropFallback.conn = { s.conn with fallbackHandle := none } := by
  unfold State.dropFallback
  cases held : s.conn.fallbackHandle with
  | some h => rfl
  | none => exact congrArg (fun h => { s.conn with fallbackHandle := h }) held

theorem State.grant_conn (s : State) (seconds : Nat) :
    (s.grant seconds).conn =
      { s.conn with
        permit := .granted, fallbackHandle := none,
        permitTimer := if seconds = 0 then .stopped else .running (seconds * Length.second) } := by
  simp only [State.grant, s.dropFallback_conn]

theorem State.withdraw_conn (s : State) :
    s.withdraw.conn = { s.conn with permit := .withdrawn, fallbackHandle := none, permitTimer := .stopped } := by
  simp only [State.withdraw, s.dropFallback_conn]

/-- What the work of an event can make of the connection record. -/
inductive ConnWork (c : ConnectionControl) : ConnectionControl → Prop
  | sides {d : ConnectionControl} (kept : SidesKept c d) : ConnWork c d
  | permit (p : PermitState) (t : Timer) (h : Option Nat) :
      ConnWork c { c with permit := p, permitTimer := t, fallbackHandle := h }
  | grid (line conv util : Bool) (t : Timer) :
      ConnWork c { c with linePresent := line, convNotice := conv, utilNotice := util, convTimer := t }

theorem ConnWork.dataLossOpen {c d : ConnectionControl} (work : ConnWork c d) : d.dataLossOpen = c.dataLossOpen := by
  cases work with
  | sides kept => exact kept.dataLossOpen
  | permit | grid => rfl

theorem ConnWork.reconnect {c d : ConnectionControl} (work : ConnWork c d) : d.reconnect = c.reconnect := by
  cases work with
  | sides kept => exact kept.reconnect
  | permit | grid => rfl

theorem State.lapse_conn (s : State) : ConnWork s.conn s.lapse.st.conn := by
  unfold State.lapse
  split
  · simp only [State.afterPush_keeps]
    exact .permit _ _ _
  · exact .permit _ _ s.conn.fallbackHandle

/-- The connection records that the work of an event can leave; the reconnect timer has an event of its own. -/
theorem EventWork.connWork {c : Instr} {b : State} {w : Publication} {x : Change} (work : EventWork c b w x)
    (other : c ≠ .reconnectTimerExpiry) : ConnWork b.conn x.st.conn := by
  cases work with
  | connect => exact .sides (.connect _)
  | disconnect => exact .sides (.disconnect _ _ _)
  | unlock => exact .sides (.unlock _)
  | gridTrip =>
    rename_i p
    cases p with
    | conv => exact .grid _ true _ _
    | util => exact .grid _ _ true b.conn.convTimer
    | site => exact .sides (.refl _)
  | gridRestored => exact .grid _ _ _ _
  | permit =>
    rw [Change.quiet_st, State.grant_conn]
    exact .permit _ _ _
  | withdraw =>
    rw [Change.quiet_st, State.withdraw_conn]
    exact .permit _ _ _
  | sampling =>
    unfold State.openForFire
    split
    · exact .sides (.emergency _ _ _)
    · exact .sides (.refl _)
  | feedback => exact .sides (.feedback _ _ _ _)
  | disagreement => exact .sides (.contactorFault _ _)
  | precharge => exact .sides (.prechargeFailed _)
  | openWait => exact .sides (.waitExpired _ _)
  | dataLossOpen => exact .sides (.beginNormal _ _ _ _)
  | lapse => exact b.lapse_conn
  | gridLine => exact .grid _ _ _ _
  | convNotice => exact .grid _ _ _ _
  | sweep =>
    rw [State.completion_conn]
    simpa using ConnWork.sides (SidesKept.sweepConn (b.withChain (b.chain.fillEntry _ _)).measured)
  | reconnect => exact absurd rfl other
  | _ => exact .sides (by simpa using .refl b.conn)

/-- No work of an event acts on the data-loss open timer. -/
theorem EventWork.dataLossOpen_kept {c : Instr} {b : State} {w : Publication} {x : Change} (work : EventWork c b w x) :
    x.st.conn.dataLossOpen = b.conn.dataLossOpen := by
  by_cases expiry : c = .reconnectTimerExpiry
  · subst expiry
    cases work with
    | reconnect => rfl
    | sweep reply => exact reply.elim
  · exact (work.connWork expiry).dataLossOpen

theorem State.connectRefusal_eq_none_iff (s : State) :
    s.connectRefusal = none ↔
      s.config.configured = true ∧ s.conn.connection = .opened ∧ s.fire.status = .quiet ∧
        s.table.dataLoss.holds = false ∧ s.table.hardLimits.flag = false ∧ s.conn.cooldown.isRunning = false := by
  simp [State.connectRefusal, ite_eq_iff]

theorem State.unlockRefusal_eq_none_iff (s : State) :
    s.unlockRefusal = none ↔
      s.conn.connection.isLocked = true ∧ s.fire.status = .quiet ∧ s.table.hardLimits.flag = false ∧
        s.conn.sound .neg = true ∧ s.conn.sound .pre = true ∧ s.conn.sound .pos = true := by
  simp [State.unlockRefusal, ite_eq_iff, and_assoc]

/-- The work of an event leaves a connection record whose commands and timers go with its state. -/
theorem EventWork.connSound {c : Instr} {b : State} {w : Publication} {x : Change} (work : EventWork c b w x)
    (sound : b.conn.Sound) (closed : b.conn.dataLossOpen.isRunning = true → b.conn.connection = .closed) :
    x.st.conn.Sound := by
  have beside {d : ConnectionControl} (contactors : d.contactors = b.conn.contactors)
      (connection : d.connection = b.conn.connection) (precharge : d.precharge = b.conn.precharge)
      (openWait : d.openWait = b.conn.openWait) (attempts : d.attempts = b.conn.attempts) : d.Sound :=
    sound.congr (fun k => by rw [ConnectionControl.commandOf, contactors]; rfl) connection
      (congrArg Timer.isRunning precharge) (congrArg Timer.isRunning openWait) attempts
  cases work with
  | connect passed =>
    obtain ⟨-, opened, -⟩ := b.connectRefusal_eq_none_iff.1 passed
    exact ConnectionControl.Sound.connect sound opened
  | disconnect => exact sound.disconnect _ _
  | unlock passed => exact sound.unlock (b.unlockRefusal_eq_none_iff.1 passed).1
  | gridTrip =>
    rename_i p
    cases p <;> exact beside rfl rfl rfl rfl rfl
  | permit =>
    rw [Change.quiet_st, State.grant_conn]
    exact beside rfl rfl rfl rfl rfl
  | withdraw =>
    rw [Change.quiet_st, State.withdraw_conn]
    exact beside rfl rfl rfl rfl rfl
  | sampling =>
    unfold State.openForFire
    split
    · exact sound.emergency _ _
    · exact sound
  | feedback => exact sound.feedback _ _ _
  | disagreement => exact sound.contactorFault _
  | precharge running => exact sound.prechargeFailed running
  | openWait running => exact sound.endWait (sound.openWait.1 running)
  | dataLossOpen running => exact sound.beginNormal (closed running) _ _ _
  | lapse =>
    unfold State.lapse
    split
    · simp only [State.afterPush_keeps]
      exact beside rfl rfl rfl rfl rfl
    · exact beside rfl rfl rfl rfl rfl
  | sweep =>
    rw [State.completion_conn]
    exact ConnectionControl.Sound.sweepConn (by simpa using sound)
  | gridRestored | gridLine | convNotice | reconnect => exact beside rfl rfl rfl rfl rfl
  | _ => simpa using sound

/-- A string that is secured stays so, but for an UNLOCK. -/
theorem EventWork.secured {c : Instr} {b : State} {w : Publication} {x : Change} (work : EventWork c b w x)
    (secured : b.conn.connection.secured) (closed : b.conn.dataLossOpen.isRunning = true → b.conn.connection = .closed)
    (sound : b.conn.Sound) (locked : ∀ p, c ≠ .unlock p) : x.st.conn.connection.secured := by
  cases work with
  | connect passed =>
    obtain ⟨-, opened, -⟩ := b.connectRefusal_eq_none_iff.1 passed
    simp [opened, Connection.secured] at secured
  | disconnect => exact ConnectionControl.Secured.disconnect secured _ _
  | unlock => exact absurd rfl (locked _)
  | gridTrip =>
    rename_i p
    cases p <;> exact secured
  | permit =>
    rw [Change.quiet_st, State.grant_conn]
    exact secured
  | withdraw =>
    rw [Change.quiet_st, State.withdraw_conn]
    exact secured
  | sampling =>
    unfold State.openForFire
    split
    · exact ConnectionControl.emergency_secures _ _ _
    · exact secured
  | @feedback k v =>
    exact ConnectionControl.Secured.followFeedback
      (c := { b.conn with contactors := b.conn.contactors.set k ((b.conn.contactors.get k).withFeedback v) }) secured _
  | disagreement => exact ConnectionControl.lockContactor_secures _
  | precharge running => simp [sound.precharge.1 running, Connection.secured] at secured
  | openWait running => simp [sound.openWait.1 running, Connection.secured] at secured
  | dataLossOpen running => simp [closed running, Connection.secured] at secured
  | lapse =>
    unfold State.lapse
    split
    · simpa using secured
    · exact secured
  | sweep =>
    rw [State.completion_conn]
    exact ConnectionControl.Secured.sweepConn (by simpa using secured)
  | gridRestored | gridLine | convNotice | reconnect => exact secured
  | _ => simpa using secured

theorem FireControl.setSiteHold_confirmed (f : FireControl) (c : ConfigSet) :
    (f.setSiteHold c).status.confirmed = f.status.confirmed := by
  unfold FireControl.setSiteHold
  split
  · rfl
  · exact FireControl.applyHold_confirmed c

theorem FireControl.dropSiteHold_confirmed (f : FireControl) (c : ConfigSet) :
    (f.dropSiteHold c).status.confirmed = f.status.confirmed := by
  unfold FireControl.dropSiteHold
  split
  · exact FireControl.applyHold_confirmed c
  · rfl

theorem FireControl.reassess_confirmed (f : FireControl) (c : ConfigSet) :
    (f.reassess c).status.confirmed = f.status.confirmed := by
  unfold FireControl.reassess
  split
  · rfl
  · rename_i calm
    rw [f.watchOrQuiet_unconfirmed c, Bool.eq_false_iff.2 calm]

theorem State.storeItem_confirmed (s : State) (n : Nat) (v : ItemValue) :
    (s.storeItem n v).fire.status.confirmed = s.fire.status.confirmed := by
  rw [State.storeItem_fire]
  split
  · exact FireControl.reassess_confirmed _ _
  · split <;> rfl

/-- A fire comes to be confirmed in a sampling event alone, which opens the string (R136). -/
theorem EventWork.fire_confirmed {c : Instr} {b : State} {w : Publication} {x : Change} (work : EventWork c b w x)
    (confirmed : x.st.fire.status.confirmed = true) :
    b.fire.status.confirmed = true ∨ x.st.conn.connection.secured := by
  cases work with
  | portReset =>
    rw [Change.quiet_st, State.portReset_fire] at confirmed
    split at confirmed
    · exact .inl ((FireControl.dropSiteHold_confirmed _ _).symm.trans confirmed)
    · exact .inl confirmed
  | holdSet => exact .inl ((FireControl.setSiteHold_confirmed _ _).symm.trans confirmed)
  | holdClear => exact .inl ((FireControl.dropSiteHold_confirmed _ _).symm.trans confirmed)
  | releaseNow entering => rcases entering with h | h <;> exact .inl (by rw [h]; rfl)
  | countdown counting => exact .inl (by rw [counting]; rfl)
  | fireReset => exact nomatch confirmed
  | detectorEnable | detectorDisable | disablement =>
    exact .inl ((FireControl.reassess_confirmed (b.fire.setDetector _ _) b.config).symm.trans confirmed)
  | sampling =>
    by_cases before : b.fire.status.confirmed = true
    · exact .inl before
    · refine .inr ?_
      simp only [State.openForFire_keeps] at confirmed
      rw [State.openForFire, if_pos (by simpa [before] using confirmed)]
      exact ConnectionControl.emergency_secures _ _ _
  | configWrite =>
    rw [Change.andThen_st, Change.quiet_st, State.storeItem_confirmed] at confirmed
    exact .inl (by simpa using confirmed)
  | _ => exact .inl (by simpa using confirmed)

/-- The hard-limit flag comes to be set at a sweep alone, which opens the string (R152). -/
theorem EventWork.flag {c : Instr} {b : State} {w : Publication} {x : Change} (work : EventWork c b w x)
    (flag : x.st.table.hardLimits.flag = true) :
    b.table.hardLimits.flag = true ∨ x.st.conn.connection.secured := by
  cases work with
  | sweep =>
    refine .inr ?_
    rw [State.completion_table, ← (State.measured_keeps _).2.1] at flag
    rw [State.completion_conn, State.sweepConn, if_pos flag]
    exact ConnectionControl.emergency_secures _ _ _
  | configAccept => exact nomatch flag
  | ageTimer => exact .inl flag
  | _ => exact .inl (by simpa using flag)

theorem connectionSound_iff (s : State) :
    ConnectionSound s ↔
      s.conn.Sound ∧ (s.conn.dataLossOpen.isRunning = true ↔ s.closedBlind = true) ∧
      (s.fire.status.confirmed = true → s.conn.connection.secured) ∧
      (s.table.hardLimits.flag = true → s.conn.connection.secured) := by
  have closed : s.conn.connection.isClosed = true ↔ s.conn.connection = .closed := by
    cases s.conn.connection <;> simp [Connection.isClosed]
  have blind : s.closedBlind = true ↔ s.conn.connection = .closed ∧ s.table.dataLoss.holds = true := by
    rw [State.closedBlind, Bool.and_eq_true, closed]
  rw [blind, ← State.fireConfirmed_iff]
  exact ⟨fun h => ⟨⟨h.commands, h.precharge, h.openWait, h.attempts, h.third⟩, h.dataLossOpen, h.fire, h.hardLimit⟩,
    fun ⟨h, blind, fire, flag⟩ => ⟨h.commands, h.precharge, h.openWait, blind, h.attempts, h.third, fire, flag⟩⟩

theorem State.closedBlind_closed {s : State} (blind : s.closedBlind = true) : s.conn.connection = .closed := by
  rw [State.closedBlind, Bool.and_eq_true] at blind
  cases at_ : s.conn.connection <;> simp [at_, Connection.isClosed] at blind ⊢

/-- The data-loss open timer runs while the string is CLOSED and data loss holds (R148). -/
theorem dataLossOpenAfter_isRunning {before after : State}
    (timer : after.conn.dataLossOpen.isRunning = true ↔ before.closedBlind = true) :
    (dataLossOpenAfter before after).isRunning = true ↔ after.closedBlind = true := by
  unfold dataLossOpenAfter
  cases now : after.closedBlind with
  | false => simp [Timer.isRunning]
  | true =>
    cases was : before.closedBlind with
    | false => simp [Timer.isRunning]
    | true => simpa using timer.2 was

theorem SilentWork.conn {c : Instr} {b u : State} (work : SilentWork c b u) :
    ∃ cooldown, u.conn = { b.conn with cooldown := cooldown } := by
  cases work <;> exact ⟨_, rfl⟩

theorem SilentWork.table {c : Instr} {b u : State} (work : SilentWork c b u) : u.table = b.table := by
  cases work <;> rfl

theorem SilentWork.fire {c : Instr} {b u : State} (work : SilentWork c b u) : u.fire = b.fire := by
  cases work <;> rfl

theorem SilentWork.config {c : Instr} {b u : State} (work : SilentWork c b u) : u.config = b.config := by
  cases work <;> rfl

theorem connectionSound_event {c : Instr} {b : State} {w : Publication} {x : Change} (work : EventWork c b w x)
    (before : ConnectionSound b) : ConnectionSound (State.settle b w x) := by
  rw [connectionSound_iff] at before ⊢
  obtain ⟨sound, timer, fire, flag⟩ := before
  have closed : b.conn.dataLossOpen.isRunning = true → b.conn.connection = .closed :=
    fun running => State.closedBlind_closed (timer.1 running)
  have kept : x.st.conn.Sound := work.connSound sound closed
  have followed : x.st.conn.dataLossOpen = b.conn.dataLossOpen := work.dataLossOpen_kept
  have stays (secured : b.conn.connection.secured) (fire : x.st.fire.status.confirmed = true ∨
      x.st.table.hardLimits.flag = true) : x.st.conn.connection.secured := by
    refine work.secured secured closed sound fun p unlock => ?_
    subst unlock
    cases work with
    | unlock passed =>
      obtain ⟨-, quiet, clear, -⟩ := b.unlockRefusal_eq_none_iff.1 passed
      simp [quiet, clear, FireStatus.confirmed] at fire
    | sweep reply => exact reply.elim
  rw [State.settle_conn, State.settle_fire, State.settle_table]
  refine ⟨kept.congr (fun _ => rfl) rfl rfl rfl rfl, ?_, fun confirmed => ?_, fun set => ?_⟩
  · have blind : (State.settle b w x).closedBlind = x.st.closedBlind := by
      rw [State.closedBlind, State.settle_conn, State.settle_table]
      rfl
    rw [blind]
    exact dataLossOpenAfter_isRunning (by rw [followed]; exact timer)
  · exact (work.fire_confirmed confirmed).elim (fun was => stays (fire was) (.inl confirmed)) id
  · exact (work.flag set).elim (fun was => stays (flag was) (.inr set)) id

theorem connectionSound_kept : KeptByWork ConnectionSound where
  agrees agree sound := by
    rw [connectionSound_iff] at sound ⊢
    rw [State.closedBlind] at sound ⊢
    rw [agree.fire, agree.table, agree.conn]
    exact sound
  reset := by
    rw [connectionSound_iff]
    exact ⟨⟨⟨rfl, rfl, rfl⟩, by decide +kernel, by decide +kernel, by decide +kernel, by decide +kernel⟩,
      by decide +kernel, fun h => absurd h (by decide +kernel), fun h => absurd h (by decide +kernel)⟩
  advance dt sound := by
    rw [connectionSound_iff] at sound ⊢
    obtain ⟨sound, timer, secured⟩ := sound
    exact ⟨sound.pass dt, by rw [← Timer.pass_isRunning _ dt] at timer; exact timer, secured⟩
  line n sound := by
    rw [connectionSound_iff] at sound ⊢
    exact sound
  silent work sound := by
    rw [connectionSound_iff] at sound ⊢
    obtain ⟨cooldown, conn⟩ := work.conn
    rw [State.closedBlind] at sound ⊢
    rw [conn, work.fire, work.table]
    obtain ⟨sound, rest⟩ := sound
    exact ⟨sound.congr (fun _ => rfl) rfl rfl rfl rfl, rest⟩
  event work sound := connectionSound_event work sound

/-! ### AC permission and the reconnect timer (R160, R161) -/

theorem permissionNow_iff (c : ConnectionControl) (status : FireStatus) :
    permissionNow c status = true ↔
      c.connection = .closed ∧ (c.permit = .granted ∨ c.permit = .lapsed) ∧ c.gridPresent = true ∧
        c.reconnect = .runOut ∧ (status = .quiet ∨ status = .watch) := by
  have closed : c.connection.isClosed = true ↔ c.connection = .closed := by
    cases c.connection <;> simp [Connection.isClosed]
  have permit : c.permit ≠ .withdrawn ↔ c.permit = .granted ∨ c.permit = .lapsed := by
    cases c.permit <;> simp
  have calm : status.confirmed = false ↔ status = .quiet ∨ status = .watch := by
    cases status <;> simp [FireStatus.confirmed]
  simp only [permissionNow, Bool.and_eq_true, closed, decide_eq_true_iff, permit, Bool.not_eq_true', calm, and_assoc]

/-- The reconnect timer with the presence of the grid (R160). -/
def ConnectionControl.GridFollowed (c : ConnectionControl) : Prop :=
  if c.gridPresent then c.reconnect.isRunning = true ∨ c.reconnect = .runOut else c.reconnect = .stopped

theorem permissionFollows_iff (s : State) :
    PermissionFollows s ↔
      s.conn.GridFollowed ∧ s.conn.acPermission = permissionNow s.conn s.fire.status := by
  have grid : s.conn.GridFollowed ↔ (s.conn.gridPresent = false → s.conn.reconnect = .stopped) ∧
      (s.conn.gridPresent = true → s.conn.reconnect.isRunning = true ∨ s.conn.reconnect = .runOut) := by
    unfold ConnectionControl.GridFollowed
    cases s.conn.gridPresent <;> simp
  have permission : s.conn.acPermission = permissionNow s.conn s.fire.status ↔ (s.conn.acPermission = true ↔ _) :=
    Bool.eq_iff_iff.trans (iff_congr .rfl (permissionNow_iff _ _))
  rw [grid, permission]
  exact ⟨fun h => ⟨⟨h.absent, h.present⟩, h.permission⟩, fun ⟨⟨absent, present⟩, h⟩ => ⟨absent, present, h⟩⟩

theorem Timer.pass_eq_stopped (t : Timer) (dt : Nat) : t.pass dt = .stopped ↔ t = .stopped := by
  cases t <;> simp [Timer.pass]

theorem Timer.pass_eq_runOut (t : Timer) (dt : Nat) : t.pass dt = .runOut ↔ t = .runOut := by
  cases t <;> simp [Timer.pass]

theorem ConnectionControl.gridPresent_pass (c : ConnectionControl) (dt : Nat) :
    (c.pass dt).gridPresent = c.gridPresent := rfl

theorem permissionNow_pass (c : ConnectionControl) (dt : Nat) (status : FireStatus) :
    permissionNow (c.pass dt) status = permissionNow c status := by
  rw [Bool.eq_iff_iff, permissionNow_iff, permissionNow_iff, ← Timer.pass_eq_runOut c.reconnect dt]
  rfl

/-- The reconnect timer as the event leaves it, whichever event it is (R160). -/
theorem EventWork.reconnect_cases {c : Instr} {b : State} {w : Publication} {x : Change} (work : EventWork c b w x) :
    x.st.conn.reconnect = b.conn.reconnect ∨
      (c = .reconnectTimerExpiry ∧ x.st.conn.gridPresent = b.conn.gridPresent ∧
        b.conn.reconnect.isRunning = true ∧ x.st.conn.reconnect = .runOut) := by
  by_cases expiry : c = .reconnectTimerExpiry
  · subst expiry
    cases work with
    | reconnect running => exact .inr ⟨rfl, rfl, running, rfl⟩
    | sweep reply => exact reply.elim
  · exact .inl (work.connWork expiry).reconnect

theorem permissionFollows_event {c : Instr} {b : State} {w : Publication} {x : Change} (work : EventWork c b w x)
    (before : b.conn.GridFollowed) : PermissionFollows (State.settle b w x) := by
  rw [permissionFollows_iff, State.settle_conn, State.settle_fire]
  refine ⟨?_, rfl⟩
  have present : (rederiveConn b x.st).gridPresent = x.st.conn.gridPresent := rfl
  have timer : (rederiveConn b x.st).reconnect = reconnectAfter b x.st := rfl
  unfold ConnectionControl.GridFollowed at before ⊢
  rw [present, timer, reconnectAfter]
  cases now : x.st.conn.gridPresent with
  | false =>
    cases was : b.conn.gridPresent with
    | true => simp
    | false =>
      rw [was] at before
      rcases work.reconnect_cases with kept | ⟨-, -, running, -⟩
      · simpa [kept] using before
      · simp_all [Timer.isRunning]
  | true =>
    cases was : b.conn.gridPresent with
    | false => simp [Timer.isRunning]
    | true =>
      rw [was] at before
      rcases work.reconnect_cases with kept | ⟨-, -, -, out⟩
      · simpa [kept] using before
      · simp [out]

theorem permissionFollows_kept : KeptByWork PermissionFollows where
  agrees agree follows := by
    rw [permissionFollows_iff] at follows ⊢
    rw [agree.fire, agree.conn]
    exact follows
  reset := by
    rw [permissionFollows_iff]
    exact ⟨rfl, rfl⟩
  advance {s} dt follows := by
    rw [permissionFollows_iff] at follows ⊢
    rw [State.advance_conn, State.advance_fire]
    obtain ⟨grid, permission⟩ := follows
    refine ⟨?_, permission.trans (permissionNow_pass _ dt _).symm⟩
    unfold ConnectionControl.GridFollowed at grid ⊢
    rw [ConnectionControl.gridPresent_pass, show (s.conn.pass dt).reconnect = s.conn.reconnect.pass dt from rfl,
      Timer.pass_isRunning, Timer.pass_eq_stopped, Timer.pass_eq_runOut]
    exact grid
  line n follows := by
    rw [permissionFollows_iff] at follows ⊢
    exact follows
  silent work follows := by
    rw [permissionFollows_iff] at follows ⊢
    obtain ⟨cooldown, conn⟩ := work.conn
    rw [conn, work.fire]
    exact follows
  event work follows := permissionFollows_event work ((permissionFollows_iff _).1 follows).1

/-! ### What the properties say of contactors and openings (R141, R151) -/

theorem ConnectionControl.Sound.neg_of_mains {c : ConnectionControl} (sound : c.Sound)
    (mains : c.commandOf .pos = .closed ∨ c.commandOf .pre = .closed) : c.commandOf .neg = .closed := by
  have commands := sound.commands
  cases at_ : c.connection with
  | opened | lockedOut _ =>
    rw [at_] at commands
    obtain ⟨-, pre, pos⟩ := commands
    simp [pre, pos] at mains
  | precharging phase =>
    rw [at_] at commands
    cases phase <;> exact commands.1
  | closing | closed =>
    rw [at_] at commands
    exact commands.1
  | opening kind phase =>
    rw [at_] at commands
    cases phase with
    | wait =>
      cases kind with
      | normal => exact commands.1
      | abort | emergency _ _ => exact commands.elim
    | mains =>
      cases kind with
      | normal | emergency _ _ => exact commands.1
      | abort => exact commands.elim
    | neg =>
      have opened : c.commandOf .neg = .opened ∧ c.commandOf .pre = .opened ∧ c.commandOf .pos = .opened :=
        sound.commands_neg at_
      simp [opened.2.1, opened.2.2] at mains

theorem Connection.secured_iff (n : Connection) :
    n.secured ↔ n.isLocked = true ∨ ∃ cause fromAbort phase, n = .opening (.emergency cause fromAbort) phase := by
  cases n with
  | lockedOut => simp [secured, isLocked]
  | opening kind phase => cases kind <;> simp [secured, isLocked]
  | opened | precharging | closing | closed => simp [secured, isLocked]

/-! ### The two timers that follow conditions (R148, R160) -/

theorem ConnectionControl.gridPresent_iff (c : ConnectionControl) :
    c.gridPresent = true ↔ c.linePresent = true ∧ c.convNotice = false ∧ c.utilNotice = false := by
  simp [gridPresent, and_assoc]

theorem State.closedBlind_iff (s : State) :
    s.closedBlind = true ↔ s.conn.connection = .closed ∧ s.table.dataLoss.holds = true := by
  have closed : s.conn.connection.isClosed = true ↔ s.conn.connection = .closed := by
    cases s.conn.connection <;> simp [Connection.isClosed]
  rw [State.closedBlind, Bool.and_eq_true, closed]

/-- What R148 and R160 say of the two timers, between the states before and after a command. -/
structure TimersFollow (c : Instr) (s t : State) : Prop where
  restored : s.conn.gridPresent = false → t.conn.gridPresent = true →
    t.conn.reconnect = .running t.config.reconnectDelay
  lost : s.conn.gridPresent = true → t.conn.gridPresent = false → t.conn.reconnect = .stopped
  reconnecting : c ≠ .reconnectTimerExpiry → s.conn.gridPresent = t.conn.gridPresent →
    t.conn.reconnect = s.conn.reconnect.pass (t.clock - s.clock)
  blinded : s.closedBlind = false → t.closedBlind = true → t.conn.dataLossOpen = .running t.config.dataLossOpenTime
  ended : s.closedBlind = true → t.closedBlind = false → t.conn.dataLossOpen = .stopped
  blind : s.closedBlind = true → t.closedBlind = true →
    t.conn.dataLossOpen = s.conn.dataLossOpen.pass (t.clock - s.clock)

/-- Nothing follows while the grid and the string stay as they were. -/
theorem TimersFollow.unchanged {c : Instr} {s t : State} (grid : t.conn.gridPresent = s.conn.gridPresent)
    (blind : t.closedBlind = s.closedBlind)
    (reconnect : t.conn.reconnect = s.conn.reconnect.pass (t.clock - s.clock))
    (dataLossOpen : t.conn.dataLossOpen = s.conn.dataLossOpen.pass (t.clock - s.clock)) : TimersFollow c s t where
  restored before after := by simp [grid, before] at after
  lost before after := by simp [grid, before] at after
  reconnecting _ _ := reconnect
  blinded before after := by simp [blind, before] at after
  ended before after := by simp [blind, before] at after
  blind _ _ := dataLossOpen

theorem Moves.timersFollow {c : Instr} {s t : State} (moves : Moves c s t) : TimersFollow c s t := by
  cases moves with
  | still agrees clock =>
    refine .unchanged (by rw [agrees.conn]) (by rw [State.closedBlind, agrees.conn, agrees.table]; rfl) ?_ ?_
    · rw [agrees.conn, clock, Nat.sub_self, Timer.pass_zero]
    · rw [agrees.conn, clock, Nat.sub_self, Timer.pass_zero]
  | @silent dt chain ports _ line work =>
    obtain ⟨cooldown, conn⟩ := work.conn
    have passed : t.clock - s.clock = dt := by
      rw [work.clock]
      exact Nat.add_sub_cancel_left _ _
    refine .unchanged (by rw [conn]; rfl) (by rw [State.closedBlind, conn, work.table]; rfl) ?_ ?_
    · rw [conn, passed]
      rfl
    · rw [conn, passed]
      rfl
  | @event dt chain ports w x _ line work agrees clock =>
    have passed : t.clock - s.clock = dt := by
      rw [clock, State.settle_clock, work.clock]
      exact Nat.add_sub_cancel_left _ _
    have before : (s.later dt chain ports).closedBlind = s.closedBlind := rfl
    have grid : (s.later dt chain ports).conn.gridPresent = s.conn.gridPresent := rfl
    have conn : t.conn = rederiveConn (s.later dt chain ports) x.st := by rw [agrees.conn, State.settle_conn]
    have config : t.config = x.st.config := by rw [agrees.config, State.settle_config]
    have present : t.conn.gridPresent = x.st.conn.gridPresent := by rw [conn]; rfl
    have after : t.closedBlind = x.st.closedBlind := by
      rw [State.closedBlind, conn, agrees.table, State.settle_table]
      rfl
    have reconnect : t.conn.reconnect = reconnectAfter (s.later dt chain ports) x.st := by rw [conn]; rfl
    have dataLossOpen : t.conn.dataLossOpen = dataLossOpenAfter (s.later dt chain ports) x.st := by rw [conn]; rfl
    have still : x.st.conn.dataLossOpen = s.conn.dataLossOpen.pass dt := work.dataLossOpen_kept
    rw [reconnectAfter, grid] at reconnect
    rw [dataLossOpenAfter, before] at dataLossOpen
    constructor
    case restored =>
      intro was now
      rw [reconnect, config, ← present, now, was]
      rfl
    case lost =>
      intro was now
      rw [reconnect, ← present, now, was]
      rfl
    case reconnecting =>
      intro other same
      have kept : x.st.conn.reconnect = s.conn.reconnect.pass dt := (work.connWork other).reconnect
      rw [reconnect, ← present, ← same, kept, passed]
      cases s.conn.gridPresent <;> rfl
    case blinded =>
      intro was now
      rw [dataLossOpen, config, ← after, now, was]
      rfl
    case ended =>
      intro was now
      rw [dataLossOpen, ← after, now]
      rfl
    case blind =>
      intro was now
      rw [dataLossOpen, ← after, now, was, still, passed]
      rfl

/-- Settles O57: the connection record is kept sound by every piece of work (`connectionSound_kept`,
`permissionFollows_kept`), and the two timers follow their conditions in every event (`Moves.timersFollow`). -/
theorem connectionStaysSound : Obligations.ConnectionStaysSound := by
  unfold Obligations.ConnectionStaysSound
  refine ⟨fun s t stepped => ⟨connectionSound_kept.step stepped, permissionFollows_kept.step stepped⟩,
    fun s t before stepped => ?_, fun s => .rfl, fun c s t notReset notEnd executed => ?_⟩
  · have after := connectionSound_kept.step stepped before
    have sound := ((connectionSound_iff t).1 after).1
    refine ⟨sound.neg_of_mains, fun confirmed => ?_⟩
    rcases (Connection.secured_iff _).1 (after.fire confirmed) with locked | ⟨cause, fromAbort, phase, at_⟩
    · exact .inl locked
    · exact .inr ⟨_, _, at_⟩
  · have follow := (exec_moves notReset notEnd executed).timersFollow
    simp only [← ConnectionControl.gridPresent_iff, ← State.closedBlind_iff, Bool.not_eq_true, ← Bool.eq_iff_iff]
    exact ⟨follow.restored, follow.lost, follow.reconnecting, follow.blinded, follow.ended, follow.blind⟩

end Sys2Proof.Machine
end

section
/-! The published limits through every step (Chapter 3): what an event makes of the envelope record, and that every
step keeps the limits under their gates, caps and rating, and the configuration set sound. -/

namespace Sys2Proof.Machine

/-! ### The record that an event leaves -/

/-- An event keeps the record, or makes one publication from the state that it leaves (R46). -/
theorem EventWork.published_cases {c : Instr} {b : State} {w : Publication} {x : Change} (work : EventWork c b w x) :
    (State.settledPublication b w x = none ∧ (State.settle b w x).envelope = b.envelope) ∨
      ∃ kind, State.settledPublication b w x = some kind ∧
        (State.settle b w x).envelope =
          (({ State.settle b w x with envelope := b.envelope } : State).publish kind).envelope := by
  have envelope := State.settle_envelope b w x
  rw [work.envelope] at envelope
  cases due : State.settledPublication b w x with
  | none =>
    rw [due] at envelope
    exact .inl ⟨rfl, envelope⟩
  | some kind =>
    rw [due] at envelope
    exact .inr ⟨kind, rfl, envelope⟩

/-- The one event that never publishes is a write while the part is UNCONFIGURED (log entry 20). -/
theorem EventWork.never {c : Instr} {b : State} {w : Publication} {x : Change} (work : EventWork c b w x)
    (never : w = .never) :
    (∃ p, c = .configWrite p) ∧ b.config.configured = false ∧ x.st.config.configured = false ∧
      x.st.stack = b.stack := by
  cases work with
  | @configWrite p =>
    have unconfigured : b.config.configured = false := by
      cases configured : b.config.configured with
      | false => rfl
      | true => simp [writePublication, configured] at never
    refine ⟨⟨p, rfl⟩, unconfigured, ?_, by simp⟩
    rw [Change.andThen_st, Change.quiet_st, State.storeItem_config]
    simp [State.leaveConfigured, unconfigured, ConfigSet.store]
  | _ => exact nomatch never

/-- An event that does not publish leaves the inputs of R45 as they were, but for a write in UNCONFIGURED. -/
theorem EventWork.unpublished {c : Instr} {b : State} {w : Publication} {x : Change} (work : EventWork c b w x)
    (none : State.settledPublication b w x = none) :
    (State.settle b w x).inputs = b.inputs ∨
      ((∃ p, c = .configWrite p) ∧ b.config.configured = false ∧ (State.settle b w x).config.configured = false ∧
        (State.settle b w x).stack = b.stack) := by
  rw [State.settle_inputs, State.settle_config, State.settle_stack]
  rw [State.settledPublication] at none
  cases publication : w with
  | never => exact .inr (work.never publication)
  | ifChanged =>
    rw [publication] at none
    refine .inl (Eq.symm ?_)
    by_contra differ
    exact absurd none (by simp only [publicationDue, if_neg differ]; exact fun h => nomatch h)
  | always | sweep =>
    rw [publication] at none
    exact nomatch none

/-! ### Gates and caps (R55, R56) -/

/-- A limit of the published record. -/
def State.limit (s : State) : Direction → Nat
  | .charge => s.envelope.record.chargeLimit
  | .discharge => s.envelope.record.dischargeLimit

theorem gatesHold_iff (s : State) : GatesHold s ↔ ∀ d, s.gated d = true → s.limit d = 0 := by
  constructor
  · intro hold d gated
    cases d with
    | charge => exact (s.gated_charge_iff.1 gated).elim (fun both => (hold.both both).1) hold.watch
    | discharge => exact (hold.both (s.gated_discharge_iff.1 gated)).2
  · intro hold
    exact ⟨fun both =>
        ⟨hold .charge (s.gated_charge_iff.2 (.inl both)), hold .discharge (s.gated_discharge_iff.2 both)⟩,
      fun watch => hold .charge (s.gated_charge_iff.2 (.inr watch))⟩

theorem withinCaps_iff (s : State) :
    WithinCaps s ↔ ∀ d, ∀ e ∈ s.stack.entries, ∀ c, e.cap d = some c → s.limit d ≤ c := by
  constructor
  · intro within d
    cases d with
    | charge => exact within.charge
    | discharge => exact within.discharge
  · intro within
    exact ⟨within .charge, within .discharge⟩

/-- The gates are told by four of the inputs. -/
theorem State.gated_congr {s t : State} (status : t.fire.status = s.fire.status)
    (permission : t.conn.acPermission = s.conn.acPermission)
    (dataLoss : t.table.dataLoss.holds = s.table.dataLoss.holds)
    (configured : t.config.configured = s.config.configured) (d : Direction) : t.gated d = s.gated d := by
  simp only [State.gated, State.gates, status, permission, dataLoss, configured]

theorem State.gated_of_unconfigured {s : State} (unconfigured : s.config.configured = false) (d : Direction) :
    s.gated d = true :=
  (s.gated_iff d).2 (.inl (.inl unconfigured))

/-- What a publication makes of a limit. -/
theorem State.limit_publish (s : State) (kind : PublicationKind) (d : Direction) :
    (s.publish kind).limit d = s.newLimit d kind (s.limit d) := by
  cases d <;> rfl

theorem EventWork.limit_cases {c : Instr} {b : State} {w : Publication} {x : Change} (work : EventWork c b w x) :
    (State.settledPublication b w x = none ∧ ∀ d, (State.settle b w x).limit d = b.limit d) ∨
      ∃ kind, ∀ d, (State.settle b w x).limit d = (State.settle b w x).newLimit d kind (b.limit d) := by
  rcases work.published_cases with ⟨none, kept⟩ | ⟨kind, -, envelope⟩
  · refine .inl ⟨none, fun d => ?_⟩
    cases d <;> rw [State.limit, kept] <;> rfl
  · refine .inr ⟨kind, fun d => ?_⟩
    have published := State.limit_publish { State.settle b w x with envelope := b.envelope } kind d
    cases d <;> rw [State.limit, envelope] <;> exact published

theorem State.newLimit_le_cap {s : State} {d : Direction} {e : Entry} {cap : Nat} (mem : e ∈ s.stack.entries)
    (carries : e.cap d = some cap) (kind : PublicationKind) (previous : Nat) : s.newLimit d kind previous ≤ cap := by
  unfold State.newLimit
  split
  · exact Nat.zero_le cap
  · refine (min_le_left _ _).trans ?_
    cases low : lowestCap d s.stack.entries with
    | none => exact absurd ((lowestCap_eq_none_iff d _).1 low e mem) (by simp [carries])
    | some lowest =>
      rw [State.computedLimit, low]
      exact (min_le_right _ _).trans (((lowestCap_eq_some_iff d _ lowest).1 low).2 e mem cap carries)

theorem gatesHold_kept : KeptByWork GatesHold where
  agrees {s u} agree hold := by
    rw [gatesHold_iff] at hold ⊢
    intro d
    have limit : u.limit d = s.limit d := by cases d <;> rw [State.limit, agree.envelope] <;> rfl
    rw [limit, State.gated_congr (s := s) (by rw [agree.fire]) (by rw [agree.conn]) (by rw [agree.table])
      (by rw [agree.config])]
    exact hold d
  reset := (gatesHold_iff _).2 fun d _ => by cases d <;> rfl
  advance dt hold := by
    rw [gatesHold_iff] at hold ⊢
    exact fun d => by cases d <;> exact hold _
  line n hold := by
    rw [gatesHold_iff] at hold ⊢
    exact fun d => by cases d <;> exact hold _
  silent work hold := by
    rw [gatesHold_iff] at hold ⊢
    cases work <;> exact fun d => by cases d <;> exact hold _
  event {c b w x} work hold := by
    rw [gatesHold_iff] at hold ⊢
    intro d gated
    rcases work.limit_cases with ⟨none, kept⟩ | ⟨kind, published⟩
    · rw [kept]
      refine hold d ?_
      rcases work.unpublished none with same | ⟨-, unconfigured, -⟩
      · rw [← gated]
        exact (State.gated_congr (congrArg Inputs.status same) (congrArg Inputs.acPermission same)
          (congrArg Inputs.dataLoss same) (congrArg Inputs.configured same) d).symm
      · exact State.gated_of_unconfigured unconfigured d
    · rw [published, State.newLimit_of_gated gated]

theorem withinCaps_kept : KeptByWork WithinCaps where
  agrees {s u} agree within := by
    rw [withinCaps_iff] at within ⊢
    intro d
    have limit : u.limit d = s.limit d := by cases d <;> rw [State.limit, agree.envelope] <;> rfl
    rw [limit, agree.stack]
    exact within d
  reset := (withinCaps_iff _).2 fun _ _ mem => nomatch mem
  advance {s} dt within := by
    rw [withinCaps_iff] at within ⊢
    intro d e mem cap carries
    obtain ⟨old, there, rfl⟩ := List.mem_map.1 mem
    have le := within d old there cap (by cases d <;> exact carries)
    cases d <;> exact le
  line n within := by
    rw [withinCaps_iff] at within ⊢
    exact fun d => by cases d <;> exact within _
  silent work within := by
    rw [withinCaps_iff] at within ⊢
    cases work <;> exact fun d => by cases d <;> exact within _
  event {c b w x} work within := by
    rw [withinCaps_iff] at within ⊢
    intro d e mem cap carries
    rcases work.limit_cases with ⟨none, kept⟩ | ⟨kind, published⟩
    · rw [kept]
      refine within d e ?_ cap carries
      have entries : (State.settle b w x).stack.entries = b.stack.entries := by
        rcases work.unpublished none with same | ⟨-, -, -, same⟩
        · exact congrArg Inputs.entries same
        · rw [same]
      rwa [← entries]
    · rw [published]
      exact State.newLimit_le_cap mem carries kind _

/-! ### The configuration set (R180, R181, R184) -/

theorem ConfigSet.value_store_same {c : ConfigSet} {n : Nat} (inside : 1 ≤ n ∧ n ≤ 89) (count : c.items.length = 89)
    (v : ItemValue) : (c.store n v).value n = v := by
  have bound : n - 1 < c.items.length := by omega
  simp [ConfigSet.value, ConfigSet.store, List.getD_eq_getElem?_getD, bound]

theorem ItemsSound.store {c : ConfigSet} (sound : ItemsSound c) {n : Nat} {range : ItemRange} {v : ItemValue}
    (item : itemRange n = some range) (admitted : range.admits v = true)
    (unconfigured : c.configured = false) : ItemsSound (c.store n v) where
  count := by simp [ConfigSet.store, sound.count]
  ranges m other named := by
    by_cases same : n = m
    · subst same
      rw [ConfigSet.value_store_same (itemRange_bounds item) sound.count]
      exact Option.some.inj (item.symm.trans named) ▸ admitted
    · rw [ConfigSet.value_store c n m v (itemRange_bounds item).1 (itemRange_bounds named).1 same]
      exact sound.ranges m other named
  accepted configured := by simp [ConfigSet.store, unconfigured] at configured

theorem ItemsSound.unconfigure {c : ConfigSet} (sound : ItemsSound c) : ItemsSound { c with configured := false } :=
  ⟨sound.count, sound.ranges, fun h => nomatch h⟩

theorem State.leaveConfigured_config (s : State) (n : Nat) :
    (s.leaveConfigured n).st.config = { s.config with configured := false } := by
  unfold State.leaveConfigured
  split
  · rfl
  · rename_i unconfigured
    rw [← Bool.eq_false_iff.2 unconfigured]
    rfl

theorem defaultItems_admitted :
    ∀ n < 90, ((itemRange n).all fun range => range.admits (State.reset.config.value n)) = true := by decide +kernel

theorem itemsSound_reset : ItemsSound State.reset.config where
  count := by decide +kernel
  ranges n range item := by
    have admitted := defaultItems_admitted n (by have := itemRange_bounds item; omega)
    rwa [item] at admitted
  accepted configured := absurd configured (by decide +kernel)

theorem itemsSound_kept : KeptByWork fun s => ItemsSound s.config where
  agrees agree sound := agree.config.symm ▸ sound
  reset := itemsSound_reset
  advance _ sound := sound
  line _ sound := sound
  silent work sound := work.config.symm ▸ sound
  event work sound := by
    rw [State.settle_config]
    cases work with
    | configWrite item passed admitted =>
      rw [Change.andThen_st, Change.quiet_st, State.storeItem_config, State.leaveConfigured_config]
      exact sound.unconfigure.store item admitted rfl
    | configAccept unconfigured passed => exact ⟨sound.count, sound.ranges, fun _ => passed⟩
    | _ => simpa using sound

/-- The rated current, like every item, is written in UNCONFIGURED alone. -/
theorem EventWork.items {c : Instr} {b : State} {w : Publication} {x : Change} (work : EventWork c b w x) :
    x.st.config.items = b.config.items ∨ x.st.config.configured = false := by
  cases work with
  | configWrite =>
    refine .inr ?_
    rw [Change.andThen_st, Change.quiet_st, State.storeItem_config, State.leaveConfigured_config]
    rfl
  | _ => exact .inl (by simp [State.accept])

/-! ### The rating (R49 to R54, R58) -/

theorem ItemRange.admits_between {low high : Int} {v : ItemValue}
    (admitted : (ItemRange.between low high).admits v = true) :
    low ≤ v.number ∧ v.number ≤ high := by
  cases v with
  | scalar n => simpa [ItemRange.admits, ItemValue.number] using admitted
  | point t n => simp [ItemRange.admits] at admitted

theorem ItemRange.admits_breakpoint {v : ItemValue} (admitted : ItemRange.breakpoint.admits v = true) :
    0 ≤ v.pair.2 ∧ v.pair.2 ≤ 1000 := by
  cases v with
  | scalar n => simp [ItemRange.admits] at admitted
  | point t n =>
    simp only [ItemRange.admits, Bool.and_eq_true, decide_eq_true_iff] at admitted
    exact ⟨admitted.1.2, admitted.2⟩

/-- An item that is a number between two bounds holds one. -/
theorem ItemsSound.int {c : ConfigSet} (sound : ItemsSound c) {n : Nat} {low high : Int}
    (item : itemRange n = some (.between low high)) : low ≤ c.int n ∧ c.int n ≤ high :=
  ItemRange.admits_between (sound.ranges n _ item)

/-- The values of an envelope curve lie from 0 to 1000. -/
theorem ItemsSound.curve {c : ConfigSet} (sound : ItemsSound c) {first count : Nat}
    (items : ∀ k < count, itemRange (first + k) = some .breakpoint) :
    ∀ p ∈ c.curve first count, 0 ≤ p.2 ∧ p.2 ≤ 1000 := by
  intro p mem
  obtain ⟨k, inside, rfl⟩ := List.mem_map.1 mem
  exact ItemRange.admits_breakpoint (sound.ranges _ _ (items k (List.mem_range.1 inside)))

theorem curveFrom_le {t0 y0 t : Int} {points : List (Int × Int)} (from_ : t0 ≤ t) (top : y0 ≤ 1000)
    (tops : ∀ p ∈ points, p.2 ≤ 1000) : curveFrom t0 y0 points t ≤ 1000 := by
  induction points generalizing t0 y0 with
  | nil => exact top
  | cons p rest ih =>
    obtain ⟨t1, y1⟩ := p
    have next : y1 ≤ 1000 := tops (t1, y1) (List.mem_cons_self ..)
    rw [curveFrom]
    split
    case isTrue below =>
      have between := (interpolation_between y0 y1 (t - t0) (t1 - t0) (by omega) (by omega) (by omega)).2
      exact between.trans (max_le top next)
    case isFalse above =>
      exact ih (by omega) next fun p mem => tops p (List.mem_cons_of_mem _ mem)

theorem envelopeCurve_le {points : List (Int × Int)} (tops : ∀ p ∈ points, p.2 ≤ 1000) (t : Int) :
    envelopeCurve points t ≤ 1000 := by
  unfold envelopeCurve curveAt
  split
  · decide
  · rename_i t0 y0 rest
    have top : y0 ≤ 1000 := tops (t0, y0) (List.mem_cons_self ..)
    split
    · exact top
    · exact curveFrom_le (by omega) top fun p mem => tops p (List.mem_cons_of_mem _ mem)

theorem temperatureFactor_le {points : List (Int × Int)} (tops : ∀ p ∈ points, p.2 ≤ 1000)
    (low high : Option (Int × Nat)) : temperatureFactor points low high ≤ 1000 := by
  unfold temperatureFactor
  split
  · exact (min_le_left _ _).trans (envelopeCurve_le tops _)
  · decide

/-- A combined factor lies at 1000 at most when its parts do. -/
theorem Factors.combined_le {f : Factors} (base : f.base ≤ 1000) (cooling : 0 ≤ f.cooling ∧ f.cooling ≤ 1000)
    (detection : 0 ≤ f.detection ∧ f.detection ≤ 1000) : f.combined ≤ 1000 := by
  have scaled {a k : Int} (ha : a ≤ 1000) (hk : 0 ≤ k ∧ k ≤ 1000) : a * k / 1000 ≤ 1000 := by
    have le : a * k ≤ 1000 * 1000 :=
      (mul_le_mul_of_nonneg_right ha hk.1).trans (mul_le_mul_of_nonneg_left hk.2 (by decide))
    omega
  exact scaled (scaled base cooling) detection

theorem ItemsSound.cooling {c : ConfigSet} (sound : ItemsSound c) (state : CoolingState) :
    0 ≤ coolingFactor c state ∧ coolingFactor c state ≤ 1000 := by
  cases state with
  | normal => exact ⟨Int.natCast_nonneg 1000, le_refl _⟩
  | degraded => exact sound.int (n := 25) (by decide +kernel)
  | lost => exact sound.int (n := 26) (by decide +kernel)

theorem ItemsSound.factors {s : State} (sound : ItemsSound s.config) (d : Direction) :
    (s.factors d).combined ≤ 1000 := by
  have detecting {n : Nat} (item : itemRange n = some (.between 0 1000)) :
      0 ≤ (if s.fire.impaired then s.config.int n else 1000) ∧
        (if s.fire.impaired then s.config.int n else 1000) ≤ 1000 := by
    split
    · exact sound.int item
    · decide
  cases d with
  | charge =>
    exact Factors.combined_le
      ((min_le_right _ _).trans (temperatureFactor_le
        (fun p mem => (sound.curve (first := 13) (count := 6) (by decide +kernel) p mem).2) _ _))
      (sound.cooling _) (detecting (n := 27) (by decide +kernel))
  | discharge =>
    exact Factors.combined_le
      ((min_le_right _ _).trans (temperatureFactor_le
        (fun p mem => (sound.curve (first := 19) (count := 6) (by decide +kernel) p mem).2) _ _))
      (sound.cooling _) (detecting (n := 28) (by decide +kernel))

theorem ItemsSound.newLimit_le_rated {s : State} (sound : ItemsSound s.config) (d : Direction)
    (kind : PublicationKind) (previous : Nat) : s.newLimit d kind previous ≤ s.config.ratedCurrent := by
  unfold State.newLimit
  split
  · exact Nat.zero_le _
  · refine (min_le_left _ _).trans ?_
    have raw : s.rawLimit d ≤ s.config.ratedCurrent := by
      have le := mul_le_mul_of_nonneg_left (sound.factors d) (Int.natCast_nonneg s.config.ratedCurrent)
      rw [State.rawLimit]
      omega
    unfold State.computedLimit cappedLimit
    split
    · exact raw
    · exact (min_le_left _ _).trans raw

theorem limitsRated_iff (s : State) :
    LimitsRated s ↔ (∀ d, s.limit d ≤ s.config.ratedCurrent) ∧
      s.envelope.record.chargePower = powerLimit s.envelope.record.chargeLimit s.envelope.record.vsum ∧
      s.envelope.record.dischargePower = powerLimit s.envelope.record.dischargeLimit s.envelope.record.vsum := by
  constructor
  · intro rated
    refine ⟨fun d => ?_, rated.chargePower, rated.dischargePower⟩
    cases d with
    | charge => exact rated.charge
    | discharge => exact rated.discharge
  · rintro ⟨rated, charge, discharge⟩
    exact ⟨rated .charge, rated .discharge, charge, discharge⟩

/-- The gates, the configuration set and the rating together. -/
def RatedUnderGates (s : State) : Prop := GatesHold s ∧ ItemsSound s.config ∧ LimitsRated s

theorem limitsRated_event {c : Instr} {b : State} {w : Publication} {x : Change} (work : EventWork c b w x)
    (sound : RatedUnderGates b) : LimitsRated (State.settle b w x) := by
  obtain ⟨hold, items, rated⟩ := sound
  rw [limitsRated_iff] at rated ⊢
  have after : ItemsSound (State.settle b w x).config := itemsSound_kept.event work items
  refine ⟨fun d => ?_, ?_⟩
  · rcases work.limit_cases with ⟨none, kept⟩ | ⟨kind, published⟩
    · rw [kept, State.settle_config]
      rcases work.items with same | unconfigured
      · have current : x.st.config.ratedCurrent = b.config.ratedCurrent := by
          simp only [ConfigSet.ratedCurrent, ConfigSet.nat, ConfigSet.int, ConfigSet.value, same]
        rw [current]
        exact rated.1 d
      · have before : b.config.configured = false := by
          rcases work.unpublished none with same | ⟨-, before, -⟩
          · rw [← unconfigured, ← State.settle_config b w x]
            exact (congrArg Inputs.configured same).symm
          · exact before
        rw [(gatesHold_iff b).1 hold d (State.gated_of_unconfigured before d)]
        exact Nat.zero_le _
    · rw [published]
      exact after.newLimit_le_rated d kind _
  · rcases work.published_cases with ⟨-, kept⟩ | ⟨kind, -, published⟩
    · rw [kept]
      exact rated.2
    · rw [published]
      exact ⟨rfl, rfl⟩

theorem ratedUnderGates_kept : KeptByWork RatedUnderGates where
  agrees agree sound := by
    obtain ⟨hold, items, rated⟩ := sound
    refine ⟨gatesHold_kept.agrees agree hold, itemsSound_kept.agrees agree items, ?_⟩
    exact ⟨by rw [agree.envelope, agree.config]; exact rated.charge,
      by rw [agree.envelope, agree.config]; exact rated.discharge, by rw [agree.envelope]; exact rated.chargePower,
      by rw [agree.envelope]; exact rated.dischargePower⟩
  reset := ⟨gatesHold_kept.reset, itemsSound_kept.reset, by
    rw [limitsRated_iff]
    exact ⟨fun d => by cases d <;> exact Nat.zero_le _, rfl, rfl⟩⟩
  advance dt sound := ⟨gatesHold_kept.advance dt sound.1, sound.2.1,
    ⟨sound.2.2.charge, sound.2.2.discharge, sound.2.2.chargePower, sound.2.2.dischargePower⟩⟩
  line n sound := ⟨gatesHold_kept.line n sound.1, sound.2.1,
    ⟨sound.2.2.charge, sound.2.2.discharge, sound.2.2.chargePower, sound.2.2.dischargePower⟩⟩
  silent work sound := by
    obtain ⟨hold, items, rated⟩ := sound
    refine ⟨gatesHold_kept.silent work hold, itemsSound_kept.silent work items, ?_⟩
    cases work <;> exact ⟨rated.charge, rated.discharge, rated.chargePower, rated.dischargePower⟩
  event work sound :=
    ⟨gatesHold_kept.event work sound.1, itemsSound_kept.event work sound.2.1, limitsRated_event work sound⟩

/-- Settles O55: gates, caps, rating and configuration set are each kept by every piece of work. -/
theorem publishedLimitsStayBounded : Obligations.PublishedLimitsStayBounded := by
  unfold Obligations.PublishedLimitsStayBounded
  exact ⟨fun s t stepped => ⟨gatesHold_kept.step stepped, withinCaps_kept.step stepped,
      fun hold items rated => (ratedUnderGates_kept.step stepped ⟨hold, items, rated⟩).2.2⟩,
    fun s t items stepped => itemsSound_kept.step stepped items⟩

end Sys2Proof.Machine
end

section
/-! The chain controller through every step (Chapter 1): what its operations keep, and the soundness of its records,
buffer, divisors and period timer. -/

namespace Sys2Proof.Machine

/-! ### The sweep number -/

namespace ChainState

variable (c : ChainState)

@[simp] theorem applyDivisor_keeps :
    c.applyDivisor.sweepNumber = c.sweepNumber ∧ c.applyDivisor.mode = c.mode ∧ c.applyDivisor.records = c.records ∧
    c.applyDivisor.buffer = c.buffer ∧ c.applyDivisor.activity = c.activity ∧ c.applyDivisor.due = c.due ∧
    c.applyDivisor.periodTimer = c.periodTimer := by
  unfold applyDivisor
  split <;> exact ⟨rfl, rfl, rfl, rfl, rfl, rfl, rfl⟩

@[simp] theorem becomeIdle_keeps :
    c.becomeIdle.sweepNumber = c.sweepNumber ∧ c.becomeIdle.mode = c.mode ∧ c.becomeIdle.records = c.records ∧
    c.becomeIdle.buffer = c.buffer ∧ c.becomeIdle.due = c.due ∧ c.becomeIdle.periodTimer = c.periodTimer := by
  simp [becomeIdle]

@[simp] theorem serveBleedOff_keeps :
    c.serveBleedOff.sweepNumber = c.sweepNumber ∧ c.serveBleedOff.mode = c.mode ∧
    c.serveBleedOff.records = c.records ∧ c.serveBleedOff.buffer = c.buffer ∧ c.serveBleedOff.due = c.due ∧
    c.serveBleedOff.periodTimer = c.periodTimer ∧ c.serveBleedOff.divisor = c.divisor ∧
    c.serveBleedOff.deferredDivisor = c.deferredDivisor := by
  unfold serveBleedOff
  split <;> exact ⟨rfl, rfl, rfl, rfl, rfl, rfl, rfl, rfl⟩

@[simp] theorem stopMode_keeps :
    c.stopMode.sweepNumber = c.sweepNumber ∧ c.stopMode.records = c.records ∧ c.stopMode.buffer = c.buffer ∧
    c.stopMode.activity = c.activity ∧ c.stopMode.divisor = c.divisor ∧
    c.stopMode.deferredDivisor = c.deferredDivisor := by
  unfold stopMode
  split <;> exact ⟨rfl, rfl, rfl, rfl, rfl, rfl⟩

@[simp] theorem endAbort_sweepNumber : c.endAbort.sweepNumber = c.sweepNumber := by simp [endAbort]

@[simp] theorem abortSweep_sweepNumber : c.abortSweep.sweepNumber = c.sweepNumber := by
  unfold abortSweep
  split
  · split
    · exact c.endAbort_sweepNumber
    · rfl
  · rfl

@[simp] theorem stop_sweepNumber : c.stop.sweepNumber = c.sweepNumber := by simp [stop]

@[simp] theorem sweepStop_sweepNumber : c.sweepStop.sweepNumber = c.sweepNumber := by
  unfold sweepStop
  split
  · split
    · rfl
    · simp
  · exact c.stop_sweepNumber

@[simp] theorem sweepOnce_sweepNumber : c.sweepOnce.sweepNumber = c.sweepNumber := by
  unfold sweepOnce
  split <;> rfl

@[simp] theorem sweepContinuous_sweepNumber (period : Nat) :
    (c.sweepContinuous period).sweepNumber = c.sweepNumber := by
  unfold sweepContinuous
  split <;> rfl

@[simp] theorem writeDivisor_sweepNumber (n : Nat) : (c.writeDivisor n).sweepNumber = c.sweepNumber := by
  unfold writeDivisor
  split <;> rfl

@[simp] theorem lineBusy_sweepNumber (n : Nat) : (c.lineBusy n).sweepNumber = c.sweepNumber := by
  unfold lineBusy
  split <;> rfl

theorem LineAlone.sweepNumber {c d : ChainState} (line : c.LineAlone d) : d.sweepNumber = c.sweepNumber := by
  rcases line with rfl | ⟨n, rfl⟩
  · rfl
  · simp

end ChainState

theorem State.sendDueFrame_cases (s : State) :
    s.sendDueFrame = s.chain ∨ ∃ frame mask e, s.sendDueFrame = s.chain.sendFrame frame mask e := by
  unfold State.sendDueFrame
  split
  case h_1 | h_2 | h_3 => exact .inr ⟨_, _, _, rfl⟩
  all_goals exact .inl rfl

theorem ChainWork.sweepNumber {c : Instr} {b : State} {x : ChainState} (work : ChainWork c b x) :
    x.sweepNumber = b.chain.sweepNumber := by
  cases work with
  | send =>
    rcases b.sendDueFrame_cases with stays | ⟨frame, mask, e, sent⟩
    · rw [stays]
    · rw [sent]
      rfl
  | bleedOff => simp [ChainState.bleedOffDone]
  | endAbort => simp
  | boundary | begin | await | quiet | retry | next => rfl

theorem SilentWork.sweepNumber {c : Instr} {b u : State} (work : SilentWork c b u) :
    u.chain.sweepNumber = b.chain.sweepNumber := by
  cases work with
  | chain work => exact work.sweepNumber
  | cooldown | grace | retry | level | releasePulse => rfl

theorem State.leaveConfigured_chain (s : State) (n : Nat) :
    (s.leaveConfigured n).st.chain = if s.config.configured then s.chain.stop else s.chain := by
  unfold State.leaveConfigured
  split <;> rfl

/-- The chain after a write: the records of a monitor count, the divisor, or nothing (R3, R15). -/
theorem State.storeItem_chain (s : State) (n : Nat) (v : ItemValue) :
    (s.storeItem n v).chain =
      if n = 1 then
        { s.chain with records := recordsAfterCount s.chain.records (s.config.store n v).monitorCount }
      else if n = 3 then s.chain.writeDivisor (s.config.store n v).chainDivisor
      else s.chain := by
  unfold State.storeItem State.itemEffect
  split
  · rfl
  · split
    · rfl
    · split
      · rfl
      · split <;> rfl

theorem State.storeItem_sweepNumber (s : State) (n : Nat) (v : ItemValue) :
    (s.storeItem n v).chain.sweepNumber = s.chain.sweepNumber := by
  rw [State.storeItem_chain]
  split
  · rfl
  · split
    · simp
    · rfl

theorem State.takeSweep_sweepNumber (s : State) : s.takeSweep.st.chain.sweepNumber = s.chain.sweepNumber + 1 := by
  unfold State.takeSweep
  dsimp only
  split <;> simp

/-- The sweep number advances at a sweep completion, and in no other event (R12). -/
theorem EventWork.sweepNumber {c : Instr} {b : State} {w : Publication} {x : Change} (work : EventWork c b w x) :
    x.st.chain.sweepNumber = if w = .sweep then b.chain.sweepNumber + 1 else b.chain.sweepNumber := by
  cases work with
  | sweep =>
    rw [State.completion_chain, State.takeSweep_sweepNumber, if_pos rfl]
    rfl
  | configWrite =>
    rw [if_neg (by unfold writePublication; split <;> exact fun h => nomatch h), Change.andThen_st, Change.quiet_st,
      State.storeItem_sweepNumber, State.leaveConfigured_chain]
    split <;> simp
  | configAccept => rfl
  | _ => simp

end Sys2Proof.Machine
end

section
/-! Publications through every step (Chapter 3): which events publish, and that a published limit rises at a sweep
alone. -/

namespace Sys2Proof.Machine

/-! ### What a publication reads -/

/-- A publication reads every block but the ports. -/
theorem Agrees.publish {s u : State} (agree : Agrees s u) (kind : PublicationKind) :
    (u.publish kind).envelope = (s.publish kind).envelope := by
  obtain ⟨chain, table, envelope, stack, slots, thermal, fire, conn, config⟩ := agree
  cases s
  cases u
  dsimp only at chain table envelope stack slots thermal fire conn config
  subst chain table envelope stack slots thermal fire conn config
  rfl

theorem Agrees.withEnvelope {s u : State} (agree : Agrees s u) (e : EnvelopeState) :
    Agrees { s with envelope := e } { u with envelope := e } :=
  { agree with envelope := rfl }

theorem Agrees.inputs {s u : State} (agree : Agrees s u) : u.inputs = s.inputs := by
  simp only [State.inputs, agree.stack, agree.fire, agree.conn, agree.thermal, agree.table, agree.config]

/-- No publication lifts a limit by more than its kind allows (R57). -/
theorem State.newLimit_le_ceiling (s : State) (d : Direction) (kind : PublicationKind) (previous : Nat) :
    s.newLimit d kind previous ≤ riseCeiling s.config kind previous := by
  unfold State.newLimit
  split
  · exact Nat.zero_le _
  · exact min_le_right _ _

/-! ### Which events publish -/

/-- The data-loss conditions change at a sweep, at the age timer's end, and at an acceptance. -/
theorem EventWork.dataLoss {c : Instr} {b : State} {w : Publication} {x : Change} (work : EventWork c b w x) :
    x.st.table.dataLoss = b.table.dataLoss ∨ w = .sweep ∨ c = .ageTimerExpiry ∨
      (b.config.configured = false ∧ x.st.config.configured = true) := by
  cases work with
  | sweep => exact .inr (.inl rfl)
  | ageTimer => exact .inr (.inr (.inl rfl))
  | configAccept unconfigured => exact .inr (.inr (.inr ⟨unconfigured, rfl⟩))
  | _ => exact .inl (by simp)

/-- Two events publish whether an input changes or not (R47, R68). -/
theorem EventWork.always {c : Instr} {b : State} {w : Publication} {x : Change} (work : EventWork c b w x)
    (always : w = .always) : (∃ p, c = .amendCurtail p) ∨ c = .ageTimerExpiry := by
  cases work with
  | amend => exact .inl ⟨_, rfl⟩
  | ageTimer => exact .inr rfl
  | configWrite =>
    unfold writePublication at always
    split at always <;> exact nomatch always
  | _ => exact nomatch always

/-- A sweep completion leaves the configuration. -/
theorem EventWork.sweep_config {c : Instr} {b : State} {w : Publication} {x : Change} (work : EventWork c b w x)
    (sweep : w = .sweep) : x.st.config = b.config := by
  cases work with
  | sweep => simp
  | configWrite =>
    unfold writePublication at sweep
    split at sweep <;> exact nomatch sweep
  | _ => exact nomatch sweep

theorem publicationKind_eq {b : State} {w : Publication} {x : Change} {kind : PublicationKind}
    (due : State.settledPublication b w x = some kind) : kind = if w = .sweep then .sweep else .change := by
  unfold State.settledPublication publicationDue at due
  cases w with
  | sweep => exact (Option.some.inj due).symm
  | always => exact (Option.some.inj due).symm
  | never => exact nomatch due
  | ifChanged =>
    dsimp only at due
    split at due
    · exact nomatch due
    · exact (Option.some.inj due).symm

/-- A write in UNCONFIGURED never publishes (log entry 20). -/
theorem EventWork.unconfiguredWrite {b : State} {w : Publication} {x : Change} {p : Port}
    (work : EventWork (.configWrite p) b w x) (unconfigured : b.config.configured = false) :
    State.settledPublication b w x = none := by
  cases work with
  | configWrite =>
    rw [unconfigured]
    rfl
  | sweep reply => exact reply.elim

/-! ### Every command -/

/-- The inputs of R45 but for data loss, between the states before and after a command. -/
def InputsChanged (s t : State) : Prop :=
  t.stack.entries ≠ (s.advance (t.clock - s.clock)).stack.entries ∨ t.fire.status ≠ s.fire.status ∨
  t.conn.acPermission ≠ s.conn.acPermission ∨ t.thermal.cooling ≠ s.thermal.cooling ∨
  t.fire.impaired ≠ s.fire.impaired ∨ t.config.configured ≠ s.config.configured

/-- The envelope after a command is that of a publication from the state that it leaves. -/
def PublishedFrom (s t : State) (kind : PublicationKind) : Prop :=
  t.envelope = (({ t with envelope := s.envelope } : State).publish kind).envelope

/-- What a command makes of the envelope and of the inputs of R45. -/
inductive EnvelopeMove (c : Instr) (s t : State) : Prop
  | still (envelope : t.envelope = s.envelope) (number : t.chain.sweepNumber = s.chain.sweepNumber)
      (inputs : ¬ InputsChanged s t)
  | sweep (published : PublishedFrom s t .sweep) (number : t.chain.sweepNumber = s.chain.sweepNumber + 1)
      (config : t.config = s.config)
  | change (published : PublishedFrom s t .change) (number : t.chain.sweepNumber = s.chain.sweepNumber)
      (due : InputsChanged s t ∨ (∃ p, c = .amendCurtail p) ∨ c = .ageTimerExpiry)
      (configured : ∀ p, c = .configWrite p → s.config.configured = true)
  | unchanged (envelope : t.envelope = s.envelope) (number : t.chain.sweepNumber = s.chain.sweepNumber)
      (write : ∃ p, c = .configWrite p) (unconfigured : s.config.configured = false)

theorem not_inputsChanged {s t : State} {dt : Nat} (clock : t.clock = s.clock + dt)
    (entries : t.stack.entries = (s.advance dt).stack.entries) (status : t.fire.status = s.fire.status)
    (permission : t.conn.acPermission = s.conn.acPermission) (cooling : t.thermal.cooling = s.thermal.cooling)
    (impaired : t.fire.impaired = s.fire.impaired) (configured : t.config.configured = s.config.configured) :
    ¬ InputsChanged s t := by
  simp [InputsChanged, clock, entries, status, permission, cooling, impaired, configured]

theorem SilentWork.inputs {c : Instr} {b u : State} (work : SilentWork c b u) : u.inputs = b.inputs := by
  cases work <;> rfl

theorem SilentWork.envelope {c : Instr} {b u : State} (work : SilentWork c b u) : u.envelope = b.envelope := by
  cases work <;> rfl

/-- States with the inputs of a later one have no input changed. -/
theorem not_inputsChanged_of_inputs {s t : State} {dt : Nat} {chain : ChainState} {ports : Ports PortState}
    (clock : t.clock = s.clock + dt) (inputs : t.inputs = (s.later dt chain ports).inputs) : ¬ InputsChanged s t :=
  not_inputsChanged clock (congrArg Inputs.entries inputs) (congrArg Inputs.status inputs)
    (congrArg Inputs.acPermission inputs) (congrArg Inputs.cooling inputs) (congrArg Inputs.impaired inputs)
    (congrArg Inputs.configured inputs)

theorem Moves.envelopeMove {c : Instr} {s t : State} (moves : Moves c s t) : EnvelopeMove c s t := by
  cases moves with
  | still agrees clock =>
    refine .still agrees.envelope (by rw [agrees.chain]) ?_
    refine not_inputsChanged (dt := 0) clock (by rw [agrees.stack, State.advance_zero]) ?_ ?_ ?_ ?_ ?_
    · rw [agrees.fire]
    · rw [agrees.conn]
    · rw [agrees.thermal]
    · rw [agrees.fire]
    · rw [agrees.config]
  | silent line work =>
    exact .still work.envelope (work.sweepNumber.trans line.sweepNumber)
      (not_inputsChanged_of_inputs work.clock work.inputs)
  | @event dt chain ports w x _ line work agrees clock =>
    have passed : t.clock = s.clock + dt := by
      rw [clock, State.settle_clock, work.clock]
      rfl
    have number : t.chain.sweepNumber = if w = .sweep then s.chain.sweepNumber + 1 else s.chain.sweepNumber := by
      have before : chain.sweepNumber = s.chain.sweepNumber := line.sweepNumber
      rw [agrees.chain, State.settle_chain, work.sweepNumber, ← before]
      rfl
    rcases work.published_cases with ⟨none, kept⟩ | ⟨kind, due, published⟩
    · have fewer : w ≠ .sweep := fun sweep => by
        rw [State.settledPublication, sweep] at none
        exact nomatch none
      rw [if_neg fewer] at number
      have envelope : t.envelope = s.envelope := agrees.envelope.trans kept
      rcases work.unpublished none with same | ⟨write, unconfigured, -⟩
      · exact .still envelope number (not_inputsChanged_of_inputs passed (agrees.inputs.trans same))
      · exact .unchanged envelope number write unconfigured
    · have configured : ∀ p, c = .configWrite p → s.config.configured = true := by
        rintro p rfl
        by_contra unconfigured
        rw [work.unconfiguredWrite (Bool.eq_false_iff.2 unconfigured)] at due
        exact nomatch due
      have from_ : PublishedFrom s t kind := by
        unfold PublishedFrom
        rw [(agrees.withEnvelope s.envelope).publish kind, agrees.envelope]
        exact published
      have which := publicationKind_eq due
      cases publication : w with
      | sweep =>
        rw [publication, if_pos rfl] at number which
        subst which publication
        refine .sweep from_ number ?_
        rw [agrees.config, State.settle_config]
        exact work.sweep_config rfl
      | never =>
        rw [publication] at due
        exact nomatch due
      | always =>
        rw [publication] at number which
        subst which
        exact .change from_ number (.inr (work.always publication)) configured
      | ifChanged =>
        rw [publication] at number which
        subst which
        refine .change from_ number ?_ configured
        have differ : t.inputs ≠ (s.later dt chain ports).inputs := by
          intro same
          rw [agrees.inputs, State.settle_inputs, publication] at same
          rw [State.settledPublication, publication, publicationDue, if_pos same.symm] at due
          exact nomatch due
        rcases work.dataLoss with same | sweep | age | ⟨unconfigured, accepted⟩
        · refine .inl ?_
          by_contra unchanged
          simp only [InputsChanged, not_or, not_not, passed, Nat.add_sub_cancel_left] at unchanged
          obtain ⟨entries, status, permission, cooling, impaired, configured⟩ := unchanged
          have dataLoss : t.table.dataLoss = s.table.dataLoss := by
            rw [agrees.table, State.settle_table, same]
            rfl
          refine differ ?_
          simp only [State.inputs, entries, status, permission, cooling, impaired, dataLoss, configured]
          rfl
        · simp [publication] at sweep
        · exact .inr (.inr age)
        · refine .inl (.inr (.inr (.inr (.inr (.inr ?_)))))
          rw [agrees.config, State.settle_config, accepted]
          exact fun same => Bool.false_ne_true (unconfigured.symm.trans same.symm)

/-! ### Every step -/

theorem riseCeiling_change {s t : State} (published : PublishedFrom s t .change) (d : Direction) :
    t.limit d ≤ s.limit d := by
  have le := State.newLimit_le_ceiling { t with envelope := s.envelope } d .change (s.limit d)
  cases d <;> rw [State.limit, published] <;> exact le

theorem riseCeiling_sweep {s t : State} (published : PublishedFrom s t .sweep) (d : Direction) :
    t.limit d ≤ s.limit d + t.config.riseStep := by
  have le := State.newLimit_le_ceiling { t with envelope := s.envelope } d .sweep (s.limit d)
  cases d <;> rw [State.limit, published] <;> exact le

theorem serial_succ_ne (n : Serial) : n + 1 ≠ n := by bv_omega

/-- The three forms that a step can leave the envelope in (R42, R44, R57). -/
theorem step_envelope {s t : State} (stepped : step s = .next t) :
    t.envelope = s.envelope ∨ t.envelope = State.reset.envelope ∨
      (PublishedFrom s t .change ∨
        (PublishedFrom s t .sweep ∧ t.config = s.config ∧ t.chain.sweepNumber = s.chain.sweepNumber + 1)) := by
  unfold Machine.step at stepped
  split at stepped
  case h_1 =>
    obtain rfl := Host.Outcome.next.inj stepped
    refine .inl ?_
    unfold State.idle State.running
    split <;> rfl
  case h_2 c rest _ =>
    by_cases reset : c = .powerOnReset
    · subst reset
      exact .inr (.inl (Host.Outcome.next.inj stepped ▸ rfl))
    by_cases ended : c = .powerOnResetEnd
    · subst ended
      exact .inr (.inl (Host.Outcome.next.inj stepped ▸ rfl))
    cases (exec_moves reset ended stepped).envelopeMove with
    | still envelope => exact .inl envelope
    | unchanged envelope => exact .inl envelope
    | change published => exact .inr (.inr (.inl published))
    | sweep published number config => exact .inr (.inr (.inr ⟨published, config, number⟩))

/-- Settles O51: every command is one of four moves of the envelope (`Moves.envelopeMove`). -/
theorem limitsRiseBySweepsAlone : Obligations.LimitsRiseBySweepsAlone := by
  unfold Obligations.LimitsRiseBySweepsAlone
  refine ⟨fun s t stepped => ?_, fun c s t notReset notEnd executed => ?_⟩
  · rcases step_envelope stepped with kept | reset | published | ⟨published, config, number⟩
    · exact .inl kept
    · exact .inr (.inl reset)
    · have kind : t.envelope.record.kind = .change := by rw [published]; rfl
      refine .inr (.inr ⟨by rw [published]; rfl, by rw [published]; rfl, fun _ => ?_, fun sweep => ?_⟩)
      · exact ⟨riseCeiling_change published .charge, riseCeiling_change published .discharge⟩
      · simp [kind] at sweep
    · have kind : t.envelope.record.kind = .sweep := by rw [published]; rfl
      refine .inr (.inr ⟨by rw [published]; rfl, by rw [published]; rfl, fun change => ?_, fun _ => ?_⟩)
      · simp [kind] at change
      · rw [← config]
        exact ⟨riseCeiling_sweep published .charge, riseCeiling_sweep published .discharge, number⟩
  · intro changed published
    cases (exec_moves notReset notEnd executed).envelopeMove with
    | still envelope number inputs =>
      exact ⟨fun differ => absurd number differ, fun _ => ⟨fun now => absurd now inputs, fun _ _ _ => envelope,
        fun _ _ _ => envelope, .inl envelope⟩⟩
    | sweep from_ number =>
      exact ⟨fun _ => from_, fun same => absurd (number.symm.trans same) (serial_succ_ne _)⟩
    | change from_ number due configured =>
      refine ⟨fun differ => absurd number differ, fun _ => ⟨fun _ _ => from_, fun unchanged notAmend notAge => ?_,
        fun p write unconfigured => ?_, .inr from_⟩⟩
      · rcases due with now | ⟨p, amend⟩ | age
        · exact absurd now unchanged
        · exact absurd amend (notAmend p)
        · exact absurd age notAge
      · exact absurd ((configured p write).symm.trans unconfigured) (fun h => nomatch h)
    | unchanged envelope number write unconfigured =>
      obtain ⟨p, write⟩ := write
      refine ⟨fun differ => absurd number differ, fun _ => ⟨fun _ configured => ?_, fun _ _ _ => envelope,
        fun _ _ _ => envelope, .inl envelope⟩⟩
      rcases configured with notWrite | configured
      · exact absurd write (notWrite p)
      · exact absurd (configured.symm.trans unconfigured) (fun h => nomatch h)

end Sys2Proof.Machine
end

section
/-! The bounds of the ports, and the chain controller's records, buffer, divisors and period timer, through every step
(Chapters 9 and 1). -/

namespace Sys2Proof.Machine

/-! ### The bounds of a port (Chapter 9) -/

namespace PortBounded

variable {q : PortState}

/-- A change of the receiver and of the port-reset detector alone. -/
theorem withReceiver (bounded : PortBounded q) (receiver : Receiver) (detector : LineDetector) :
    PortBounded { q with receiver := receiver, lineDetector := detector } :=
  ⟨bounded.requests, bounded.waiting, bounded.sending, bounded.events, bounded.cursor, bounded.attention,
    bounded.mask⟩

/-- A response is placed where fewer than eight wait (R167). -/
theorem place (bounded : PortBounded q) (room : q.waiting.length < 8) (frame : List Byte) :
    PortBounded (q.place frame) := by
  unfold PortState.place
  split
  case h_1 idle =>
    exact ⟨bounded.requests, bounded.waiting, fun _ => Option.some_ne_none _, bounded.events, bounded.cursor,
      bounded.attention, bounded.mask⟩
  case h_2 sent busy =>
    refine ⟨bounded.requests, ?_, fun _ => busy ▸ Option.some_ne_none sent, bounded.events, bounded.cursor,
      bounded.attention, bounded.mask⟩
    rw [List.length_append, List.length_singleton]
    exact room

theorem placeOrDiscard (bounded : PortBounded q) (frame : List Byte) : PortBounded (q.placeOrDiscard frame) := by
  unfold PortState.placeOrDiscard
  split
  case isTrue room => exact bounded.place room frame
  case isFalse => exact bounded

theorem failFrame (bounded : PortBounded q) : PortBounded q.failFrame :=
  (bounded.withReceiver .discarding q.lineDetector).placeOrDiscard frameErrorFrame

theorem accept (bounded : PortBounded q) (kind : Byte) (body : List Byte) : PortBounded (q.accept kind body) := by
  unfold PortState.accept
  split
  case isTrue room =>
    refine ⟨?_, bounded.waiting, bounded.sending, bounded.events, bounded.cursor, bounded.attention, bounded.mask⟩
    rw [List.length_append, List.length_singleton]
    exact room
  case isFalse => exact bounded.placeOrDiscard _

theorem complete (bounded : PortBounded q) (frame : List Byte) : PortBounded (q.complete frame) := by
  unfold PortState.complete
  split
  · exact (bounded.withReceiver .hunting q.lineDetector).accept _ _
  · exact bounded.failFrame

theorem extend (bounded : PortBounded q) (frame : List Byte) : PortBounded (q.extend frame) := by
  unfold PortState.extend
  dsimp only
  split
  · exact bounded.failFrame
  · split
    · exact bounded.withReceiver _ q.lineDetector
    · exact bounded.complete frame

theorem receive (bounded : PortBounded q) (c : RxChar) : PortBounded (q.receive c) := by
  unfold PortState.receive
  split
  · have marked : PortBounded { q with lineDetector := .mark } := bounded.withReceiver q.receiver .mark
    unfold PortState.receiveSound
    dsimp only
    split
    · exact marked
    · split
      · exact bounded.withReceiver _ _
      · exact marked
    · split
      · exact marked.failFrame
      · exact marked.extend _
  · exact bounded.withReceiver _ _

theorem receiveAll (bounded : PortBounded q) (chars : List RxChar) :
    PortBounded (chars.foldl PortState.receive q) := by
  induction chars generalizing q with
  | nil => exact bounded
  | cons c rest ih => exact ih (bounded.receive c)

theorem gap (bounded : PortBounded q) : PortBounded q.gap := by
  unfold PortState.gap
  split
  · split
    · exact bounded
    · exact bounded.failFrame
  all_goals exact bounded

theorem resumeHunt (bounded : PortBounded q) : PortBounded q.resumeHunt := by
  unfold PortState.resumeHunt
  split
  · exact bounded.withReceiver _ _
  · exact bounded
  · split
    · exact bounded.failFrame.withReceiver _ _
    · exact bounded

theorem lineToMark (bounded : PortBounded q) : PortBounded q.lineToMark := by
  have marked : PortBounded { q with lineDetector := .mark } := bounded.withReceiver q.receiver .mark
  unfold PortState.lineToMark
  dsimp only
  split
  · split
    · exact marked.failFrame
    · exact marked
  all_goals exact marked

theorem sent (bounded : PortBounded q) : PortBounded q.sent := by
  unfold PortState.sent
  split
  case h_1 none =>
    exact ⟨bounded.requests, bounded.waiting, fun some => absurd none some, bounded.events, bounded.cursor,
      bounded.attention, bounded.mask⟩
  case h_2 frame rest waiting =>
    have le : rest.length + 1 ≤ 8 := by simpa [waiting] using bounded.waiting
    exact ⟨bounded.requests, Nat.le_of_succ_le le, fun _ => Option.some_ne_none _, bounded.events, bounded.cursor,
      bounded.attention, bounded.mask⟩

theorem taken (bounded : PortBounded q) : PortBounded q.taken := by
  have le := bounded.requests
  refine ⟨?_, bounded.waiting, bounded.sending, bounded.events, bounded.cursor, bounded.attention, bounded.mask⟩
  rw [PortState.taken, List.length_tail]
  omega

theorem line {c : Instr} {p : Port} {q' : PortState} (work : LineWork c p q q') (bounded : PortBounded q) :
    PortBounded q' := by
  cases work with
  | receive => exact bounded.receiveAll _
  | gap => exact bounded.gap
  | resume => exact bounded.resumeHunt
  | sent => exact bounded.sent
  | toMark => exact bounded.lineToMark

theorem maskGiven_alarm (body : List Byte) : (maskGiven body).getLsbD 0 = true := by simp [maskGiven]

theorem edit {c : Instr} {p : Port} {q' : PortState} (edit : PortEdit c p q q') (bounded : PortBounded q) :
    PortBounded q' ∧ q'.waiting = q.waiting := by
  cases edit with
  | keep => exact ⟨bounded, rfl⟩
  | cursor valid =>
    rw [cursorValid, Bool.and_eq_true, decide_eq_true_iff, decide_eq_true_iff] at valid
    exact ⟨⟨bounded.requests, bounded.waiting, bounded.sending, bounded.events, valid, bounded.attention,
      bounded.mask⟩, rfl⟩
  | readOn lower =>
    refine ⟨⟨bounded.requests, bounded.waiting, bounded.sending, bounded.events, ⟨bounded.cursor.1, ?_⟩,
      bounded.attention, bounded.mask⟩, rfl⟩
    have inside := bounded.cursor.2
    unfold indexAfter reachesEnd returnedCount
    split
    · exact Nat.zero_lt_of_lt inside
    · rename_i more
      rw [decide_eq_true_iff, not_le] at more
      dsimp only
      omega
  | eventsRead =>
    have le := bounded.events
    refine ⟨⟨bounded.requests, bounded.waiting, bounded.sending, ?_, bounded.cursor, bounded.attention,
      bounded.mask⟩, rfl⟩
    rw [List.length_drop]
    omega
  | mask =>
    exact ⟨⟨bounded.requests, bounded.waiting, bounded.sending, bounded.events, bounded.cursor, bounded.attention,
      maskGiven_alarm _⟩, rfl⟩
  | clearOverflow =>
    exact ⟨⟨bounded.requests, bounded.waiting, bounded.sending, bounded.events, bounded.cursor, bounded.attention,
      bounded.mask⟩, rfl⟩
  | attention lower upper =>
    exact ⟨⟨bounded.requests, bounded.waiting, bounded.sending, bounded.events, bounded.cursor, ⟨lower, upper⟩,
      bounded.mask⟩, rfl⟩

theorem portReset (q : PortState) : PortBounded q.portReset :=
  ⟨Nat.zero_le _, Nat.zero_le _, fun some => absurd rfl some, Nat.zero_le _, ⟨Nat.zero_le 7, Nat.zero_lt_succ 2⟩,
    ⟨Nat.le_refl 1, by simp [PortState.portReset]⟩, by simp [PortState.portReset]⟩

theorem offer (bounded : PortBounded q) (r : EventRecord) : PortBounded (q.offer r) := by
  unfold PortState.offer
  split
  · exact bounded
  · split
    case isTrue room =>
      refine ⟨bounded.requests, bounded.waiting, bounded.sending, ?_, bounded.cursor, bounded.attention,
        bounded.mask⟩
      rw [List.length_append, List.length_singleton]
      exact room
    case isFalse =>
      exact ⟨bounded.requests, bounded.waiting, bounded.sending, bounded.events, bounded.cursor, bounded.attention,
        bounded.mask⟩

theorem deliver (bounded : PortBounded q) (p : Port) (uptime : BitVec 32) (n : Serial) (rs : List Raised) :
    PortBounded (q.deliver p uptime n rs) := by
  unfold PortState.deliver
  induction rs generalizing q with
  | nil => exact bounded
  | cons r rest ih =>
    rw [List.foldl_cons]
    refine ih ?_
    split
    · exact bounded.offer _
    · exact bounded

end PortBounded

/-! ### The ports through every command -/

/-- An event acts on no port, but for a port reset (R178). -/
theorem EventWork.ports {c : Instr} {b : State} {w : Publication} {x : Change} (work : EventWork c b w x) :
    x.st.ports = b.ports ∨
      ∃ p, c = .portReset p ∧ x.st.ports = b.ports.set p (b.ports.get p).portReset := by
  cases work with
  | @portReset p =>
    refine .inr ⟨p, rfl, ?_⟩
    unfold Change.quiet State.portReset
    dsimp only
    split <;> rfl
  | _ => exact .inl (by simp)

theorem SilentWork.ports {c : Instr} {b u : State} (work : SilentWork c b u) : u.ports = b.ports := by
  cases work <;> rfl

/-- The events of one event of the part: those that its work raised, and those that report a change. -/
def State.settledEvents (b : State) (w : Publication) (x : Change) : List Raised :=
  x.raised ++ differenceEvents b (State.settle b w x) ++
    publicationEvents (State.settledPublication b w x) b (State.settle b w x)

/-- The settling of an event delivers its events to every port. -/
theorem State.settle_port (b : State) (w : Publication) (x : Change) (p : Port) :
    (State.settle b w x).ports.get p =
      (x.st.ports.get p).deliver p (State.settle b w x).uptime (State.settle b w x).table.sweepNumber
        (orderRaised (State.settledEvents b w x)) := by
  have events : State.settledEvents b w x = x.raised ++
      differenceEvents b ((State.derived b x.st (decide (w = .sweep))).published (State.settledPublication b w x)) ++
      publicationEvents (State.settledPublication b w x) b
        ((State.derived b x.st (decide (w = .sweep))).published (State.settledPublication b w x)) := rfl
  rw [State.uptime, State.settle_clock, State.settle_table, events, State.settle_eq, State.deliver_ports,
    Ports.get_map]
  cases State.settledPublication b w x <;> rfl

theorem EventWork.portBounded {c : Instr} {b : State} {w : Publication} {x : Change} (work : EventWork c b w x)
    {p : Port} (bounded : PortBounded (b.ports.get p)) : PortBounded ((State.settle b w x).ports.get p) := by
  rw [State.settle_port]
  refine PortBounded.deliver ?_ p _ _ _
  rcases work.ports with same | ⟨o, -, reset⟩
  · rwa [same]
  · rw [reset, Ports.get_set]
    split
    · rename_i same
      subst same
      exact .portReset _
    · exact bounded

theorem EventWork.portWaiting {c : Instr} {b : State} {w : Publication} {x : Change} (work : EventWork c b w x)
    {p : Port} (none : (b.ports.get p).waiting = []) : ((State.settle b w x).ports.get p).waiting = [] := by
  rw [State.settle_port, PortState.deliver_waiting]
  rcases work.ports with same | ⟨o, -, reset⟩
  · rwa [same]
  · rw [reset, Ports.get_set]
    split
    · rfl
    · exact none

theorem Began.portBounded {s b : State} (began : Began s b) {p : Port} (bounded : PortBounded (s.ports.get p)) :
    PortBounded (b.ports.get p) := by
  cases began with
  | now | later | line | lineLater => exact bounded
  | taken o =>
    rw [State.setPort_ports, Ports.get_set]
    split
    · rename_i same
      subst same
      exact bounded.taken
    · exact bounded

/-- One port replaced by a bounded one. -/
theorem State.setPort_bounded {s : State} {o p : Port} {q : PortState} (bounded : PortBounded (s.ports.get p))
    (new : o = p → PortBounded q) : PortBounded ((s.setPort o q).ports.get p) := by
  rw [State.setPort_ports, Ports.get_set]
  split
  · exact new ‹_›
  · exact bounded

theorem Leaves.portBounded {c : Instr} {s t : State} (leaves : Leaves c s t) {p : Port}
    (bounded : PortBounded (s.ports.get p)) : PortBounded (t.ports.get p) := by
  cases leaves with
  | asIs => exact bounded
  | line work =>
    refine State.setPort_bounded bounded fun same => ?_
    subst same
    exact bounded.line work
  | answered n none edit =>
    refine State.setPort_bounded (s := { s with freeReads := n }) bounded fun same => ?_
    subst same
    obtain ⟨edited, waiting⟩ := bounded.taken.edit edit
    refine edited.place ?_ _
    rw [waiting]
    simp [PortState.taken, none]
  | silent began work =>
    rw [work.ports]
    exact began.portBounded bounded
  | event began work => exact work.portBounded (began.portBounded bounded)
  | requested none work =>
    rename_i o _ _ _ _ _
    have settled := work.portBounded ((Began.taken o).portBounded bounded)
    refine State.setPort_bounded settled fun same => ?_
    subst same
    refine settled.place ?_ _
    rw [work.portWaiting (p := o) (by simpa [PortState.taken] using none)]
    decide

theorem portBounded_reset (p : Port) : PortBounded (State.reset.ports.get p) := by
  cases p <;>
    exact ⟨Nat.zero_le _, Nat.zero_le _, fun some => absurd rfl some, Nat.zero_le _, by decide, by decide, by decide⟩

theorem step_portBounded {s t : State} (stepped : step s = .next t) {p : Port}
    (bounded : PortBounded (s.ports.get p)) : PortBounded (t.ports.get p) := by
  unfold Machine.step at stepped
  split at stepped
  case h_1 =>
    obtain rfl := Host.Outcome.next.inj stepped
    unfold State.idle State.running
    split <;> exact bounded
  case h_2 c rest _ =>
    by_cases reset : c = .powerOnReset
    · subst reset
      exact Host.Outcome.next.inj stepped ▸ portBounded_reset p
    by_cases ended : c = .powerOnResetEnd
    · subst ended
      exact Host.Outcome.next.inj stepped ▸ portBounded_reset p
    exact (exec_leaves reset ended stepped).portBounded bounded

/-! ### The chain controller (Chapter 1) -/

/-- What `ChainSound` says, of a chain and the divisor that the configuration holds. -/
structure ChainState.Sound (divisor : Nat) (c : ChainState) : Prop where
  count : c.records.length = 33
  buffer : c.buffer.length = 33
  records : ∀ r ∈ c.records, RecordSound r
  divisor : c.deferredDivisor.getD c.divisor = divisor
  busy : c.deferredDivisor ≠ none → c.activity ≠ .idle
  period : c.periodTimer.isRunning = true ↔ c.mode = .continuous
  due : c.mode = .stopped → c.due = false

theorem chainSound_iff (s : State) : ChainSound s ↔ s.chain.Sound s.config.chainDivisor :=
  ⟨fun h => ⟨h.count, h.buffer, h.records, h.divisor, h.busy, h.period, h.due⟩,
    fun h => ⟨h.count, h.buffer, h.records, h.divisor, h.busy, h.period, h.due⟩⟩

namespace ChainState.Sound

variable {c : ChainState} {n : Nat}

/-- A change of the line, of the exchange or of the buffer's entries. -/
theorem congr {d : ChainState} (sound : c.Sound n) (records : d.records = c.records)
    (buffer : d.buffer.length = c.buffer.length) (divisor : d.divisor = c.divisor)
    (deferred : d.deferredDivisor = c.deferredDivisor) (activity : d.activity = .idle → c.activity = .idle)
    (timer : d.periodTimer.isRunning = c.periodTimer.isRunning) (mode : d.mode = c.mode) (due : d.due = c.due) :
    d.Sound n where
  count := records ▸ sound.count
  buffer := buffer.trans sound.buffer
  records := records ▸ sound.records
  divisor := by rw [deferred, divisor]; exact sound.divisor
  busy some idle := sound.busy (deferred ▸ some) (activity idle)
  period := by rw [timer, mode]; exact sound.period
  due stopped := due.trans (sound.due (mode ▸ stopped))

theorem pass (sound : c.Sound n) (dt : Nat) :
    ChainState.Sound n { c with periodTimer := c.periodTimer.pass dt, linkTimer := c.linkTimer.pass dt } :=
  sound.congr rfl rfl rfl rfl id (Timer.pass_isRunning _ dt) rfl rfl

theorem lineBusy (sound : c.Sound n) (left : Nat) : (c.lineBusy left).Sound n := by
  unfold ChainState.lineBusy
  split <;> exact sound.congr rfl rfl rfl rfl id rfl rfl rfl

/-- The sending of a BLEED_OFF takes an IDLE chain to CLEARING, and with it no other field. -/
theorem serveBleedOff (sound : c.Sound n) : c.serveBleedOff.Sound n := by
  unfold ChainState.serveBleedOff
  split
  · exact sound.congr rfl rfl rfl rfl (fun idle => nomatch idle) rfl rfl rfl
  · exact sound

theorem becomeIdle (sound : c.Sound n) : c.becomeIdle.Sound n := by
  have applied : c.applyDivisor.divisor = n ∧ c.applyDivisor.deferredDivisor = none := by
    have divisor := sound.divisor
    unfold ChainState.applyDivisor
    cases deferred : c.deferredDivisor with
    | none => exact ⟨by simpa [deferred] using divisor, deferred⟩
    | some m => exact ⟨by simpa [deferred] using divisor, rfl⟩
  have records : c.becomeIdle.records = c.records := by simp
  have mode : c.becomeIdle.mode = c.mode := by simp
  exact
    { count := records ▸ sound.count
      buffer := by simpa using sound.buffer
      records := records ▸ sound.records
      divisor := by simp [ChainState.becomeIdle, applied]
      busy := fun some => absurd applied.2 some
      period := by simpa using sound.period
      due := by simpa using sound.due }

theorem endAbort (sound : c.Sound n) : c.endAbort.Sound n :=
  have cleared : ChainState.Sound n { c with buffer := List.replicate 33 none } :=
    sound.congr rfl (by rw [List.length_replicate, sound.buffer]) rfl rfl id rfl rfl rfl
  cleared.becomeIdle

theorem stopMode (sound : c.Sound n) : c.stopMode.Sound n := by
  unfold ChainState.stopMode
  split
  · exact sound
  · exact ⟨sound.count, sound.buffer, sound.records, sound.divisor, sound.busy,
      iff_of_false (fun h => nomatch h) (fun h => nomatch h), fun _ => rfl⟩

theorem abortSweep (sound : c.Sound n) : c.abortSweep.Sound n := by
  unfold ChainState.abortSweep
  split
  · split
    · exact sound.endAbort
    · exact sound.congr rfl rfl rfl rfl (fun idle => nomatch idle) rfl rfl rfl
  · exact sound

theorem stop (sound : c.Sound n) : c.stop.Sound n := sound.stopMode.abortSweep.serveBleedOff

theorem sweepStop (sound : c.Sound n) : c.sweepStop.Sound n := by
  have requested : ChainState.Sound n { c with bleedOffRequest := true } :=
    sound.congr rfl rfl rfl rfl id rfl rfl rfl
  unfold ChainState.sweepStop
  split
  · split
    · exact sound
    · exact requested.serveBleedOff
  · exact sound.stop

theorem sweepOnce (sound : c.Sound n) : c.sweepOnce.Sound n := by
  unfold ChainState.sweepOnce
  split
  case isTrue stopped =>
    have still : ¬ c.periodTimer.isRunning = true := fun running => by simp [sound.period.1 running] at stopped
    exact ⟨sound.count, sound.buffer, sound.records, sound.divisor, sound.busy,
      iff_of_false still (fun h => nomatch h), fun h => nomatch h⟩
  case isFalse => exact sound

/-- The period timer is started with the mode CONTINUOUS (R13). -/
theorem startPeriod (sound : c.Sound n) (period : Nat) (due : Bool) :
    ChainState.Sound n { c.startPeriod period with due := due } :=
  ⟨sound.count, sound.buffer, sound.records, sound.divisor, sound.busy, iff_of_true rfl rfl, fun h => nomatch h⟩

theorem sweepContinuous (sound : c.Sound n) (period : Nat) : (c.sweepContinuous period).Sound n := by
  unfold ChainState.sweepContinuous
  split
  · exact sound
  · exact sound.startPeriod period true
  · exact sound.startPeriod period c.due

theorem writeDivisor (sound : c.Sound n) (m : Nat) : (c.writeDivisor m).Sound m := by
  unfold ChainState.writeDivisor
  split
  · exact ⟨sound.count, sound.buffer, sound.records, rfl, fun some => absurd rfl some, sound.period, sound.due⟩
  case isFalse busy =>
    exact ⟨sound.count, sound.buffer, sound.records, rfl, fun _ => busy, sound.period, sound.due⟩

theorem withRecords (sound : c.Sound n) {records : List MonitorRecord} (count : records.length = 33)
    (each : ∀ r ∈ records, RecordSound r) : ChainState.Sound n { c with records := records } :=
  ⟨count, sound.buffer, each, sound.divisor, sound.busy, sound.period, sound.due⟩

theorem sendDueFrame {s : State} (sound : s.chain.Sound n) : s.sendDueFrame.Sound n := by
  rcases s.sendDueFrame_cases with stays | ⟨frame, mask, e, sent⟩
  · rwa [stays]
  · rw [sent]
    exact sound.congr rfl rfl rfl rfl id rfl rfl rfl

theorem chainWork {i : Instr} {b : State} {x : ChainState} (work : ChainWork i b x) (sound : b.chain.Sound n) :
    x.Sound n := by
  cases work with
  | boundary running =>
    have continuous := sound.period.1 running
    exact ⟨sound.count, sound.buffer, sound.records, sound.divisor, sound.busy, iff_of_true rfl continuous,
      fun stopped => by simp [ChainState.boundary, continuous] at stopped⟩
  | begin =>
    exact ⟨sound.count, List.length_replicate, sound.records, sound.divisor, fun _ idle => (nomatch idle), sound.period,
      fun _ => rfl⟩
  | send => exact sound.sendDueFrame
  | await => exact sound.congr rfl rfl rfl rfl id rfl rfl rfl
  | quiet => exact sound.congr rfl rfl rfl rfl id rfl rfl rfl
  | bleedOff =>
    have ended : ChainState.Sound n { b.chain with lineFree := true, linkTimer := .stopped, pendingMask := 0 } :=
      sound.congr rfl rfl rfl rfl id rfl rfl rfl
    exact ended.becomeIdle.serveBleedOff
  | retry => exact sound.congr rfl rfl rfl rfl id rfl rfl rfl
  | endAbort => exact sound.endAbort.serveBleedOff
  | next => exact sound.congr rfl List.length_set rfl rfl id rfl rfl rfl

end ChainState.Sound

/-! ### Monitor records (R14, R15) -/

theorem recordSound_unconfigured : RecordSound unconfiguredRecord :=
  ⟨fun _ => ⟨rfl, rfl, rfl⟩, fun h => (nomatch h), fun h => (nomatch h), fun h => nomatch h⟩

theorem recordSound_absent : RecordSound absentRecord :=
  ⟨fun h => (nomatch h), fun h => (nomatch h), fun h => (nomatch h), fun _ => by decide⟩

theorem recordSound_update {r : MonitorRecord} (sound : RecordSound r) (sweep : Serial) (entry : Option BufferEntry) :
    RecordSound (r.update sweep entry) := by
  unfold MonitorRecord.update
  split
  case h_1 =>
    exact ⟨fun h => (nomatch h), fun _ => ⟨rfl, rfl, Option.some_ne_none _⟩, fun h => (nomatch h), fun h => nomatch h⟩
  case h_2 e mask =>
    have state : (r.afterMiss e).state = if (r.afterMiss e).missCount ≤ 2 then .missing else .absent := rfl
    have missed : 1 ≤ (r.afterMiss e).missCount ∧ (r.afterMiss e).missCount ≤ 255 := by
      simp only [MonitorRecord.afterMiss]
      omega
    by_cases few : (r.afterMiss e).missCount ≤ 2
    · rw [if_pos few] at state
      exact ⟨fun h => (nomatch state.symm.trans h), fun h => (nomatch state.symm.trans h),
        fun _ => ⟨missed.1, few⟩, fun h => nomatch state.symm.trans h⟩
    · rw [if_neg few] at state
      exact ⟨fun h => (nomatch state.symm.trans h), fun h => (nomatch state.symm.trans h),
        fun h => (nomatch state.symm.trans h), fun _ => ⟨by omega, missed.2⟩⟩
  case h_3 => exact sound

theorem recordAt_sound {records : List MonitorRecord} (each : ∀ r ∈ records, RecordSound r) (a : Nat) :
    RecordSound (recordAt records a) := by
  unfold recordAt
  rw [List.getD_eq_getElem?_getD]
  cases found : records[a]? with
  | none => exact recordSound_unconfigured
  | some r => exact each r (List.mem_of_getElem? found)

/-- Thirty-three records, each sound. -/
theorem map_records_sound {f : Nat → MonitorRecord} (each : ∀ a, RecordSound (f a)) :
    ((List.range 33).map f).length = 33 ∧ ∀ r ∈ (List.range 33).map f, RecordSound r := by
  refine ⟨by simp, fun r mem => ?_⟩
  obtain ⟨a, -, rfl⟩ := List.mem_map.1 mem
  exact each a

theorem ChainState.Sound.updateRecords {c : ChainState} {n : Nat} (sound : c.Sound n) (count : Nat) (sweep : Serial)
    (buffer : List (Option BufferEntry)) :
    (Machine.updateRecords c.records count sweep buffer).length = 33 ∧
      ∀ r ∈ Machine.updateRecords c.records count sweep buffer, RecordSound r :=
  map_records_sound fun a => by
    split
    · exact recordSound_update (recordAt_sound sound.records a) _ _
    · exact recordAt_sound sound.records a

theorem ChainState.Sound.takeSweep {s : State} {n : Nat} (sound : s.chain.Sound n) :
    s.takeSweep.st.chain.Sound n := by
  have updated := sound.updateRecords s.config.monitorCount (s.chain.sweepNumber + 1) s.chain.buffer
  have numbered : ChainState.Sound n { s.chain with sweepNumber := s.chain.sweepNumber + 1 } :=
    sound.congr rfl rfl rfl rfl id rfl rfl rfl
  have idle := (numbered.withRecords updated.1 updated.2).becomeIdle
  unfold State.takeSweep
  dsimp only
  split
  · exact idle.stopMode.serveBleedOff
  · exact idle

/-! ### Every step -/

theorem ConfigSet.chainDivisor_store {c : ConfigSet} {n : Nat} (hn : 1 ≤ n) (ne : n ≠ 3) (v : ItemValue) :
    (c.store n v).chainDivisor = c.chainDivisor := by
  simp only [ConfigSet.chainDivisor, ConfigSet.nat, ConfigSet.int, c.value_store n 3 v hn (by decide) ne]

theorem ChainState.Sound.storeItem {s : State} (sound : s.chain.Sound s.config.chainDivisor) {n : Nat} (hn : 1 ≤ n)
    (v : ItemValue) : (s.storeItem n v).chain.Sound (s.storeItem n v).config.chainDivisor := by
  rw [State.storeItem_chain, State.storeItem_config]
  split
  case isTrue first =>
    rw [ConfigSet.chainDivisor_store hn (by omega)]
    have records := map_records_sound (f := fun a =>
      if a ≤ (s.config.store n v).monitorCount then recordAt s.chain.records a else unconfiguredRecord) fun a => by
        split
        · exact recordAt_sound sound.records a
        · exact recordSound_unconfigured
    exact sound.withRecords records.1 records.2
  case isFalse =>
    split
    case isTrue => exact sound.writeDivisor _
    case isFalse other =>
      rw [ConfigSet.chainDivisor_store hn other]
      exact sound

theorem ChainState.Sound.accept {s : State} {n : Nat} (sound : s.chain.Sound n) : s.accept.st.chain.Sound n := by
  have records := map_records_sound (f := fun a =>
    if a ≤ s.config.monitorCount then absentRecord else recordAt s.chain.records a) fun a => by
      split
      · exact recordSound_absent
      · exact recordAt_sound sound.records a
  exact (sound.withRecords records.1 records.2).startPeriod _ true

theorem EventWork.chainSound {c : Instr} {b : State} {w : Publication} {x : Change} (work : EventWork c b w x)
    (sound : b.chain.Sound b.config.chainDivisor) : x.st.chain.Sound x.st.config.chainDivisor := by
  cases work with
  | sweepOnce => exact sound.sweepOnce
  | sweepContinuous => exact sound.sweepContinuous _
  | sweepStop => exact sound.sweepStop
  | @configWrite p _ n _ v item =>
    rw [Change.andThen_st, Change.quiet_st]
    refine ChainState.Sound.storeItem ?_ (itemRange_bounds item).1 v
    rw [State.leaveConfigured_chain, State.leaveConfigured_config]
    split
    · exact sound.stop
    · exact sound
  | configAccept => exact sound.accept
  | @sweep _ _ e o =>
    have filled : (b.withChain (b.chain.fillEntry e o)).chain.Sound b.config.chainDivisor :=
      sound.congr rfl List.length_set rfl rfl id rfl rfl rfl
    rw [State.completion_chain]
    simpa using filled.takeSweep
  | _ => simpa using sound

theorem chainSound_kept : KeptByWork ChainSound where
  agrees agree sound := by
    rw [chainSound_iff] at sound ⊢
    rw [agree.chain, agree.config]
    exact sound
  reset := by
    have two : ∀ r ∈ State.reset.chain.records, r = absentRecord ∨ r = unconfiguredRecord := by decide +kernel
    refine (chainSound_iff _).2 ⟨by decide, by decide, fun r mem => ?_, by decide +kernel, by decide, by decide,
      by decide⟩
    rcases two r mem with rfl | rfl
    · exact recordSound_absent
    · exact recordSound_unconfigured
  advance dt sound := by
    rw [chainSound_iff] at sound ⊢
    exact sound.pass dt
  line n sound := by
    rw [chainSound_iff] at sound ⊢
    exact sound.lineBusy n
  silent work sound := by
    rw [chainSound_iff] at sound ⊢
    rw [work.config]
    cases work with
    | chain work => exact sound.chainWork work
    | cooldown | grace | retry | level | releasePulse => exact sound
  event work sound := by
    rw [chainSound_iff] at sound ⊢
    rw [State.settle_chain, State.settle_config]
    exact work.chainSound sound

/-- Settles O60: the bounds of each port by every form of command (`Leaves.portBounded`), the chain by every piece of
work. -/
theorem portsAndChainStaySound : Obligations.PortsAndChainStaySound := by
  unfold Obligations.PortsAndChainStaySound
  exact fun s t stepped => ⟨fun p => step_portBounded stepped, chainSound_kept.step stepped⟩

end Sys2Proof.Machine
end

section
/-! The curtailment stack and the watch slots through every step (Chapters 4 and 5): the search for a handle, and the
soundness of entries, claims and the permit record under every removal and push. -/

namespace Sys2Proof.Machine

/-! ### Handles (R64) -/

theorem handleAfter_range {h : Nat} (range : 1 ≤ h ∧ h ≤ 255) : 1 ≤ handleAfter h ∧ handleAfter h ≤ 255 := by
  unfold handleAfter
  split <;> omega

/-- The value so many handles upward, wrapping from 255 to 1. -/
theorem handleAfter_iterate {h : Nat} (range : 1 ≤ h ∧ h ≤ 255) (n : Nat) :
    handleAfter^[n] h = (h - 1 + n) % 255 + 1 := by
  induction n with
  | zero =>
    rw [Function.iterate_zero_apply]
    omega
  | succ n ih =>
    rw [Function.iterate_succ_apply', ih]
    unfold handleAfter
    split <;> omega

theorem handleLive_iff (es : List Entry) (h : Nat) : handleLive es h = true ↔ ∃ e ∈ es, e.handle = h := by
  simp [handleLive]

/-- The search passes over live handles alone, and ends at one that is free or at the end of its fuel. -/
theorem searchHandle_spec (es : List Entry) (fuel h : Nat) :
    ∃ n ≤ fuel, searchHandle es fuel h = handleAfter^[n] h ∧
      (∀ m < n, handleLive es (handleAfter^[m] h) = true) ∧
      (n < fuel → handleLive es (searchHandle es fuel h) = false) := by
  induction fuel generalizing h with
  | zero => exact ⟨0, le_refl _, rfl, fun m less => absurd less (Nat.not_lt_zero m), fun less => absurd less (by simp)⟩
  | succ fuel ih =>
    cases live : handleLive es h with
    | false =>
      have here : searchHandle es (fuel + 1) h = h := by rw [searchHandle, if_neg (by simp [live])]
      exact ⟨0, Nat.zero_le _, here, fun m less => absurd less (Nat.not_lt_zero m), fun _ => here.symm ▸ live⟩
    | true =>
      have there : searchHandle es (fuel + 1) h = searchHandle es fuel (handleAfter h) := by
        rw [searchHandle, if_pos live]
      obtain ⟨n, le, found, passed, free⟩ := ih (handleAfter h)
      refine ⟨n + 1, Nat.succ_le_succ le, there.trans found, fun m less => ?_, fun less => ?_⟩
      · cases m with
        | zero => exact live
        | succ m => exact passed m (Nat.lt_of_succ_lt_succ less)
      · rw [there]
        exact free (Nat.lt_of_succ_lt_succ less)

/-- Eight entries cannot carry nine handles that follow one another. -/
theorem live_run_short {es : List Entry} {h : Nat} (few : es.length ≤ 8) (range : 1 ≤ h ∧ h ≤ 255) {n : Nat}
    (live : ∀ m < n, handleLive es (handleAfter^[m] h) = true) : n ≤ 8 := by
  by_contra more
  have inside : (List.range 9).map (fun m => handleAfter^[m] h) ⊆ es.map Entry.handle := by
    intro x mem
    obtain ⟨m, less, rfl⟩ := List.mem_map.1 mem
    obtain ⟨e, there, same⟩ := (handleLive_iff es _).1 (live m (by have := List.mem_range.1 less; omega))
    exact List.mem_map.2 ⟨e, there, same⟩
  have distinct : ((List.range 9).map fun m => handleAfter^[m] h).Nodup := by
    refine List.Nodup.map_on (fun a ha b hb same => ?_) List.nodup_range
    rw [handleAfter_iterate range, handleAfter_iterate range] at same
    have la := List.mem_range.1 ha
    have lb := List.mem_range.1 hb
    omega
  have atMost := (distinct.subperm inside).length_le
  simp only [List.length_map, List.length_range] at atMost
  omega

/-- R64: the free handle is the first value from the next handle upward that no live entry carries. -/
theorem StackState.freeHandle_spec {st : StackState} (few : st.entries.length ≤ 8)
    (next : 1 ≤ st.nextHandle ∧ st.nextHandle ≤ 255) :
    ∃ n ≤ 8, st.freeHandle = (st.nextHandle - 1 + n) % 255 + 1 ∧
      (∀ m < n, ∃ e ∈ st.entries, e.handle = (st.nextHandle - 1 + m) % 255 + 1) ∧
      ∀ e ∈ st.entries, e.handle ≠ st.freeHandle := by
  obtain ⟨n, -, found, passed, free⟩ := searchHandle_spec st.entries 255 st.nextHandle
  have short := live_run_short few next passed
  refine ⟨n, short, found.trans (handleAfter_iterate next n), fun m less => ?_, fun e mem same => ?_⟩
  · rw [← handleAfter_iterate next m]
    exact (handleLive_iff _ _).1 (passed m less)
  · have dead := free (by omega)
    exact absurd ((handleLive_iff st.entries _).2 ⟨e, mem, same⟩) (Bool.eq_false_iff.1 dead)

/-- Settles O17, by the search's own description (`StackState.freeHandle_spec`). -/
theorem newHandleIsFirstFree : Obligations.NewHandleIsFirstFree := by
  intro st b few lower upper
  obtain ⟨n, short, found, passed, free⟩ := st.freeHandle_spec few ⟨lower, upper⟩
  refine ⟨⟨by omega, by omega, free⟩, ⟨n, by omega, found, passed⟩, rfl, ?_, fun g => rfl⟩
  rw [StackState.add_nextHandle, handleAfter]
  split <;> split <;> omega

/-! ### Slots: what a change of one slot leaves -/

theorem getD_set_none {α : Type} (xs : List (Option α)) (k j : Nat) (x : Option α) :
    (xs.set k x).getD j none = if k = j ∧ k < xs.length then x else xs.getD j none := by
  simp only [List.getD_eq_getElem?_getD, List.getElem?_set]
  by_cases same : k = j
  · subst same
    by_cases inside : k < xs.length <;> simp [inside]
  · simp [same]

theorem inside_of_claimed {slots : List (Option Claim)} {k : Nat} {c : Claim} (claimed : slots.getD k none = some c) :
    k < slots.length := by
  by_contra outside
  simp [List.getD_eq_getElem?_getD, List.getElem?_eq_none (Nat.le_of_not_lt outside)] at claimed

/-- A claimed slot written anew. -/
theorem getD_set_claimed {slots : List (Option Claim)} {k : Nat} {c : Claim} (claimed : slots.getD k none = some c)
    (j : Nat) (x : Option Claim) : (slots.set k x).getD j none = if k = j then x else slots.getD j none := by
  rw [getD_set_none]
  simp [inside_of_claimed claimed]

/-- The owner and the specification of a claimed slot. -/
def slotTerms (slots : List (Option Claim)) (k : Nat) : Option (Port × WatchSpec) :=
  (slots.getD k none).map fun c => (c.owner, c.spec)

theorem slotEntry_eq_bind (slots : List (Option Claim)) (k : Nat) :
    slotEntry slots k = (slots.getD k none).bind Claim.entry := by
  unfold slotEntry
  cases slots.getD k none <;> rfl

/-- Two slot tables that differ in the conditions, the starved flags and the entries of claimed slots. -/
structure SameTerms (slots slots' : List (Option Claim)) : Prop where
  length : slots'.length = slots.length
  terms : ∀ k, slotTerms slots' k = slotTerms slots k

theorem SameTerms.refl (slots : List (Option Claim)) : SameTerms slots slots := ⟨rfl, fun _ => rfl⟩

theorem SameTerms.trans {a b c : List (Option Claim)} (first : SameTerms a b) (second : SameTerms b c) :
    SameTerms a c := ⟨second.length.trans first.length, fun k => (second.terms k).trans (first.terms k)⟩

/-- A claimed slot with its condition, starved flag and entry written. -/
theorem SameTerms.set {slots : List (Option Claim)} {k : Nat} {c d : Claim} (claimed : slots.getD k none = some c)
    (owner : d.owner = c.owner) (spec : d.spec = c.spec) : SameTerms slots (slots.set k (some d)) := by
  refine ⟨List.length_set, fun j => ?_⟩
  unfold slotTerms
  rw [getD_set_claimed claimed]
  split
  · rename_i same
    subst same
    rw [claimed, Option.map_some, Option.map_some, owner, spec]
  · rfl

theorem slotEntry_set {slots : List (Option Claim)} {k : Nat} {c d : Claim} (claimed : slots.getD k none = some c)
    (j : Nat) : slotEntry (slots.set k (some d)) j = if k = j then d.entry else slotEntry slots j := by
  simp only [slotEntry_eq_bind, getD_set_claimed claimed]
  split <;> rfl

theorem clearSlot_terms (slots : List (Option Claim)) (k : Nat) : SameTerms slots (clearSlot slots k) := by
  unfold clearSlot
  split
  case h_1 c claimed => exact .set claimed rfl rfl
  case h_2 => exact .refl slots

theorem slotEntry_clearSlot (slots : List (Option Claim)) (k j : Nat) :
    slotEntry (clearSlot slots k) j = if k = j then none else slotEntry slots j := by
  unfold clearSlot
  split
  case h_1 c claimed => exact slotEntry_set claimed j
  case h_2 free =>
    split
    · rename_i same
      rw [slotEntry_eq_bind, ← same, free]
      rfl
    · rfl

theorem starveSlot_terms (slots : List (Option Claim)) (k : Nat) : SameTerms slots (starveSlot slots k) := by
  unfold starveSlot
  split
  case h_1 c claimed => exact .set claimed rfl rfl
  case h_2 => exact .refl slots

theorem slotEntry_starveSlot (slots : List (Option Claim)) (k j : Nat) :
    slotEntry (starveSlot slots k) j = if k = j then none else slotEntry slots j := by
  unfold starveSlot
  split
  case h_1 c claimed => exact slotEntry_set claimed j
  case h_2 free =>
    split
    · rename_i same
      rw [slotEntry_eq_bind, ← same, free]
      rfl
    · rfl

/-! ### Entries, claims, and the entries that slots hold -/

/-- R63 to R65 and section 4.1, of the live entries. -/
structure EntriesSound (es : List Entry) : Prop where
  distinct : (es.map Entry.handle).Nodup
  handles : ∀ e ∈ es, 1 ≤ e.handle ∧ e.handle ≤ 255
  capped : ∀ e ∈ es, e.chargeCap ≠ none ∨ e.dischargeCap ≠ none
  origins : ∀ e ∈ es,
    (e.origin = .direct ∧ ∃ p, e.owner = .port p) ∨
    (e.origin = .watch ∧ (∃ k, e.owner = .slot k) ∧ e.remaining = none) ∨
    (e.origin = .fallback ∧ e.owner = .port .util ∧ e.remaining = none)

/-- R78 and R81, of the claims. -/
structure ClaimsSound (slots : List (Option Claim)) : Prop where
  length : slots.length = 8
  specs : ∀ k p w, slotTerms slots k = some (p, w) → w.action = .curtail → w.chargeCap ≠ none ∨ w.dischargeCap ≠ none
  chains : ∀ k p w, slotTerms slots k = some (p, w) → w.chain = true → ∃ w', slotTerms slots (k + 1) = some (p, w')

/-- R89: the entry of a slot is the live entry that the slot owns. -/
def Linked (es : List Entry) (slots : List (Option Claim)) : Prop :=
  ∀ k h, slotEntry slots k = some h ↔ ∃ e ∈ es, e.handle = h ∧ e.owner = .slot k

/-- The stack with the watch slots. -/
structure StackState.Sound (slots : List (Option Claim)) (st : StackState) : Prop where
  depth : st.entries.length ≤ 8
  next : 1 ≤ st.nextHandle ∧ st.nextHandle ≤ 255
  entries : EntriesSound st.entries
  claims : ClaimsSound slots
  linked : Linked st.entries slots

/-- R74, R156: the permit record with the FALLBACK entry. -/
structure PermitSound (es : List Entry) (c : ConnectionControl) : Prop where
  fallback : ∀ h, c.fallbackHandle = some h ↔ ∃ e ∈ es, e.handle = h ∧ e.origin = .fallback
  lapsed : c.permit = .lapsed ↔ c.fallbackHandle ≠ none
  timed : c.permitTimer.due ≠ none → c.permit = .granted

theorem slotTerms_iff (slots : List (Option Claim)) (k : Nat) (p : Port) (w : WatchSpec) :
    slotTerms slots k = some (p, w) ↔ ∃ c, slots.getD k none = some c ∧ c.owner = p ∧ c.spec = w := by
  simp [slotTerms]

theorem slotEntry_iff (slots : List (Option Claim)) (k h : Nat) :
    slotEntry slots k = some h ↔ ∃ c, slots.getD k none = some c ∧ c.entry = some h := by
  rw [slotEntry_eq_bind, Option.bind_eq_some_iff]

theorem stackSound_iff (s : State) :
    StackSound s ↔ s.stack.Sound s.slots ∧ PermitSound s.stack.entries s.conn := by
  constructor
  · intro sound
    refine ⟨⟨sound.depth, sound.next, ⟨sound.distinct, sound.handles, sound.capped, sound.origins⟩,
      ⟨sound.slots, ?specs, ?chains⟩, ?linked⟩, ⟨sound.fallback, sound.lapsed, sound.timed⟩⟩
    case specs =>
      intro k p w terms
      obtain ⟨c, claimed, rfl, rfl⟩ := (slotTerms_iff _ _ _ _).1 terms
      exact sound.specs k c claimed
    case chains =>
      intro k p w terms chain
      obtain ⟨c, claimed, rfl, rfl⟩ := (slotTerms_iff _ _ _ _).1 terms
      obtain ⟨d, next, owner⟩ := sound.chains k c claimed chain
      exact ⟨d.spec, (slotTerms_iff _ _ _ _).2 ⟨d, next, owner, rfl⟩⟩
    case linked =>
      intro k h
      rw [slotEntry_iff]
      constructor
      · rintro ⟨c, claimed, entry⟩
        exact sound.held k c h claimed entry
      · rintro ⟨e, mem, rfl, owner⟩
        exact sound.owned e mem k owner
  · rintro ⟨sound, permit⟩
    exact
      { depth := sound.depth, next := sound.next, distinct := sound.entries.distinct
        handles := sound.entries.handles, capped := sound.entries.capped, origins := sound.entries.origins
        slots := sound.claims.length
        held := fun k c h claimed entry => (sound.linked k h).1 ((slotEntry_iff _ _ _).2 ⟨c, claimed, entry⟩)
        owned := fun e mem k owner => (slotEntry_iff _ _ _).1 ((sound.linked k e.handle).2 ⟨e, mem, rfl, owner⟩)
        specs := fun k c claimed =>
          sound.claims.specs k c.owner c.spec ((slotTerms_iff _ _ _ _).2 ⟨c, claimed, rfl, rfl⟩)
        chains := fun k c claimed chain => by
          obtain ⟨w', next⟩ :=
            sound.claims.chains k c.owner c.spec ((slotTerms_iff _ _ _ _).2 ⟨c, claimed, rfl, rfl⟩) chain
          obtain ⟨d, next, owner, -⟩ := (slotTerms_iff _ _ _ _).1 next
          exact ⟨d, next, owner⟩
        fallback := permit.fallback, lapsed := permit.lapsed, timed := permit.timed }

theorem ClaimsSound.congr {slots slots' : List (Option Claim)} (sound : ClaimsSound slots)
    (same : SameTerms slots slots') : ClaimsSound slots' :=
  ⟨same.length.trans sound.length, fun k p w => by rw [same.terms]; exact sound.specs k p w,
    fun k p w => by rw [same.terms, same.terms]; exact sound.chains k p w⟩

theorem EntriesSound.sublist {es l : List Entry} (sound : EntriesSound es) (sub : l.Sublist es) : EntriesSound l :=
  ⟨(sub.map _).nodup sound.distinct, fun e mem => sound.handles e (sub.subset mem),
    fun e mem => sound.capped e (sub.subset mem), fun e mem => sound.origins e (sub.subset mem)⟩

theorem EntriesSound.eq_of_handle {es : List Entry} (sound : EntriesSound es) {a b : Entry} (ha : a ∈ es) (hb : b ∈ es)
    (same : a.handle = b.handle) : a = b :=
  List.inj_on_of_nodup_map sound.distinct ha hb same

/-! ### Removals -/

theorem Linked.filter {es : List Entry} {slots slots' : List (Option Claim)} {keep : Entry → Bool}
    (linked : Linked es slots)
    (kept : ∀ e ∈ es, ∀ k, e.owner = .slot k → keep e = true → slotEntry slots' k = slotEntry slots k)
    (dropped : ∀ e ∈ es, ∀ k, e.owner = .slot k → keep e = false → slotEntry slots' k = none)
    (free : ∀ k, slotEntry slots k = none → slotEntry slots' k = none) : Linked (es.filter keep) slots' := by
  intro k h
  constructor
  · intro holds
    cases before : slotEntry slots k with
    | none => simp [free k before] at holds
    | some g =>
      obtain ⟨e, mem, handle, owner⟩ := (linked k g).1 before
      cases keeps : keep e with
      | false => simp [dropped e mem k owner keeps] at holds
      | true =>
        rw [kept e mem k owner keeps, before] at holds
        exact ⟨e, List.mem_filter.2 ⟨mem, keeps⟩, handle.trans (Option.some.inj holds), owner⟩
  · rintro ⟨e, mem, handle, owner⟩
    obtain ⟨mem, keeps⟩ := List.mem_filter.1 mem
    rw [kept e mem k owner keeps]
    exact (linked k h).2 ⟨e, mem, handle, owner⟩

namespace StackState.Sound

variable {slots slots' : List (Option Claim)} {st st' : StackState}

/-- Entries taken out, with the slots that held them following. -/
theorem filter (sound : st.Sound slots) {keep : Entry → Bool} (entries : st'.entries = st.entries.filter keep)
    (next : st'.nextHandle = st.nextHandle) (claims : ClaimsSound slots')
    (linked : Linked (st.entries.filter keep) slots') : st'.Sound slots' :=
  ⟨entries ▸ (List.length_filter_le _ _).trans sound.depth, next ▸ sound.next,
    entries ▸ sound.entries.sublist List.filter_sublist, claims, entries ▸ linked⟩

/-- Entries that no slot owns taken out. -/
theorem filter_ports (sound : st.Sound slots) {keep : Entry → Bool} (entries : st'.entries = st.entries.filter keep)
    (next : st'.nextHandle = st.nextHandle) (ports : ∀ e ∈ st.entries, keep e = false → ∀ k, e.owner ≠ .slot k) :
    st'.Sound slots :=
  sound.filter entries next sound.claims (sound.linked.filter (fun _ _ _ _ _ => rfl)
    (fun e mem k owner drops => absurd owner (ports e mem drops k)) fun _ => id)

/-- The entry of a handle taken out, which no slot owns. -/
theorem remove_port (sound : st.Sound slots) {e : Entry} (mem : e ∈ st.entries) (port : ∀ k, e.owner ≠ .slot k) :
    (st.remove e.handle).Sound slots := by
  refine sound.filter_ports rfl rfl fun x there drops k => ?_
  have same : x.handle = e.handle := by simpa using drops
  rw [sound.entries.eq_of_handle there mem same]
  exact port k

theorem dropEntry_entries (st : StackState) (handle : Option Nat) :
    (st.dropEntry handle).entries = st.entries.filter fun e => decide (handle ≠ some e.handle) := by
  cases handle with
  | none => exact (List.filter_eq_self.2 fun _ _ => by simp).symm
  | some h => exact List.filter_congr fun e _ => by simp [eq_comm]

/-- The entry of one slot taken out, and the slot left without one. -/
theorem dropEntry (sound : st.Sound slots) (k : Nat) (claims : ClaimsSound slots')
    (entries : ∀ j, slotEntry slots' j = if k = j then none else slotEntry slots j) :
    (st.dropEntry (slotEntry slots k)).Sound slots' := by
  refine sound.filter (dropEntry_entries st _) ?next claims (sound.linked.filter ?kept ?dropped ?free)
  case next => cases slotEntry slots k <;> rfl
  case kept =>
    intro e mem j owner keeps
    have held := (sound.linked j e.handle).2 ⟨e, mem, rfl, owner⟩
    have other : k ≠ j := by
      rintro rfl
      simp [held] at keeps
    rw [entries, if_neg other]
  case dropped =>
    intro e mem j owner drops
    have held : slotEntry slots k = some e.handle := by simpa using drops
    obtain ⟨x, there, handle, owned⟩ := (sound.linked k e.handle).1 held
    obtain rfl := sound.entries.eq_of_handle there mem handle
    obtain rfl : k = j := Owner.slot.inj (owned.symm.trans owner)
    rw [entries, if_pos rfl]
  case free =>
    intro j none
    rw [entries, none]
    split <;> rfl

/-- A change of each entry's caps and time left. -/
theorem map (sound : st.Sound slots) {f : Entry → Entry} (entries : st'.entries = st.entries.map f)
    (next : st'.nextHandle = st.nextHandle)
    (handle : ∀ e, (f e).handle = e.handle) (owner : ∀ e, (f e).owner = e.owner)
    (origin : ∀ e, (f e).origin = e.origin)
    (capped : ∀ e ∈ st.entries, (f e).chargeCap ≠ none ∨ (f e).dischargeCap ≠ none)
    (untimed : ∀ e ∈ st.entries, e.origin ≠ .direct → e.remaining = none → (f e).remaining = none) :
    st'.Sound slots := by
  have handles : (st.entries.map f).map Entry.handle = st.entries.map Entry.handle := by
    rw [List.map_map]
    exact List.map_congr_left fun e _ => handle e
  refine ⟨?_, next ▸ sound.next, ?_, sound.claims, ?_⟩
  · rw [entries, List.length_map]
    exact sound.depth
  · rw [entries]
    refine ⟨handles ▸ sound.entries.distinct, fun e mem => ?_, fun e mem => ?_, fun e mem => ?_⟩
    all_goals obtain ⟨x, there, rfl⟩ := List.mem_map.1 mem
    · exact handle x ▸ sound.entries.handles x there
    · exact capped x there
    · rw [origin, owner]
      rcases sound.entries.origins x there with direct | ⟨watch, slot, none⟩ | ⟨fallback, util, none⟩
      · exact .inl direct
      · exact .inr (.inl ⟨watch, slot, untimed x there (by simp [watch]) none⟩)
      · exact .inr (.inr ⟨fallback, util, untimed x there (by simp [fallback]) none⟩)
  · intro k h
    rw [sound.linked k h, entries]
    simp [handle, owner]

end StackState.Sound

theorem PermitSound.filter {es : List Entry} {c : ConnectionControl} (sound : PermitSound es c) {keep : Entry → Bool}
    (keeps : ∀ e ∈ es, e.origin = .fallback → keep e = true) : PermitSound (es.filter keep) c := by
  refine ⟨fun h => (sound.fallback h).trans ⟨?_, ?_⟩, sound.lapsed, sound.timed⟩
  · rintro ⟨e, mem, handle, origin⟩
    exact ⟨e, List.mem_filter.2 ⟨mem, keeps e mem origin⟩, handle, origin⟩
  · rintro ⟨e, mem, handle, origin⟩
    exact ⟨e, (List.mem_filter.1 mem).1, handle, origin⟩

theorem PermitSound.map {es : List Entry} {c : ConnectionControl} (sound : PermitSound es c) {f : Entry → Entry}
    (handle : ∀ e, (f e).handle = e.handle) (origin : ∀ e, (f e).origin = e.origin) : PermitSound (es.map f) c := by
  refine ⟨fun h => ?_, sound.lapsed, sound.timed⟩
  rw [sound.fallback h]
  simp [handle, origin]

/-- The permit record alone is read. -/
theorem PermitSound.congr {es : List Entry} {c d : ConnectionControl} (sound : PermitSound es c)
    (handle : d.fallbackHandle = c.fallbackHandle) (permit : d.permit = c.permit)
    (timer : d.permitTimer.due ≠ none → c.permitTimer.due ≠ none) : PermitSound es d :=
  ⟨fun h => by rw [handle]; exact sound.fallback h, by rw [handle, permit]; exact sound.lapsed,
    fun due => permit.trans (sound.timed (timer due))⟩

/-! ### Additions and pushes -/

/-- What a push brings fits the stack: a cap, and an owner that goes with the origin. -/
structure EntryBody.Sound (b : EntryBody) : Prop where
  capped : b.chargeCap ≠ none ∨ b.dischargeCap ≠ none
  origins : (b.origin = .direct ∧ ∃ p, b.owner = .port p) ∨
    (b.origin = .watch ∧ (∃ k, b.owner = .slot k) ∧ b.remaining = none) ∨
    (b.origin = .fallback ∧ b.owner = .port .util ∧ b.remaining = none)

theorem EntriesSound.append {es : List Entry} (sound : EntriesSound es) {e : Entry}
    (fresh : ∀ x ∈ es, x.handle ≠ e.handle) (handle : 1 ≤ e.handle ∧ e.handle ≤ 255)
    (capped : e.chargeCap ≠ none ∨ e.dischargeCap ≠ none)
    (origins : (e.origin = .direct ∧ ∃ p, e.owner = .port p) ∨
      (e.origin = .watch ∧ (∃ k, e.owner = .slot k) ∧ e.remaining = none) ∨
      (e.origin = .fallback ∧ e.owner = .port .util ∧ e.remaining = none)) : EntriesSound (es ++ [e]) := by
  refine ⟨?_, fun x mem => ?_, fun x mem => ?_, fun x mem => ?_⟩
  · rw [List.map_append, List.nodup_append]
    refine ⟨sound.distinct, List.nodup_singleton _, fun a ha b hb same => ?_⟩
    obtain ⟨x, there, rfl⟩ := List.mem_map.1 ha
    exact fresh x there (same.trans (List.mem_singleton.1 hb))
  all_goals rcases List.mem_append.1 mem with there | last
  · exact sound.handles x there
  · exact List.mem_singleton.1 last ▸ handle
  · exact sound.capped x there
  · exact List.mem_singleton.1 last ▸ capped
  · exact sound.origins x there
  · exact List.mem_singleton.1 last ▸ origins

namespace StackState.Sound

variable {slots slots' : List (Option Claim)} {st : StackState}

theorem freeHandle (sound : st.Sound slots) :
    (1 ≤ st.freeHandle ∧ st.freeHandle ≤ 255) ∧ ∀ e ∈ st.entries, e.handle ≠ st.freeHandle := by
  obtain ⟨n, -, value, -, free⟩ := st.freeHandle_spec sound.depth sound.next
  exact ⟨by omega, free⟩

/-- An entry added, with the slots that hold it following. -/
theorem add (sound : st.Sound slots) (room : st.entries.length < 8) {b : EntryBody} (body : b.Sound)
    (claims : ClaimsSound slots') (linked : Linked (st.add b).entries slots') : (st.add b).Sound slots' where
  depth := by
    rw [StackState.add_entries, List.length_append, List.length_singleton]
    exact room
  next := handleAfter_range sound.freeHandle.1
  entries := sound.entries.append sound.freeHandle.2 sound.freeHandle.1 body.capped body.origins
  claims := claims
  linked := linked

theorem add_port (sound : st.Sound slots) (room : st.entries.length < 8) {b : EntryBody} (body : b.Sound) {p : Port}
    (owner : b.owner = .port p) : (st.add b).Sound slots := by
  refine sound.add room body sound.claims fun k h => ?_
  rw [sound.linked k h]
  simp [EntryBody.withHandle, owner]

theorem add_slot (sound : st.Sound slots) (room : st.entries.length < 8) {b : EntryBody} (body : b.Sound) {k : Nat}
    (owner : b.owner = .slot k) (free : slotEntry slots k = none) (terms : SameTerms slots slots')
    (entries : ∀ j, slotEntry slots' j = if k = j then some st.freeHandle else slotEntry slots j) :
    (st.add b).Sound slots' := by
  refine sound.add room body (sound.claims.congr terms) fun j h => ?_
  rw [entries, StackState.add_entries]
  by_cases same : k = j
  · subst same
    rw [if_pos rfl]
    have none : ¬ ∃ e ∈ st.entries, e.handle = h ∧ e.owner = .slot k := by
      rw [← sound.linked k h, free]
      simp
    constructor
    · intro this
      exact ⟨b.withHandle st.freeHandle, by simp, Option.some.inj this, owner⟩
    · rintro ⟨e, mem, handle, owned⟩
      rcases List.mem_append.1 mem with there | last
      · exact absurd ⟨e, there, handle, owned⟩ none
      · rw [List.mem_singleton.1 last] at handle
        exact congrArg some handle
  · rw [if_neg same, sound.linked j h]
    simp [EntryBody.withHandle, owner, same]

end StackState.Sound

/-- The slots after a push, with the owner of a displaced entry starved (R91). -/
def slotsAfterPush (slots : List (Option Claim)) (displaced : Option Entry) : List (Option Claim) :=
  match displaced with
  | none => slots
  | some e => displacedSlots slots e

@[simp] theorem State.afterPush_slots (s : State) (st : StackState) (h : Nat) (d : Option Entry) :
    (s.afterPush st h d).st.slots = slotsAfterPush s.slots d := by cases d <;> rfl

/-- The stack to which a taken push adds its entry: the one before it, or that without the displaced entry. -/
structure PushBase (slots : List (Option Claim)) (st : StackState) (displaced : Option Entry) (base : StackState) :
    Prop where
  room : base.entries.length < 8
  sound : base.Sound (slotsAfterPush slots displaced)
  kept : ∃ keep : Entry → Bool, base.entries = st.entries.filter keep ∧
    ∀ e ∈ st.entries, e.origin = .fallback → keep e = true
  terms : SameTerms slots (slotsAfterPush slots displaced)
  free : ∀ k, slotEntry slots k = none → slotEntry (slotsAfterPush slots displaced) k = none

theorem StackState.Sound.displace {slots : List (Option Claim)} {st : StackState} (sound : st.Sound slots) {e : Entry}
    (found : displaceable slots st.entries = some e) : PushBase slots st (some e) (st.remove e.handle) := by
  obtain ⟨below, above, split, notUtility, -⟩ := displaceable_split slots st.entries e found
  have mem : e ∈ st.entries := by simp [split]
  have fewer : (st.remove e.handle).entries.length < 8 := by
    have depth := sound.depth
    rw [StackState.remove_of_split st below above e sound.entries.distinct split, List.length_append]
    rw [split, List.length_append, List.length_cons] at depth
    omega
  have kept : ∃ keep : Entry → Bool, (st.remove e.handle).entries = st.entries.filter keep ∧
      ∀ x ∈ st.entries, x.origin = .fallback → keep x = true := by
    refine ⟨_, rfl, fun x there origin => decide_eq_true fun same => ?_⟩
    rw [sound.entries.eq_of_handle there mem same] at origin
    rcases sound.entries.origins e mem with ⟨direct, -⟩ | ⟨watch, -⟩ | ⟨-, util, -⟩
    · simp [direct] at origin
    · simp [watch] at origin
    · simp [utilityOwned, util, ownerPort] at notUtility
  cases owner : e.owner with
  | port p =>
    have same : slotsAfterPush slots (some e) = slots := by simp [slotsAfterPush, displacedSlots, owner]
    exact ⟨fewer, by rw [same]; exact sound.remove_port mem (by simp [owner]), kept, by rw [same]; exact .refl _,
      by rw [same]; exact fun _ => id⟩
  | slot k =>
    have same : slotsAfterPush slots (some e) = starveSlot slots k := by simp [slotsAfterPush, displacedSlots, owner]
    have held : slotEntry slots k = some e.handle := (sound.linked k e.handle).2 ⟨e, mem, rfl, owner⟩
    have dropped : (st.remove e.handle).Sound (starveSlot slots k) := by
      have := sound.dropEntry k (sound.claims.congr (starveSlot_terms slots k)) (slotEntry_starveSlot slots k)
      rwa [held] at this
    refine ⟨fewer, by rwa [same], kept, by rw [same]; exact starveSlot_terms slots k, fun j none => ?_⟩
    rw [same, slotEntry_starveSlot, none]
    split <;> rfl

theorem StackState.Sound.pushed {slots : List (Option Claim)} {st st' : StackState} {p : Port} {b : EntryBody} {h : Nat}
    {d : Option Entry} (sound : st.Sound slots) (pushed : st.push slots p b = .pushed st' h d) :
    ∃ base, PushBase slots st d base ∧ st' = base.add b ∧ h = base.freeHandle := by
  rcases st.push_cases slots p b with ⟨room, result⟩ | ⟨-, -, e, found, result⟩ | ⟨-, -, result⟩
  · rw [result] at pushed
    obtain ⟨rfl, rfl, rfl⟩ := PushResult.pushed.inj pushed
    exact ⟨st, ⟨room, sound, ⟨fun _ => true, by simp, fun _ _ _ => rfl⟩, .refl _, fun _ => id⟩, rfl, rfl⟩
  · rw [result] at pushed
    obtain ⟨rfl, rfl, rfl⟩ := PushResult.pushed.inj pushed
    exact ⟨_, sound.displace found, rfl, rfl⟩
  · rw [result] at pushed
    exact nomatch pushed

theorem PermitSound.append {es : List Entry} {c : ConnectionControl} (sound : PermitSound es c) {e : Entry}
    (other : e.origin ≠ .fallback) : PermitSound (es ++ [e]) c := by
  refine ⟨fun h => ?_, sound.lapsed, sound.timed⟩
  rw [sound.fallback h]
  simp [other]

/-- A push keeps the permit record sound, unless it is the FALLBACK entry that is pushed. -/
theorem PushBase.permit {slots : List (Option Claim)} {st base : StackState} {d : Option Entry} {b : EntryBody}
    {c : ConnectionControl} (base_ : PushBase slots st d base) (sound : PermitSound st.entries c)
    (other : b.origin ≠ .fallback) : PermitSound (base.add b).entries c := by
  obtain ⟨keep, entries, keeps⟩ := base_.kept
  rw [StackState.add_entries, entries]
  exact (sound.filter keeps).append other

/-! ### The operations on claims (R79 to R83) -/

theorem clampCap_ne_none {cap : Option Nat} (some_ : cap ≠ none) (rated : Nat) : clampCap rated cap ≠ none := by
  cases cap with
  | none => exact absurd rfl some_
  | some c => exact Option.some_ne_none _

theorem WatchSpec.held_chain (w : WatchSpec) : w.held.chain = w.chain := by
  unfold WatchSpec.held
  split <;> rfl

theorem WatchSpec.held_capped {w : WatchSpec} {k : Nat} (valid : w.valid k = true)
    (curtail : w.held.action = .curtail) : w.held.chargeCap ≠ none ∨ w.held.dischargeCap ≠ none := by
  have action : w.action = .curtail := by
    unfold WatchSpec.held at curtail
    split at curtail <;> exact curtail
  rw [WatchSpec.held, if_pos action]
  simp only [WatchSpec.valid, Bool.and_eq_true, Bool.or_eq_true, Option.isSome_iff_ne_none] at valid
  obtain ⟨⟨-, other | ⟨⟨capped, -⟩, -⟩⟩, -⟩ := valid
  · exact absurd action (of_decide_eq_true other)
  · exact capped

theorem claimedBy_iff (slots : List (Option Claim)) (p : Port) (k : Nat) :
    claimedBy slots p k = true ↔ ∃ w, slotTerms slots k = some (p, w) := by
  unfold claimedBy slotTerms
  cases slots.getD k none <;> simp

theorem claimedByOther_iff (slots : List (Option Claim)) (p : Port) (k : Nat) :
    claimedByOther slots p k = true ↔ ∃ o w, slotTerms slots k = some (o, w) ∧ o ≠ p := by
  unfold claimedByOther slotTerms
  cases slots.getD k none <;> simp

/-- A slot's claim replaced. -/
theorem slotTerms_set {slots : List (Option Claim)} {k : Nat} (inside : k < slots.length) (x : Option Claim) (j : Nat) :
    slotTerms (slots.set k x) j = if k = j then x.map (fun c => (c.owner, c.spec)) else slotTerms slots j := by
  unfold slotTerms
  rw [getD_set_none]
  by_cases same : k = j
  · simp [same, same ▸ inside]
  · simp [same]

theorem slotEntry_set_none {slots : List (Option Claim)} {k : Nat} (inside : k < slots.length) {x : Option Claim}
    (empty : x.bind Claim.entry = none) (j : Nat) :
    slotEntry (slots.set k x) j = if k = j then none else slotEntry slots j := by
  simp only [slotEntry_eq_bind, getD_set_none, inside, and_true]
  split
  · exact empty
  · rfl

theorem ClaimsSound.claim {slots : List (Option Claim)} (sound : ClaimsSound slots) {p : Port} {k : Nat} {w : WatchSpec}
    (slot : k ≤ 7) (free : claimedByOther slots p k = false) (valid : w.valid k = true)
    (chain : w.chain = true → claimedBy slots p (k + 1) = true) :
    ClaimsSound (slots.set k (some ⟨p, w.held, false, false, none⟩)) := by
  have inside : k < slots.length := by rw [sound.length]; omega
  refine ⟨List.length_set.trans sound.length, fun j o v terms curtail => ?_, fun j o v terms chained => ?_⟩
  all_goals rw [slotTerms_set inside] at terms
  all_goals by_cases same : k = j
  · rw [if_pos same] at terms
    obtain ⟨rfl, rfl⟩ := Prod.mk.inj (Option.some.inj terms)
    exact WatchSpec.held_capped valid curtail
  · rw [if_neg same] at terms
    exact sound.specs j o v terms curtail
  · rw [if_pos same] at terms
    obtain ⟨rfl, rfl⟩ := Prod.mk.inj (Option.some.inj terms)
    rw [WatchSpec.held_chain] at chained
    rw [slotTerms_set inside, if_neg (by omega), ← same]
    exact (claimedBy_iff _ _ _).1 (chain chained)
  · rw [if_neg same] at terms
    obtain ⟨v', next⟩ := sound.chains j o v terms chained
    rw [slotTerms_set inside]
    by_cases here : k = j + 1
    · rw [if_pos here]
      rw [← here] at next
      have owner : o = p := by
        by_contra other
        exact Bool.eq_false_iff.1 free ((claimedByOther_iff _ _ _).2 ⟨o, v', next, other⟩)
      exact ⟨w.held, by rw [owner]; rfl⟩
    · rw [if_neg here]
      exact ⟨v', next⟩

theorem chainedFromAbove_iff (slots : List (Option Claim)) (k : Nat) :
    chainedFromAbove slots k = true ↔ ∃ j p w, k = j + 1 ∧ slotTerms slots j = some (p, w) ∧ w.chain = true := by
  cases k with
  | zero => simp [chainedFromAbove]
  | succ j =>
    unfold chainedFromAbove
    dsimp only
    constructor
    · intro chain
      cases claimed : slots.getD j none with
      | none => simp only [claimed, Bool.false_eq_true] at chain
      | some c =>
        rw [claimed] at chain
        exact ⟨j, c.owner, c.spec, rfl, (slotTerms_iff _ _ _ _).2 ⟨c, claimed, rfl, rfl⟩, chain⟩
    · rintro ⟨i, p, w, next, terms, chain⟩
      obtain rfl := Nat.succ.inj next
      obtain ⟨c, claimed, -, rfl⟩ := (slotTerms_iff _ _ _ _).1 terms
      rw [claimed]
      exact chain

theorem ClaimsSound.release {slots : List (Option Claim)} (sound : ClaimsSound slots) {k : Nat} (slot : k ≤ 7)
    (unchained : chainedFromAbove slots k = false) : ClaimsSound (slots.set k none) := by
  have inside : k < slots.length := by rw [sound.length]; omega
  refine ⟨List.length_set.trans sound.length, fun j o v terms curtail => ?_, fun j o v terms chained => ?_⟩
  all_goals rw [slotTerms_set inside] at terms
  all_goals by_cases same : k = j
  · simp [same] at terms
  · rw [if_neg same] at terms
    exact sound.specs j o v terms curtail
  · simp [same] at terms
  · rw [if_neg same] at terms
    rw [slotTerms_set inside, if_neg ?_]
    · exact sound.chains j o v terms chained
    · rintro rfl
      exact Bool.eq_false_iff.1 unchained ((chainedFromAbove_iff _ _).2 ⟨j, o, v, rfl, terms, chained⟩)

end Sys2Proof.Machine
end

section
/-! The curtailment stack, the watch slots and the permit record through every event (Chapters 4, 5 and 8): port
resets, evaluations, lapses, and the statement that every step keeps them sound. -/

namespace Sys2Proof.Machine

/-! ### Entries by origin -/

theorem EntriesSound.owner_of_fallback {es : List Entry} (sound : EntriesSound es) {e : Entry} (mem : e ∈ es)
    (origin : e.origin = .fallback) : e.owner = .port .util := by
  rcases sound.origins e mem with ⟨direct, -⟩ | ⟨watch, -⟩ | ⟨-, util, -⟩
  · simp [direct] at origin
  · simp [watch] at origin
  · exact util

/-- The entry that a slot holds is the slot's own. -/
theorem StackState.Sound.owner_of_held {slots : List (Option Claim)} {st : StackState} (sound : st.Sound slots)
    {k : Nat} {e : Entry} (mem : e ∈ st.entries) (held : slotEntry slots k = some e.handle) : e.owner = .slot k := by
  obtain ⟨x, there, handle, owner⟩ := (sound.linked k e.handle).1 held
  exact sound.entries.eq_of_handle there mem handle ▸ owner

/-- No slot holds the FALLBACK entry. -/
theorem StackState.Sound.fallback_unheld {slots : List (Option Claim)} {st : StackState} (sound : st.Sound slots)
    {e : Entry} (mem : e ∈ st.entries) (origin : e.origin = .fallback) (k : Nat) :
    slotEntry slots k ≠ some e.handle := fun held => by
  have util := sound.entries.owner_of_fallback mem origin
  rw [sound.owner_of_held mem held] at util
  exact nomatch util

/-- The stack with the slots, and the permit record with the stack: what `StackSound` says. -/
structure State.Stacked (s : State) : Prop where
  stack : s.stack.Sound s.slots
  permit : PermitSound s.stack.entries s.conn

/-- Work that leaves the stack, the slots and the permit record. -/
theorem State.Stacked.of_sides {s t : State} (stacked : s.Stacked) (stack : t.stack = s.stack)
    (slots : t.slots = s.slots) (kept : SidesKept s.conn t.conn) : t.Stacked := by
  refine ⟨by rw [stack, slots]; exact stacked.stack, ?_⟩
  rw [stack]
  exact stacked.permit.congr kept.fallbackHandle kept.permit fun due => by rwa [kept.permitTimer] at due

/-! ### The operations on claims (R79 to R83) -/

/-- The entry of a slot taken out, and the slot left without one. -/
theorem State.Stacked.dropEntry {s : State} (stacked : s.Stacked) (k : Nat) {slots : List (Option Claim)}
    (claims : ClaimsSound slots) (entries : ∀ j, slotEntry slots j = if k = j then none else slotEntry s.slots j) :
    State.Stacked { s with stack := s.stack.dropEntry (slotEntry s.slots k), slots := slots } := by
  refine ⟨stacked.stack.dropEntry k claims entries, ?_⟩
  have permit := stacked.permit.filter (keep := fun e => decide (slotEntry s.slots k ≠ some e.handle))
    fun e mem origin => decide_eq_true (stacked.stack.fallback_unheld mem origin k)
  rwa [← StackState.Sound.dropEntry_entries] at permit

theorem State.Stacked.rechained {s : State} (stacked : s.Stacked) (k : Nat) : (s.rechained k).Stacked :=
  stacked.dropEntry k (stacked.stack.claims.congr (clearSlot_terms s.slots k)) (slotEntry_clearSlot s.slots k)

theorem State.Stacked.takeClaim {s : State} (stacked : s.Stacked) {p : Port} {k : Nat} {w : WatchSpec} (slot : k ≤ 7)
    (free : claimedByOther s.slots p k = false) (valid : w.valid k = true)
    (chain : w.chain = true → claimedBy s.slots p (k + 1) = true) : (s.takeClaim p k w).Stacked := by
  have inside : k < s.slots.length := by rw [stacked.stack.claims.length]; omega
  have written := stacked.dropEntry k (stacked.stack.claims.claim slot free valid chain)
    (slotEntry_set_none inside rfl)
  unfold State.takeClaim
  dsimp only
  split
  · exact written.rechained (k + 1)
  · exact written

theorem State.Stacked.takeRelease {s : State} (stacked : s.Stacked) {k : Nat} (slot : k ≤ 7)
    (unchained : chainedFromAbove s.slots k = false) : (s.takeRelease k).Stacked := by
  have inside : k < s.slots.length := by rw [stacked.stack.claims.length]; omega
  have freed := stacked.dropEntry k (stacked.stack.claims.release slot unchained) (slotEntry_set_none inside rfl)
  unfold State.takeRelease
  dsimp only
  split
  · exact freed.rechained (k + 1)
  · exact freed

/-- A claim of a port that is reset goes (R83). -/
def releasedClaim (p : Port) (o : Option Claim) : Option Claim :=
  match o with
  | some c => if c.owner = p then none else some c
  | none => none

theorem getD_map_none {α β : Type} (xs : List (Option α)) {f : Option α → Option β} (empty : f none = none) (k : Nat) :
    (xs.map f).getD k none = f (xs.getD k none) := by
  simp only [List.getD_eq_getElem?_getD, List.getElem?_map]
  cases xs[k]? <;> simp [empty]

theorem releasePort_slot (s : State) (p : Port) (k : Nat) :
    (s.releasePort p).slots.getD k none = releasedClaim p (s.slots.getD k none) := getD_map_none s.slots rfl k

theorem slotTerms_releasePort (s : State) (p : Port) (k : Nat) (o : Port) (w : WatchSpec) :
    slotTerms (s.releasePort p).slots k = some (o, w) ↔ slotTerms s.slots k = some (o, w) ∧ o ≠ p := by
  unfold slotTerms
  rw [releasePort_slot]
  cases s.slots.getD k none with
  | none => simp [releasedClaim]
  | some c =>
    by_cases mine : c.owner = p
    · simp only [releasedClaim, if_pos mine, Option.map_none, Option.map_some, Option.some.injEq, Prod.mk.injEq]
      exact iff_of_false (fun h => nomatch h) fun ⟨⟨owner, _⟩, other⟩ => other (owner.symm.trans mine)
    · simp only [releasedClaim, if_neg mine, Option.map_some, Option.some.injEq, Prod.mk.injEq]
      exact ⟨fun same => ⟨same, (same.1 ▸ mine)⟩, fun same => same.1⟩

theorem slotEntry_releasePort (s : State) (p : Port) (k : Nat) :
    slotEntry (s.releasePort p).slots k = if claimedBy s.slots p k then none else slotEntry s.slots k := by
  rw [slotEntry_eq_bind, slotEntry_eq_bind, releasePort_slot, claimedBy]
  cases s.slots.getD k none with
  | none => rfl
  | some c => by_cases mine : c.owner = p <;> simp [releasedClaim, mine]

theorem State.Stacked.releasePort {s : State} (stacked : s.Stacked) (p : Port) : (s.releasePort p).Stacked := by
  have claims : ClaimsSound (s.releasePort p).slots := by
    refine ⟨(List.length_map _).trans stacked.stack.claims.length, fun k o w terms curtail => ?_,
      fun k o w terms chain => ?_⟩
    · exact stacked.stack.claims.specs k o w ((slotTerms_releasePort s p k o w).1 terms).1 curtail
    · obtain ⟨before, other⟩ := (slotTerms_releasePort s p k o w).1 terms
      obtain ⟨w', next⟩ := stacked.stack.claims.chains k o w before chain
      exact ⟨w', (slotTerms_releasePort s p (k + 1) o w').2 ⟨next, other⟩⟩
  refine ⟨stacked.stack.filter rfl rfl claims (stacked.stack.linked.filter ?kept ?dropped ?free),
    stacked.permit.filter fun e mem origin => ?fallback⟩
  case kept =>
    intro e mem k owner keeps
    simp only [owner, Bool.not_eq_true'] at keeps
    rw [slotEntry_releasePort, keeps]
    rfl
  case dropped =>
    intro e mem k owner drops
    simp only [owner, Bool.not_eq_false'] at drops
    rw [slotEntry_releasePort, drops]
    rfl
  case free =>
    intro k none
    rw [slotEntry_releasePort, none]
    split <;> rfl
  case fallback => simp only [stacked.stack.entries.owner_of_fallback mem origin]

/-! ### Pushes -/

/-- A push by a port: of a DIRECT entry. -/
theorem State.Stacked.push {s : State} (stacked : s.Stacked) {p : Port} {b : EntryBody} {st : StackState} {h : Nat}
    {d : Option Entry} (body : b.Sound) (origin : b.origin = .direct)
    (pushed : s.stack.push s.slots p b = .pushed st h d) : (s.afterPush st h d).st.Stacked := by
  obtain ⟨base, room, rfl, rfl⟩ := stacked.stack.pushed pushed
  have owner : ∃ o, b.owner = .port o := by
    rcases body.origins with ⟨-, port⟩ | ⟨watch, -⟩ | ⟨fallback, -⟩
    · exact port
    · simp [origin] at watch
    · simp [origin] at fallback
  obtain ⟨o, owner⟩ := owner
  refine ⟨?_, ?_⟩
  · rw [State.afterPush_stack, State.afterPush_slots]
    exact room.sound.add_port room.room body owner
  · rw [State.afterPush_stack]
    simpa using room.permit stacked.permit (by simp [origin])

/-- What a request's values make fits the stack (R66). -/
theorem CurtailValues.body_sound {v : CurtailValues} (valid : v.valid = true) (rated : Nat) (p : Port) :
    ((v.clamp rated p).body p).Sound := by
  simp only [CurtailValues.valid, Bool.and_eq_true, Bool.or_eq_true, Option.isSome_iff_ne_none] at valid
  exact ⟨valid.1.imp (fun some => clampCap_ne_none some rated) fun some => clampCap_ne_none some rated,
    .inl ⟨rfl, p, rfl⟩⟩

/-- No FALLBACK entry stands while the permit is GRANTED (R74). -/
theorem PermitSound.no_fallback {es : List Entry} {c : ConnectionControl} (sound : PermitSound es c)
    (granted : c.permit = .granted) : c.fallbackHandle = none ∧ ∀ e ∈ es, e.origin ≠ .fallback := by
  have none : c.fallbackHandle = none := by
    by_contra some
    simp [sound.lapsed.2 some] at granted
  refine ⟨none, fun e mem origin => ?_⟩
  have held := (sound.fallback e.handle).2 ⟨e, mem, rfl, origin⟩
  simp [none] at held

theorem State.Stacked.lapse {s : State} (stacked : s.Stacked) (running : s.conn.permitTimer.isRunning = true) :
    s.lapse.st.Stacked := by
  have due : s.conn.permitTimer.due ≠ none := by
    obtain ⟨left, timer⟩ := (Timer.isRunning_iff _).1 running
    simp [timer, Timer.due]
  obtain ⟨noHandle, noEntry⟩ := stacked.permit.no_fallback (stacked.permit.timed due)
  unfold State.lapse
  split
  case h_1 st h d pushed =>
    obtain ⟨base, room, rfl, rfl⟩ := stacked.stack.pushed pushed
    have body : (fallbackBody s.config).Sound :=
      ⟨.inl (clampCap_ne_none (Option.some_ne_none _) _), .inr (.inr ⟨rfl, rfl, rfl⟩)⟩
    have others : ∀ e ∈ base.entries, e.origin ≠ .fallback := by
      obtain ⟨keep, entries, -⟩ := room.kept
      intro e mem
      rw [entries] at mem
      exact noEntry e (List.mem_filter.1 mem).1
    refine ⟨?_, ?_⟩
    · dsimp only
      rw [State.afterPush_stack, State.afterPush_slots]
      exact room.sound.add_port room.room body rfl
    · dsimp only
      rw [State.afterPush_stack]
      refine ⟨fun h => ?_, by simp, fun due => absurd rfl due⟩
      rw [Option.some_inj, StackState.add_entries]
      constructor
      · intro same
        exact ⟨(fallbackBody s.config).withHandle base.freeHandle, by simp, same, rfl⟩
      · rintro ⟨e, mem, handle, origin⟩
        rcases List.mem_append.1 mem with there | last
        · exact absurd origin (others e there)
        · rw [List.mem_singleton.1 last] at handle
          exact handle
  case h_2 =>
    refine ⟨stacked.stack, ⟨fun h => ?_, by simp [noHandle], fun due => absurd rfl due⟩⟩
    exact stacked.permit.fallback h

/-- The FALLBACK entry taken out of the stack and of the permit record (R74, R156). -/
theorem State.Stacked.dropFallback {s : State} (stacked : s.Stacked) :
    s.dropFallback.stack.Sound s.slots ∧ ∀ e ∈ s.dropFallback.stack.entries, e.origin ≠ .fallback := by
  unfold State.dropFallback
  cases held : s.conn.fallbackHandle with
  | none =>
    refine ⟨stacked.stack, fun e mem origin => ?_⟩
    have handle := (stacked.permit.fallback e.handle).2 ⟨e, mem, rfl, origin⟩
    simp [held] at handle
  | some h =>
    obtain ⟨e, mem, rfl, origin⟩ := (stacked.permit.fallback h).1 held
    refine ⟨stacked.stack.remove_port mem fun k owner => ?_, fun x there fallback => ?_⟩
    · rw [stacked.stack.entries.owner_of_fallback mem origin] at owner
      exact nomatch owner
    · obtain ⟨there, other⟩ := (StackState.mem_remove _ _ _).1 there
      have handle := (stacked.permit.fallback x.handle).2 ⟨x, there, rfl, fallback⟩
      rw [held] at handle
      exact other (Option.some.inj handle).symm

theorem State.Stacked.permitTaken {s : State} (stacked : s.Stacked) {c : ConnectionControl}
    (permit : c.permit ≠ .lapsed) (handle : c.fallbackHandle = none)
    (timed : c.permitTimer.due ≠ none → c.permit = .granted) :
    PermitSound s.dropFallback.stack.entries c := by
  refine ⟨fun h => ?_, iff_of_false permit (by simp [handle]), timed⟩
  rw [handle]
  exact iff_of_false (fun h => nomatch h) fun ⟨e, mem, _, origin⟩ => stacked.dropFallback.2 e mem origin

/-! ### Evaluations (R85 to R91) -/

theorem evaluatedSlots_get {s : State} (length : s.slots.length = 8) (k : Nat) :
    ((List.range 8).map s.evaluatedSlot).getD k none = s.evaluatedSlot k := by
  by_cases inside : k < 8
  · simp [List.getD_eq_getElem?_getD, List.getElem?_range inside]
  · have unclaimed : s.claim k = none := by
      simp [State.claim, List.getD_eq_getElem?_getD, List.getElem?_eq_none (length ▸ Nat.le_of_not_lt inside)]
    rw [State.evaluatedSlot, unclaimed, List.getD_eq_default]
    simpa using inside

theorem evaluated_terms {s : State} (length : s.slots.length = 8) :
    SameTerms s.slots ((List.range 8).map s.evaluatedSlot) := by
  refine ⟨by simp [length], fun k => ?_⟩
  unfold slotTerms
  rw [evaluatedSlots_get length, State.evaluatedSlot, State.claim]
  cases s.slots.getD k none with
  | none => rfl
  | some c => dsimp only; split <;> rfl

/-- The slots that an evaluation leaves without their entry (R89). -/
def State.drops (s : State) (k : Nat) : Bool := s.curtails k && !s.effectiveCondition k

theorem slotEntry_evaluated {s : State} (length : s.slots.length = 8) (k : Nat) :
    slotEntry ((List.range 8).map s.evaluatedSlot) k = if s.drops k then none else slotEntry s.slots k := by
  rw [slotEntry_eq_bind, slotEntry_eq_bind, evaluatedSlots_get length, State.evaluatedSlot, State.claim, State.drops]
  cases s.slots.getD k none with
  | none => exact (ite_self _).symm
  | some c => dsimp only; split <;> rfl

theorem State.mem_removedHandles {s : State} (length : s.slots.length = 8) (h : Nat) :
    h ∈ s.removedHandles ↔ ∃ k, s.drops k = true ∧ slotEntry s.slots k = some h := by
  simp only [State.removedHandles, List.mem_filterMap, List.mem_range, Option.ite_none_right_eq_some]
  constructor
  · rintro ⟨k, -, drops, held⟩
    exact ⟨k, drops, held⟩
  · rintro ⟨k, drops, held⟩
    obtain ⟨c, claimed, -⟩ := (slotEntry_iff _ _ _).1 held
    exact ⟨k, length ▸ inside_of_claimed claimed, drops, held⟩

/-- The stack and the slots of an evaluation before its pushes (R87, R89). -/
def State.evaluated (s : State) : State :=
  { s with
    slots := (List.range 8).map s.evaluatedSlot
    stack := { s.stack with entries := s.stack.entries.filter fun e => !(s.removedHandles.contains e.handle) } }

theorem State.evaluateWatch_eq (s : State) :
    s.evaluateWatch = (s.evaluated.pushSlots s.pushers).raise ((List.range 8).flatMap s.notifyEvents) := rfl

theorem State.Stacked.evaluated {s : State} (stacked : s.Stacked) : s.evaluated.Stacked := by
  have length := stacked.stack.claims.length
  have removed_iff (e : Entry) (mem : e ∈ s.stack.entries) :
      (!(s.removedHandles.contains e.handle)) = false ↔ ∃ k, s.drops k = true ∧ e.owner = .slot k := by
    simp only [Bool.not_eq_false', List.contains_iff_mem, State.mem_removedHandles length]
    refine exists_congr fun k => and_congr_right fun _ => ?_
    exact ⟨stacked.stack.owner_of_held mem, fun owner => (stacked.stack.linked k _).2 ⟨e, mem, rfl, owner⟩⟩
  refine ⟨stacked.stack.filter rfl rfl (stacked.stack.claims.congr (evaluated_terms length))
    (stacked.stack.linked.filter ?kept ?dropped ?free), stacked.permit.filter fun e mem origin => ?fallback⟩
  case kept =>
    intro e mem k owner keeps
    rw [State.evaluated, slotEntry_evaluated length, if_neg]
    intro drops
    rw [(removed_iff e mem).2 ⟨k, drops, owner⟩] at keeps
    exact nomatch keeps
  case dropped =>
    intro e mem k owner removed
    obtain ⟨j, drops, same⟩ := (removed_iff e mem).1 removed
    obtain rfl := Owner.slot.inj (owner.symm.trans same)
    rw [State.evaluated, slotEntry_evaluated length, if_pos drops]
  case free =>
    intro k none
    rw [State.evaluated, slotEntry_evaluated length, none, ite_self]
  case fallback =>
    rw [← Bool.not_eq_false, removed_iff e mem]
    rintro ⟨k, -, owner⟩
    rw [stacked.stack.entries.owner_of_fallback mem origin] at owner
    exact nomatch owner

theorem holdEntry_terms (slots : List (Option Claim)) (k h : Nat) : SameTerms slots (holdEntry slots k h) := by
  unfold holdEntry
  split
  case h_1 c claimed => exact .set claimed rfl rfl
  case h_2 => exact .refl slots

theorem slotEntry_holdEntry {slots : List (Option Claim)} {k : Nat} {p : Port} {w : WatchSpec}
    (claimed : slotTerms slots k = some (p, w)) (h j : Nat) :
    slotEntry (holdEntry slots k h) j = if k = j then some h else slotEntry slots j := by
  obtain ⟨c, claimed, -, -⟩ := (slotTerms_iff _ _ _ _).1 claimed
  unfold holdEntry
  rw [claimed]
  exact slotEntry_set claimed j

/-- A claimed CURTAIL slot without an entry: a slot that may push (R89). -/
def MayPush (slots : List (Option Claim)) (k : Nat) : Prop :=
  slotEntry slots k = none ∧ ∃ p w, slotTerms slots k = some (p, w) ∧ w.action = .curtail

theorem MayPush.congr {slots slots' : List (Option Claim)} {k : Nat} (may : MayPush slots k)
    (terms : SameTerms slots slots') (free : slotEntry slots' k = none) : MayPush slots' k :=
  ⟨free, by rw [terms.terms]; exact may.2⟩

theorem WatchSpec.body_sound {w : WatchSpec} (capped : w.chargeCap ≠ none ∨ w.dischargeCap ≠ none) (rated k : Nat) :
    EntryBody.Sound ⟨.slot k, .watch, clampCap rated w.chargeCap, clampCap rated w.dischargeCap, none⟩ :=
  ⟨capped.imp (fun some => clampCap_ne_none some rated) fun some => clampCap_ne_none some rated,
    .inr (.inl ⟨rfl, ⟨k, rfl⟩, rfl⟩)⟩

theorem State.Stacked.pushSlot {s : State} (stacked : s.Stacked) {k : Nat} (may : MayPush s.slots k) :
    (s.pushSlot k).st.Stacked ∧
      ∀ j, k ≠ j → MayPush s.slots j → MayPush (s.pushSlot k).st.slots j := by
  obtain ⟨free, p, w, terms, curtail⟩ := may
  obtain ⟨c, claimed, rfl, rfl⟩ := (slotTerms_iff _ _ _ _).1 terms
  have body := WatchSpec.body_sound (stacked.stack.claims.specs k _ _ terms curtail) s.config.ratedCurrent k
  unfold State.pushSlot
  rw [State.claim, claimed]
  dsimp only
  split
  case h_1 st h d pushed =>
    obtain ⟨base, room, rfl, rfl⟩ := stacked.stack.pushed pushed
    rw [← room.terms.terms] at terms
    dsimp only
    rw [State.afterPush_slots]
    have held := holdEntry_terms (slotsAfterPush s.slots d) k base.freeHandle
    refine ⟨⟨?_, ?_⟩, fun j other may => may.congr (room.terms.trans held) ?_⟩
    · dsimp only
      rw [State.afterPush_stack]
      exact room.sound.add_slot room.room body rfl (room.free k free) held (slotEntry_holdEntry terms _)
    · simp only [State.afterPush_stack, State.afterPush_keeps]
      exact room.permit stacked.permit (by simp)
    · rw [slotEntry_holdEntry terms, if_neg other]
      exact room.free j may.1
  case h_2 =>
    have starved : SameTerms s.slots (s.slots.set k (some { c with starved := true })) := .set claimed rfl rfl
    have entries (j : Nat) : slotEntry (s.slots.set k (some { c with starved := true })) j = slotEntry s.slots j := by
      rw [slotEntry_set claimed]
      split
      case isTrue same => rw [← same, slotEntry_eq_bind, claimed]; rfl
      case isFalse => rfl
    refine ⟨⟨?_, stacked.permit⟩, fun j _ may => may.congr starved ((entries j).trans may.1)⟩
    exact ⟨stacked.stack.depth, stacked.stack.next, stacked.stack.entries, stacked.stack.claims.congr starved,
      fun j h => by rw [entries]; exact stacked.stack.linked j h⟩

theorem State.Stacked.pushSlots {s : State} (stacked : s.Stacked) {ks : List Nat} (distinct : ks.Nodup)
    (may : ∀ k ∈ ks, MayPush s.slots k) : (s.pushSlots ks).st.Stacked := by
  induction ks generalizing s with
  | nil => exact stacked
  | cons k rest ih =>
    obtain ⟨fresh, distinct⟩ := List.nodup_cons.1 distinct
    obtain ⟨next, others⟩ := stacked.pushSlot (may k List.mem_cons_self)
    refine ih next distinct fun j mem => others j (fun same => fresh (same ▸ mem)) (may j (List.mem_cons_of_mem k mem))

theorem State.pusher_may {s : State} (length : s.slots.length = 8) {k : Nat} (mem : k ∈ s.pushers) :
    MayPush s.evaluated.slots k := by
  simp only [State.pushers, List.mem_filter, Bool.and_eq_true, Option.isNone_iff_eq_none] at mem
  obtain ⟨-, ⟨curtails, condition⟩, free⟩ := mem
  have may : MayPush s.slots k := by
    refine ⟨free, ?_⟩
    simp only [State.curtails, Bool.and_eq_true] at curtails
    obtain ⟨-, curtail⟩ := curtails
    cases claimed : s.claim k with
    | none => simp [claimed] at curtail
    | some c =>
      exact ⟨c.owner, c.spec, (slotTerms_iff _ _ _ _).2 ⟨c, claimed, rfl, rfl⟩, by simpa [claimed] using curtail⟩
  refine may.congr (evaluated_terms length) ?_
  rw [State.evaluated, slotEntry_evaluated length, free, ite_self]

theorem State.Stacked.evaluateWatch {s : State} (stacked : s.Stacked) : s.evaluateWatch.st.Stacked := by
  rw [State.evaluateWatch_eq, Change.raise_st]
  exact stacked.evaluated.pushSlots (List.nodup_range.filter _) fun k => State.pusher_may stacked.stack.claims.length

theorem State.Stacked.sweepDone {s : State} (stacked : s.Stacked) : s.completion.st.Stacked := by
  have evaluated := (stacked.of_sides (t := s.takeSweep.st) rfl rfl (.refl _)).evaluateWatch
  refine evaluated.of_sides rfl rfl ?_
  have moved := SidesKept.sweepConn s.measured
  rw [State.completion_conn]
  simpa only [State.measured_keeps, State.evaluateWatch_keeps, State.takeSweep_keeps] using moved

/-! ### The requests on own entries, and the passing of time -/

theorem Entry.directOf_iff (p : Port) (e : Entry) : e.directOf p = true ↔ e.origin = .direct ∧ e.owner = .port p := by
  simp [Entry.directOf]

theorem StackState.find_some {st : StackState} {h : Nat} {e : Entry} (found : st.find h = some e) :
    e ∈ st.entries ∧ e.handle = h :=
  ⟨List.mem_of_find?_eq_some found, by simpa using List.find?_some found⟩

theorem StackState.ownDirect_some {st : StackState} {p : Port} {h : Nat} {e : Entry}
    (own : st.ownDirect p h = some e) : e ∈ st.entries ∧ e.handle = h ∧ e.origin = .direct ∧ e.owner = .port p := by
  unfold StackState.ownDirect at own
  split at own
  case h_1 x found =>
    obtain ⟨mem, handle⟩ := StackState.find_some found
    split at own
    case isTrue direct =>
      obtain rfl := Option.some.inj own
      exact ⟨mem, handle, (Entry.directOf_iff p x).1 direct⟩
    case isFalse => exact nomatch own
  case h_2 => exact nomatch own

theorem StackState.topDirect_some {st : StackState} {p : Port} {e : Entry} (top : st.topDirect p = some e) :
    e ∈ st.entries ∧ e.origin = .direct ∧ e.owner = .port p :=
  ⟨List.mem_reverse.1 (List.mem_of_find?_eq_some top), (Entry.directOf_iff p e).1 (List.find?_some top)⟩

/-- DIRECT entries taken out. -/
theorem State.Stacked.filterDirect {s : State} (stacked : s.Stacked) {st : StackState} {keep : Entry → Bool}
    (entries : st.entries = s.stack.entries.filter keep) (next : st.nextHandle = s.stack.nextHandle)
    (direct : ∀ e ∈ s.stack.entries, keep e = false → e.origin = .direct) :
    State.Stacked { s with stack := st } := by
  refine ⟨stacked.stack.filter_ports entries next fun e mem drops k owner => ?_, ?_⟩
  · rcases stacked.stack.entries.origins e mem with ⟨-, p, port⟩ | ⟨watch, -⟩ | ⟨fallback, -⟩
    · rw [port] at owner
      exact nomatch owner
    · simp [direct e mem drops] at watch
    · simp [direct e mem drops] at fallback
  · dsimp only
    rw [entries]
    refine stacked.permit.filter fun e mem origin => ?_
    by_contra drops
    simp [direct e mem (Bool.eq_false_iff.2 drops)] at origin

theorem State.Stacked.removeDirect {s : State} (stacked : s.Stacked) {e : Entry} (mem : e ∈ s.stack.entries)
    (origin : e.origin = .direct) : State.Stacked { s with stack := s.stack.remove e.handle } := by
  refine stacked.filterDirect rfl rfl fun x there drops => ?_
  rw [stacked.stack.entries.eq_of_handle there mem (by simpa using drops)]
  exact origin

/-- The caps and the times left of entries changed. -/
theorem State.Stacked.mapEntries {s : State} (stacked : s.Stacked) {st : StackState} {f : Entry → Entry}
    (entries : st.entries = s.stack.entries.map f) (next : st.nextHandle = s.stack.nextHandle)
    (handle : ∀ e, (f e).handle = e.handle) (owner : ∀ e, (f e).owner = e.owner)
    (origin : ∀ e, (f e).origin = e.origin)
    (capped : ∀ e ∈ s.stack.entries, (f e).chargeCap ≠ none ∨ (f e).dischargeCap ≠ none)
    (untimed : ∀ e ∈ s.stack.entries, e.origin ≠ .direct → e.remaining = none → (f e).remaining = none) :
    State.Stacked { s with stack := st } := by
  refine ⟨stacked.stack.map entries next handle owner origin capped untimed, ?_⟩
  dsimp only
  rw [entries]
  exact stacked.permit.map handle origin

theorem CurtailValues.capped {v : CurtailValues} (valid : v.valid = true) (rated : Nat) (p : Port) :
    (v.clamp rated p).charge ≠ none ∨ (v.clamp rated p).discharge ≠ none := (v.body_sound valid rated p).capped

theorem State.Stacked.amend {s : State} (stacked : s.Stacked) {e : Entry} (mem : e ∈ s.stack.entries)
    (direct : e.origin = .direct) {v : CurtailValues} (capped : v.charge ≠ none ∨ v.discharge ≠ none) :
    State.Stacked { s with stack := s.stack.amend e.handle v } := by
  refine stacked.mapEntries rfl rfl (fun x => ?_) (fun x => ?_) (fun x => ?_) (fun x there => ?_)
    fun x there other none => ?_
  case refine_4 =>
    split
    · exact capped
    · exact stacked.stack.entries.capped x there
  case refine_5 =>
    rw [if_neg, none]
    intro same
    exact other (stacked.stack.entries.eq_of_handle there mem same ▸ direct)
  all_goals split <;> rfl

theorem State.Stacked.advance {s : State} (stacked : s.Stacked) (dt : Nat) : (s.advance dt).Stacked := by
  have passed := stacked.mapEntries (st := (s.advance dt).stack) (f := Entry.pass dt) rfl rfl (fun _ => rfl)
    (fun _ => rfl) (fun _ => rfl) (fun e mem => stacked.stack.entries.capped e mem)
    fun e _ _ none => by simp [Entry.pass, none]
  refine ⟨passed.stack, passed.permit.congr rfl rfl fun due => ?_⟩
  have timer : (s.advance dt).conn.permitTimer = s.conn.permitTimer.pass dt := rfl
  rw [timer] at due
  cases left : s.conn.permitTimer with
  | running n => simp [Timer.due]
  | stopped | paused | runOut => simp [left, Timer.pass, Timer.due] at due

/-! ### Every event -/

theorem State.Stacked.withConn {s : State} (stacked : s.Stacked) {x : ConnChange} (kept : SidesKept s.conn x.conn) :
    (s.withConn x).st.Stacked := stacked.of_sides rfl rfl kept

theorem EventWork.stacked {c : Instr} {b : State} {w : Publication} {x : Change} (work : EventWork c b w x)
    (stacked : b.Stacked) : x.st.Stacked := by
  cases work with
  | portReset =>
    rename_i p _
    have released := stacked.releasePort p
    refine released.of_sides (b.portReset_stack p) (b.portReset_slots p) ?_
    simp only [Change.quiet_st, State.portReset_keeps]
    exact .refl b.conn
  | push valid pushed => exact stacked.push (CurtailValues.body_sound valid _ _) rfl pushed
  | amend valid own =>
    obtain ⟨mem, -, direct, -⟩ := StackState.ownDirect_some own
    exact stacked.amend mem direct (CurtailValues.capped valid _ _)
  | release own =>
    obtain ⟨mem, -, direct, -⟩ := StackState.ownDirect_some own
    exact stacked.removeDirect mem direct
  | pop top =>
    obtain ⟨mem, direct, -⟩ := StackState.topDirect_some top
    exact stacked.removeDirect mem direct
  | releaseAll =>
    exact stacked.filterDirect rfl rfl fun e _ drops => ((Entry.directOf_iff _ e).1 (by simpa using drops)).1
  | expiry timed =>
    obtain ⟨e, mem, rfl, timed⟩ := timed
    refine stacked.removeDirect mem ?_
    rcases stacked.stack.entries.origins e mem with ⟨direct, -⟩ | ⟨-, -, none⟩ | ⟨-, -, none⟩
    · exact direct
    · exact absurd none timed
    · exact absurd none timed
  | claim slot free valid chain => exact stacked.takeClaim slot free valid chain
  | releaseWatch slot claimed own unchained => exact stacked.takeRelease slot unchained
  | connect => exact stacked.of_sides rfl rfl (.connect _)
  | disconnect => exact stacked.withConn (.disconnect _ _ _)
  | unlock => exact stacked.withConn (.unlock _)
  | gridTrip =>
    rename_i p
    cases p with
    | conv | util | site => exact ⟨stacked.stack, stacked.permit.congr rfl rfl id⟩
  | gridRestored => exact ⟨stacked.stack, stacked.permit.congr rfl rfl id⟩
  | permit =>
    rename_i seconds
    refine ⟨?_, ?_⟩
    · rw [Change.quiet_st]
      simp only [State.grant_keeps]
      exact stacked.dropFallback.1
    · rw [Change.quiet_st, State.grant_conn]
      exact stacked.permitTaken (by simp) rfl fun _ => rfl
  | withdraw =>
    refine ⟨?_, ?_⟩
    · rw [Change.quiet_st]
      simp only [State.withdraw_keeps]
      exact stacked.dropFallback.1
    · rw [Change.quiet_st, State.withdraw_conn]
      exact stacked.permitTaken (by simp) rfl fun due => absurd rfl due
  | sweep =>
    exact (stacked.of_sides (t := b.withChain (b.chain.fillEntry _ _)) rfl rfl (.refl _)).sweepDone
  | sampling =>
    refine stacked.of_sides (by simp) (by simp) ?_
    unfold State.openForFire
    split
    · exact .emergency _ _ _
    · exact .refl _
  | feedback => exact stacked.withConn (.feedback _ _ _ _)
  | disagreement => exact stacked.withConn (.contactorFault _ _)
  | precharge => exact stacked.withConn (.prechargeFailed _)
  | openWait => exact stacked.withConn (.waitExpired _ _)
  | dataLossOpen => exact stacked.withConn (.beginNormal _ _ _ _)
  | lapse running => exact stacked.lapse running
  | gridLine => exact ⟨stacked.stack, stacked.permit.congr rfl rfl id⟩
  | convNotice => exact ⟨stacked.stack, stacked.permit.congr rfl rfl id⟩
  | reconnect => exact ⟨stacked.stack, stacked.permit.congr rfl rfl id⟩
  | configWrite | configAccept =>
    refine stacked.of_sides (by simp) (by simp) ?_
    simp only [Change.andThen_st, Change.quiet_st, State.storeItem_keeps, State.leaveConfigured_keeps,
      State.accept_keeps]
    exact .refl _
  | sweepOnce | sweepContinuous | sweepStop | coolingManual | coolingAuto | coolingRetry | holdSet | holdClear
  | releaseNow | fireReset | detectorEnable | detectorDisable | ageTimer | periodStart | windowEnd | countdown
  | disablement => exact stacked.of_sides rfl rfl (.refl _)

theorem slots_reset (k : Nat) : State.reset.slots.getD k none = none := by
  have empty : State.reset.slots = List.replicate 8 none := rfl
  rw [empty, List.getD_eq_getElem?_getD, List.getElem?_replicate]
  split <;> rfl

theorem stacked_kept : KeptByWork State.Stacked where
  agrees agree stacked := by
    refine stacked.of_sides agree.stack agree.slots ?_
    rw [agree.conn]
    exact .refl _
  reset := by
    have terms (k : Nat) : slotTerms State.reset.slots k = none := by rw [slotTerms, slots_reset]; rfl
    have entry (k : Nat) : slotEntry State.reset.slots k = none := by rw [slotEntry_eq_bind, slots_reset]; rfl
    have claims : ClaimsSound State.reset.slots :=
      ⟨rfl, fun k p w some => by simp [terms] at some, fun k p w some => by simp [terms] at some⟩
    have entries : State.reset.stack.entries = [] := rfl
    have linked : Linked State.reset.stack.entries State.reset.slots := fun k h => by simp [entry, entries]
    refine ⟨⟨Nat.zero_le _, by decide +kernel, ⟨.nil, ?_, ?_, ?_⟩, claims, linked⟩, ?_, by decide +kernel,
      by decide +kernel⟩
    case refine_4 => exact fun h => iff_of_false (fun h => nomatch h) fun ⟨e, mem, _⟩ => nomatch mem
    all_goals exact fun e mem => nomatch mem
  advance dt stacked := stacked.advance dt
  line n stacked := stacked.of_sides rfl rfl (.refl _)
  silent work stacked := by
    cases work <;> exact ⟨stacked.stack, stacked.permit.congr rfl rfl id⟩
  event {c b w x} work stacked := by
    have after := work.stacked stacked
    refine ⟨by rw [State.settle_stack, State.settle_slots]; exact after.stack, ?_⟩
    rw [State.settle_stack, State.settle_conn]
    exact after.permit.congr rfl rfl id

theorem stacked_iff (s : State) : StackSound s ↔ s.Stacked :=
  (stackSound_iff s).trans ⟨fun sound => ⟨sound.1, sound.2⟩, fun stacked => ⟨stacked.stack, stacked.permit⟩⟩

theorem stackSound_kept : KeptByWork StackSound := funext (fun s => propext (stacked_iff s)) ▸ stacked_kept

/-- Settles O56: the stack with the slots and the permit record (`State.Stacked`) through every piece of work. -/
theorem stackStaysSound : Obligations.StackStaysSound := fun _ _ sound stepped => stackSound_kept.step stepped sound

end Sys2Proof.Machine
end

section
/-! The thermal controller through every event and every step (Chapter 6): forcing and duties, demands, the damper, the
cooling state, and the grace and retry timers. -/

namespace Sys2Proof.Machine

/-! ### Forcing, selection and demand, channel by channel (R96, R100, R103) -/

theorem CauseSet.offgasAlone_iff (c : CauseSet) : c.offgasAlone = true ↔ c = ⟨true, false, false, false, false⟩ := by
  obtain ⟨offgas, smoke, heat, manual, panel⟩ := c
  simp [CauseSet.offgasAlone, and_assoc]

/-- R103's table, channel by channel. -/
theorem fireForcing_get (status : FireStatus) (causes : CauseSet) (c : DutyChannel) :
    (fireForcing status causes).get c = forcedBy status causes c := by
  have alone : (if causes.offgasAlone = true then some 1000 else some 0) =
      if causes = ⟨true, false, false, false, false⟩ then some 1000 else some 0 :=
    if_congr causes.offgasAlone_iff rfl rfl
  cases c with
  | exhaust => cases status with
    | quiet | watch | released => rfl
    | alarm | countdown | held => exact alone
  | fanA | fanB | pump | heater => cases status <;> rfl

theorem Channels.ext_get {α : Type} {x y : Channels α} (same : ∀ c, x.get c = y.get c) : x = y := by
  obtain ⟨a, b, c, d, e⟩ := x
  obtain ⟨a', b', c', d', e'⟩ := y
  obtain rfl : a = a' := same .fanA
  obtain rfl : b = b' := same .fanB
  obtain rfl : c = c' := same .pump
  obtain rfl : d = d' := same .exhaust
  obtain rfl : e = e' := same .heater
  rfl

theorem reselected_terms (configured : Bool) (old new : Option Nat) (r : ChannelRecord) :
    (reselected configured old new r).automatic = r.automatic ∧
    (reselected configured old new r).mode = r.mode ∧ (reselected configured old new r).manual = r.manual := by
  unfold reselected
  dsimp only
  split
  · exact ⟨rfl, rfl, rfl⟩
  · split <;> exact ⟨rfl, rfl, rfl⟩

/-- The selected duty is that of R96's table. -/
theorem reselected_selected (configured : Bool) (old new : Option Nat) (r : ChannelRecord) :
    (reselected configured old new r).selected = selectedDuty configured new r := by
  unfold reselected
  dsimp only
  split
  case isTrue => rfl
  case isFalse =>
    split
    case isTrue => rfl
    case isFalse same => exact (not_not.1 same).symm

theorem reselected_shadow (configured : Bool) (old new : Option Nat) {r : ChannelRecord}
    (shadow : r.shadow = r.selected) :
    (reselected configured old new r).shadow = (reselected configured old new r).selected := by
  unfold reselected
  dsimp only
  split
  · rfl
  · split
    · rfl
    · exact shadow

/-- A change of the forcing reaches the active duty at once, and nothing else does (R95, R103). -/
theorem reselected_active (configured : Bool) (old new : Option Nat) (r : ChannelRecord) :
    (reselected configured old new r).active =
      if old ≠ new then (reselected configured old new r).selected else r.active := by
  unfold reselected
  dsimp only
  split
  · rfl
  · split <;> rfl

theorem selectedDuty_congr {r r' : ChannelRecord} (automatic : r'.automatic = r.automatic) (mode : r'.mode = r.mode)
    (manual : r'.manual = r.manual) (configured : Bool) (forced : Option Nat) :
    selectedDuty configured forced r' = selectedDuty configured forced r := by
  unfold selectedDuty
  rw [automatic, mode, manual]

/-! ### The thermal record as it follows -/

/-- A channel is MANUAL exactly with a manual duty, and its shadow duty is its selected duty. -/
structure ChannelRecord.Sound (r : ChannelRecord) : Prop where
  modes : r.mode = .manual ↔ r.manual ≠ none
  shadow : r.shadow = r.selected

/-- What every piece of work leaves of the thermal record, before it is derived afresh. -/
structure ThermalState.Ready (t : ThermalState) : Prop where
  channels : ∀ c, (t.channels.get c).Sound
  cooling : t.cooling = coolingOf t.tachs

/-- The thermal record follows the fire state, the modes, the demands and the check states: what `DutiesFollow` says. -/
structure ThermalState.Follows (t : ThermalState) (configured : Bool) (f : FireControl) : Prop extends t.Ready where
  forcing : t.forcing = fireForcing f.status f.causes
  selected : ∀ c, (t.channels.get c).selected = selectedDuty configured (t.forcing.get c) (t.channels.get c)
  damper : t.damperOpen = damperOf t.channels

theorem CheckState.isFaulted_iff (c : CheckState) : c.isFaulted = true ↔ c ≠ .healthy := by
  cases c <;> simp [CheckState.isFaulted]

theorem coolingOf_lost_iff (tachs : Tachs TachRecord) :
    coolingOf tachs = .lost ↔
      tachs.pump.check ≠ .healthy ∨ tachs.fanA.check ≠ .healthy ∧ tachs.fanB.check ≠ .healthy := by
  rw [← CheckState.isFaulted_iff, ← CheckState.isFaulted_iff, ← CheckState.isFaulted_iff, ← Bool.and_eq_true,
    ← Bool.or_eq_true]
  unfold coolingOf
  split
  case isTrue lost => exact iff_of_true rfl lost
  case isFalse other =>
    refine iff_of_false ?_ other
    split <;> exact fun h => nomatch h

theorem coolingOf_normal_iff (tachs : Tachs TachRecord) :
    coolingOf tachs = .normal ↔
      tachs.fanA.check = .healthy ∧ tachs.fanB.check = .healthy ∧ tachs.pump.check = .healthy := by
  unfold coolingOf
  cases tachs.fanA.check <;> cases tachs.fanB.check <;> cases tachs.pump.check <;> simp [CheckState.isFaulted]

theorem damperOf_iff (channels : Channels ChannelRecord) :
    damperOf channels = true ↔ 0 < channels.fanA.active ∨ 0 < channels.fanB.active ∨ 0 < channels.exhaust.active := by
  simp [damperOf, or_assoc]

theorem dutiesFollow_iff (s : State) : DutiesFollow s ↔ s.thermal.Follows s.config.configured s.fire := by
  constructor
  · intro follow
    refine ⟨⟨fun c => ⟨follow.modes c, follow.shadow c⟩, ?cooling⟩, ?forcing, ?selected, ?damper⟩
    case forcing => exact Channels.ext_get fun c => by rw [fireForcing_get, follow.forcing]
    case damper => exact Bool.eq_iff_iff.2 (follow.damper.trans (damperOf_iff _).symm)
    case cooling =>
      have lost := follow.lost.trans (coolingOf_lost_iff s.thermal.tachs).symm
      have normal : s.thermal.cooling = .normal ↔ coolingOf s.thermal.tachs = .normal := by
        rw [coolingOf_normal_iff, follow.normal]
        simp only [State.faulted, not_not]
        rfl
      revert lost normal
      cases s.thermal.cooling <;> cases coolingOf s.thermal.tachs <;> simp
    case selected =>
      intro c
      cases configured : s.config.configured with
      | false => exact follow.unconfigured configured c
      | true =>
        cases forced : s.thermal.forcing.get c with
        | some d => exact follow.forced configured c d forced
        | none =>
          cases mode : (s.thermal.channels.get c).mode with
          | auto =>
            rw [follow.automatic configured c forced mode]
            simp [selectedDuty, mode]
          | manual =>
            have manual := follow.manual configured c forced mode
            simp [selectedDuty, mode, ← manual]
  · rintro ⟨⟨channels, cooling⟩, forcing, selected, damper⟩
    refine
      { forcing := fun c => by rw [forcing, fireForcing_get]
        unconfigured := fun configured c => by rw [selected, configured]; rfl
        forced := fun configured c d forced => by rw [selected, configured, forced]; rfl
        manual := fun configured c forced mode => ?_
        automatic := fun configured c forced mode => ?_
        shadow := fun c => (channels c).shadow
        modes := fun c => (channels c).modes
        damper := by rw [damper, damperOf_iff]
        lost := by rw [cooling, coolingOf_lost_iff]; rfl
        normal := ?_ }
    · obtain ⟨d, manual⟩ := Option.ne_none_iff_exists'.1 ((channels c).modes.1 mode)
      rw [selected, configured, forced]
      simp [selectedDuty, mode, manual]
    · rw [selected, configured, forced]
      simp [selectedDuty, mode]
    · rw [cooling, coolingOf_normal_iff]
      simp only [State.faulted, not_not]
      rfl

/-! ### The record derived afresh at the end of an event -/

section
variable (sweep : Bool) (b x : State)

@[simp] theorem rederiveThermal_forcing :
    (rederiveThermal sweep b x).forcing = fireForcing x.fire.status x.fire.causes := rfl

@[simp] theorem rederiveThermal_measured :
    (rederiveThermal sweep b x).fanDemand = x.thermal.fanDemand ∧
    (rederiveThermal sweep b x).heaterOn = x.thermal.heaterOn ∧
    (rederiveThermal sweep b x).cooling = x.thermal.cooling := ⟨rfl, rfl, rfl⟩

theorem rederivedDemand_terms (due : Bool) (c : DutyChannel) :
    (rederivedDemand due b x c).selected = (x.thermal.channels.get c).selected ∧
    (rederivedDemand due b x c).shadow = (x.thermal.channels.get c).shadow ∧
    (rederivedDemand due b x c).active = (x.thermal.channels.get c).active := by
  unfold rederivedDemand
  dsimp only
  split <;> exact ⟨rfl, rfl, rfl⟩

theorem rederiveThermal_channel (c : DutyChannel) :
    (rederiveThermal sweep b x).channels.get c =
      reselected x.config.configured (x.thermal.forcing.get c) ((fireForcing x.fire.status x.fire.causes).get c)
        (rederivedDemand (demandDue sweep b x) b x c) := Channels.get_of _ c

theorem rederiveThermal_active (c : DutyChannel) :
    ((rederiveThermal sweep b x).channels.get c).active =
      if x.thermal.forcing.get c ≠ (rederiveThermal sweep b x).forcing.get c then
        ((rederiveThermal sweep b x).channels.get c).selected
      else (x.thermal.channels.get c).active := by
  rw [rederiveThermal_channel, reselected_active, (rederivedDemand_terms b x _ c).2.2]
  rfl

theorem rederiveThermal_automatic (c : DutyChannel) :
    ((rederiveThermal sweep b x).channels.get c).automatic =
      if demandDue sweep b x then
        automaticDemand b.config.blindDuty x.table.dataLoss.holds x.conn.connection.isClosed x.fire.status
          x.thermal.fanDemand x.thermal.heaterOn c
      else (x.thermal.channels.get c).automatic := by
  rw [rederiveThermal_channel, (reselected_terms _ _ _ _).1]
  unfold rederivedDemand
  dsimp only
  split <;> rfl

/-- A tach record that follows forcing and active duty (R105, R108), before the note of armament. -/
def followedTach (ch : TachChannel) : TachRecord :=
  (x.thermal.tachs.get ch).follow (heldAtZero x.thermal.forcing ch) (heldAtZero (rederiveThermal sweep b x).forcing ch)
    (x.thermal.channels.get (dutyOf ch)).active ((rederiveThermal sweep b x).channels.get (dutyOf ch)).active

theorem rederiveThermal_tach (ch : TachChannel) :
    (rederiveThermal sweep b x).tachs.get ch =
      { followedTach sweep b x ch with
        armedSinceStart := (x.thermal.tachs.get ch).armedSinceStart &&
          armed x.config (rederiveThermal sweep b x).forcing (rederiveThermal sweep b x).channels ch
            (followedTach sweep b x ch) } := by
  have noted : (followedTach sweep b x ch).armedSinceStart = (x.thermal.tachs.get ch).armedSinceStart := by
    unfold followedTach
    rw [TachRecord.follow_eq]
  rw [← noted]
  exact Tachs.get_of _ ch

variable {sweep b x}

theorem coolingOf_congr {t t' : Tachs TachRecord}
    (checks : ∀ ch, (t'.get ch).check.isFaulted = (t.get ch).check.isFaulted) : coolingOf t' = coolingOf t := by
  have fanA : t'.fanA.check.isFaulted = t.fanA.check.isFaulted := checks .fanA
  have fanB : t'.fanB.check.isFaulted = t.fanB.check.isFaulted := checks .fanB
  have pump : t'.pump.check.isFaulted = t.pump.check.isFaulted := checks .pump
  unfold coolingOf
  rw [fanA, fanB, pump]

/-- At the end of an event everything follows, from what its work has left. -/
theorem ThermalState.Ready.rederived (ready : x.thermal.Ready) :
    (rederiveThermal sweep b x).Follows x.config.configured x.fire := by
  refine ⟨⟨fun c => ⟨?modes, ?shadow⟩, ?cooling⟩, rfl, fun c => ?selected, rfl⟩
  case modes =>
    obtain ⟨mode, manual⟩ := rederiveThermal_modes sweep b x c
    rw [mode, manual]
    exact (ready.channels c).modes
  case shadow =>
    rw [rederiveThermal_channel]
    refine reselected_shadow _ _ _ ?_
    obtain ⟨selected, shadow, -⟩ := rederivedDemand_terms b x (demandDue sweep b x) c
    rw [selected, shadow]
    exact (ready.channels c).shadow
  case selected =>
    rw [rederiveThermal_channel, reselected_selected]
    obtain ⟨automatic, mode, manual⟩ := reselected_terms x.config.configured (x.thermal.forcing.get c)
      ((fireForcing x.fire.status x.fire.causes).get c) (rederivedDemand (demandDue sweep b x) b x c)
    exact (selectedDuty_congr automatic mode manual _ _).symm
  case cooling =>
    exact ready.cooling.trans (coolingOf_congr fun ch => by rw [rederiveThermal_checks])
end

end Sys2Proof.Machine
end

section
/-! What each event's work makes of the thermal record, and the record kept derived through every step (R96, R102,
R103, R105, R110). -/

namespace Sys2Proof.Machine

/-! ### Armament (R105) -/

theorem armed_iff (c : ConfigSet) (forcing : Channels (Option Nat)) (channels : Channels ChannelRecord)
    (ch : TachChannel) (r : TachRecord) :
    armed c forcing channels ch r = true ↔
      200 ≤ (channels.get (dutyOf ch)).active ∧ r.grace = .runOut ∧ forcing.get (dutyOf ch) ≠ some 0 ∧
        0 < c.tachMinimum ch ∧ (r.check = .healthy ∨ r.check = .trying) := by
  simp only [armed, heldAtZero, Bool.and_eq_true, Bool.or_eq_true, Bool.not_eq_true', decide_eq_true_iff,
    decide_eq_false_iff_not, and_assoc]
  rfl

theorem State.armed_iff (s : State) (ch : TachChannel) :
    armed s.config s.thermal.forcing s.thermal.channels ch (s.thermal.tachs.get ch) = true ↔ Armed s ch :=
  (Machine.armed_iff _ _ _ _ _).trans
    ⟨fun ⟨duty, grace, unheld, checked, judged⟩ => ⟨duty, grace, unheld, checked, judged⟩,
      fun a => ⟨a.duty, a.grace, a.unheld, a.checked, a.judged⟩⟩

/-- Armament reads these of a state, and nothing else. -/
theorem Armed.congr {s t : State} {ch : TachChannel} (a : Armed s ch)
    (duty : (t.thermal.channels.get (dutyOf ch)).active = (s.thermal.channels.get (dutyOf ch)).active)
    (forcing : t.thermal.forcing = s.thermal.forcing) (config : t.config = s.config)
    (grace : (t.thermal.tachs.get ch).grace = .runOut)
    (check : (t.thermal.tachs.get ch).check = (s.thermal.tachs.get ch).check) : Armed t ch :=
  ⟨duty ▸ a.duty, grace, forcing ▸ a.unheld, config ▸ a.checked, check ▸ a.judged⟩

/-- Only armed channels are noted as armed since the window's start (log entry 18). -/
def ArmedNoted (s : State) : Prop := ∀ ch, (s.thermal.tachs.get ch).armedSinceStart = true → Armed s ch

/-! ### What the work of an event makes of the record -/

/-- The work of an event on the thermal record, but for a period start: forcing and duties stay as they are, and a
channel may change its mode; a retry and the end of a window write the tach records. -/
structure ThermalWork (c : Instr) (b x : State) : Prop where
  forcing : x.thermal.forcing = b.thermal.forcing
  automatic : ∀ d, (x.thermal.channels.get d).automatic = (b.thermal.channels.get d).automatic
  active : ∀ d, (x.thermal.channels.get d).active = (b.thermal.channels.get d).active
  sound : ∀ d, (b.thermal.channels.get d).Sound → (x.thermal.channels.get d).Sound
  tachs : x.thermal.tachs = b.thermal.tachs ∧ x.thermal.cooling = b.thermal.cooling ∨
    x.fire = b.fire ∧ x.thermal.cooling = coolingOf x.thermal.tachs ∧
      ((∃ p, c = .coolingRetry p) ∧
        (∀ ch, (x.thermal.tachs.get ch).armedSinceStart = (b.thermal.tachs.get ch).armedSinceStart) ∨
       c = .tachWindowEnd ∧ ∀ ch, (x.thermal.tachs.get ch).grace = (b.thermal.tachs.get ch).grace)

theorem ThermalWork.refl {c : Instr} {b x : State} (thermal : x.thermal = b.thermal) : ThermalWork c b x :=
  ⟨by rw [thermal], fun d => by rw [thermal], fun d => by rw [thermal], fun d => by rw [thermal]; exact id,
    .inl (by rw [thermal]; exact ⟨rfl, rfl⟩)⟩

/-- Work that writes fan demand, heater state or the release pulse. -/
theorem ThermalWork.besides {c : Instr} {b x : State} (forcing : x.thermal.forcing = b.thermal.forcing)
    (channels : x.thermal.channels = b.thermal.channels) (tachs : x.thermal.tachs = b.thermal.tachs)
    (cooling : x.thermal.cooling = b.thermal.cooling) : ThermalWork c b x :=
  ⟨forcing, fun d => by rw [channels], fun d => by rw [channels], fun d => by rw [channels]; exact id,
    .inl ⟨tachs, cooling⟩⟩

/-- Work that writes the channel records. -/
theorem ThermalWork.modes {c : Instr} {b x : State} {channels : Channels ChannelRecord}
    (thermal : x.thermal = { b.thermal with channels := channels })
    (duties : ∀ d, (channels.get d).automatic = (b.thermal.channels.get d).automatic ∧
      (channels.get d).active = (b.thermal.channels.get d).active ∧
      ((b.thermal.channels.get d).Sound → (channels.get d).Sound)) : ThermalWork c b x := by
  refine ⟨by rw [thermal], fun d => ?_, fun d => ?_, fun d => ?_, .inl (by rw [thermal]; exact ⟨rfl, rfl⟩)⟩
  all_goals rw [thermal]
  · exact (duties d).1
  · exact (duties d).2.1
  · exact (duties d).2.2

theorem ChannelRecord.Sound.toAuto {r : ChannelRecord} (sound : r.Sound) : r.toAuto.Sound :=
  ⟨by simp [ChannelRecord.toAuto], sound.shadow⟩

theorem ChannelRecord.Sound.toManual {r : ChannelRecord} (sound : r.Sound) (duty : Nat) : (r.toManual duty).Sound :=
  ⟨by simp [ChannelRecord.toManual], sound.shadow⟩

theorem ThermalWork.allAuto {c : Instr} {b x : State} (thermal : x.thermal = b.thermal.allAuto) :
    ThermalWork c b x := by
  refine .modes thermal fun d => ?_
  rw [Channels.get_of]
  exact ⟨rfl, rfl, ChannelRecord.Sound.toAuto⟩

theorem ThermalWork.setChannel {c : Instr} {b x : State} {d : DutyChannel} {r : ChannelRecord}
    (thermal : x.thermal = b.thermal.setChannel d r) (automatic : r.automatic = (b.thermal.channels.get d).automatic)
    (active : r.active = (b.thermal.channels.get d).active)
    (sound : (b.thermal.channels.get d).Sound → r.Sound) : ThermalWork c b x := by
  refine .modes thermal fun e => ?_
  rw [Channels.get_set]
  split
  case isTrue same => exact same ▸ ⟨automatic, active, sound⟩
  case isFalse => exact ⟨rfl, rfl, id⟩

theorem TachRecord.judge_grace (r : TachRecord) (rate minimum : Nat) :
    (r.judge rate minimum).grace = r.grace := by
  unfold TachRecord.judge
  split
  · split <;> rfl
  · split
    · rfl
    · split <;> rfl
  · rfl
  · rfl

theorem State.windowEnd_grace (s : State) (ch : TachChannel) :
    (s.windowEnd ch).grace = (s.thermal.tachs.get ch).grace := by
  unfold State.windowEnd
  dsimp only
  split
  · rw [TachRecord.judge_grace]
  · rfl

theorem TachRecord.retried_armed (r : TachRecord) (held : Bool) :
    (r.retried held).armedSinceStart = r.armedSinceStart := by
  unfold TachRecord.retried
  split <;> rfl

theorem State.leaveConfigured_thermal (s : State) (n : Nat) :
    (s.leaveConfigured n).st.thermal = if s.config.configured then s.thermal.allAuto else s.thermal := by
  unfold State.leaveConfigured
  split <;> rfl

/-- What the work of an event makes of the thermal record. -/
theorem EventWork.thermal {c : Instr} {b : State} {w : Publication} {x : Change} (work : EventWork c b w x) :
    (c = .pwmPeriodStart ∧ x.st = { b with thermal := b.thermal.periodStart b.config }) ∨ ThermalWork c b x.st := by
  cases work with
  | periodStart => exact .inl ⟨rfl, rfl⟩
  | connect => exact .inr (.allAuto rfl)
  | configWrite =>
    refine .inr ?_
    have thermal := fun n => b.leaveConfigured_thermal n
    simp only [Change.andThen_st, Change.quiet_st]
    split at thermal
    · exact .allAuto (by simp only [State.storeItem_keeps, thermal])
    · exact .refl (by simp only [State.storeItem_keeps, thermal])
  | coolingManual =>
    refine .inr (.setChannel rfl rfl rfl fun sound => sound.toManual _)
  | coolingAuto => exact .inr (.setChannel rfl rfl rfl ChannelRecord.Sound.toAuto)
  | coolingRetry =>
    refine .inr ⟨rfl, fun _ => rfl, fun _ => rfl, fun _ => id, .inr ⟨rfl, rfl, .inl ⟨⟨_, rfl⟩, fun ch => ?_⟩⟩⟩
    simp only [ThermalState.withTachs, Tachs.get_of, TachRecord.retried_armed]
  | windowEnd =>
    refine .inr ⟨rfl, fun _ => rfl, fun _ => rfl, fun _ => id, .inr ⟨rfl, rfl, .inr ⟨rfl, fun ch => ?_⟩⟩⟩
    simp only [ThermalState.withTachs, State.tachsAfterWindow, Tachs.get_of, TachRecord.noteArmed,
      State.windowEnd_grace]
  | sweep =>
    rename_i e o _ _ _
    have measured : (b.withChain (b.chain.fillEntry e o)).completion.st.thermal =
        { b.thermal with
          fanDemand := (b.withChain (b.chain.fillEntry e o)).completion.st.thermal.fanDemand
          heaterOn := (b.withChain (b.chain.fillEntry e o)).completion.st.thermal.heaterOn } := by
      simp only [State.completion_thermal, State.measured, State.measureThermal, State.evaluateWatch_keeps,
        State.takeSweep_keeps]
      rfl
    exact .inr (.besides (by rw [measured]) (by rw [measured]) (by rw [measured]) (by rw [measured]))
  | configAccept => exact .inr (.besides rfl rfl rfl rfl)
  | releaseNow | countdown => exact .inr (.besides rfl rfl rfl rfl)
  | _ => exact .inr (.refl (by simp))

/-! ### The record kept derived -/

section
variable {s b : State}

theorem ThermalState.pass_tach (t : ThermalState) (dt : Nat) (ch : TachChannel) :
    (t.pass dt).tachs.get ch = (t.tachs.get ch).pass dt := by cases ch <;> rfl

theorem ThermalState.Follows.pass {t : ThermalState} {configured : Bool} {f : FireControl}
    (follows : t.Follows configured f) (dt : Nat) : (t.pass dt).Follows configured (f.pass dt) :=
  ⟨⟨follows.channels, follows.cooling⟩, follows.forcing, follows.selected, follows.damper⟩

theorem ThermalState.Ready.work {c : Instr} {x : State} (ready : b.thermal.Ready) (work : ThermalWork c b x) :
    x.thermal.Ready := by
  refine ⟨fun d => work.sound d (ready.channels d), ?_⟩
  rcases work.tachs with ⟨tachs, cooling⟩ | ⟨-, cooling, -⟩
  · rw [tachs, cooling]
    exact ready.cooling
  · exact cooling

theorem periodStart_channel (t : ThermalState) (c : ConfigSet) (d : DutyChannel) :
    (t.periodStart c).channels.get d = { t.channels.get d with active := (t.channels.get d).shadow } :=
  Channels.get_of _ d

/-- A tach record at a period start (R105): its grace timer starts if its active duty rises from 0. -/
theorem periodStart_tach (t : ThermalState) (c : ConfigSet) (ch : TachChannel) :
    (t.periodStart c).tachs.get ch =
      { (t.tachs.get ch).follow (heldAtZero t.forcing ch) (heldAtZero t.forcing ch)
          (t.channels.get (dutyOf ch)).active ((t.periodStart c).channels.get (dutyOf ch)).active with
        armedSinceStart :=
          ((t.tachs.get ch).follow (heldAtZero t.forcing ch) (heldAtZero t.forcing ch)
            (t.channels.get (dutyOf ch)).active ((t.periodStart c).channels.get (dutyOf ch)).active).armedSinceStart &&
          armed c t.forcing (t.periodStart c).channels ch
            ((t.tachs.get ch).follow (heldAtZero t.forcing ch) (heldAtZero t.forcing ch)
              (t.channels.get (dutyOf ch)).active ((t.periodStart c).channels.get (dutyOf ch)).active) } :=
  Tachs.get_of _ ch

theorem TachRecord.follow_keeps (r : TachRecord) (was held : Bool) (old new : Nat) :
    (r.follow was held old new).check = r.check ∧
    (r.follow was held old new).armedSinceStart = r.armedSinceStart := by
  rw [TachRecord.follow_eq]
  exact ⟨rfl, rfl⟩

theorem ThermalState.Ready.periodStart {t : ThermalState} (ready : t.Ready) (c : ConfigSet) :
    (t.periodStart c).Ready := by
  refine ⟨fun d => ?_, ?_⟩
  · rw [periodStart_channel]
    exact ⟨(ready.channels d).modes, (ready.channels d).shadow⟩
  · refine ready.cooling.trans (coolingOf_congr fun ch => ?_)
    rw [periodStart_tach]
    exact congrArg CheckState.isFaulted (TachRecord.follow_keeps _ _ _ _ _).1.symm

theorem EventWork.thermalReady {c : Instr} {w : Publication} {x : Change} (work : EventWork c b w x)
    (ready : b.thermal.Ready) : x.st.thermal.Ready := by
  rcases work.thermal with ⟨-, started⟩ | work
  · rw [started]
    exact ready.periodStart b.config
  · exact ready.work work

theorem ThermalState.Follows.setTach {ch : TachChannel} {r : TachRecord}
    (follows : b.thermal.Follows b.config.configured b.fire)
    (check : r.check.isFaulted = (b.thermal.tachs.get ch).check.isFaulted) :
    (b.setTach ch r).thermal.Follows b.config.configured b.fire := by
  refine ⟨⟨follows.channels, follows.cooling.trans (coolingOf_congr fun d => ?_)⟩, follows.forcing, follows.selected,
    follows.damper⟩
  rw [State.setTach_thermal, Tachs.get_set]
  split
  case isTrue same => rw [← same, check]
  case isFalse => rfl

theorem dutiesFollow_kept : KeptByWork DutiesFollow where
  agrees agree follow := by
    rw [dutiesFollow_iff] at follow ⊢
    rw [agree.thermal, agree.config, agree.fire]
    exact follow
  reset := by
    rw [dutiesFollow_iff]
    exact ⟨⟨fun d => by cases d <;> exact ⟨by decide +kernel, rfl⟩, rfl⟩, rfl, fun d => by cases d <;> rfl, rfl⟩
  advance dt follow := by
    rw [dutiesFollow_iff] at follow ⊢
    exact follow.pass dt
  line n follow := by
    rw [dutiesFollow_iff] at follow ⊢
    exact follow
  silent work follow := by
    rw [dutiesFollow_iff] at follow ⊢
    cases work with
    | chain | cooldown => exact follow
    | releasePulse => exact ⟨⟨follow.channels, follow.cooling⟩, follow.forcing, follow.selected, follow.damper⟩
    | grace => exact follow.setTach (by split <;> rfl)
    | retry faulted => exact follow.setTach (by rw [faulted]; rfl)
    | level => exact follow.setTach rfl
  event {c b w x} work follow := by
    rw [dutiesFollow_iff] at follow ⊢
    rw [State.settle_thermal, State.settle_config, State.settle_fire]
    obtain ⟨ready, forcing, selected, damper⟩ :=
      (work.thermalReady follow.toReady).rederived (sweep := decide (w = .sweep)) (b := b)
    exact ⟨ready, forcing, selected, damper⟩

/-! ### The note of armament kept -/

/-- A settled channel stays armed since the window's start exactly while it is armed (R105). -/
theorem settle_armed_iff (w : Publication) (x : Change) (ch : TachChannel) :
    ((State.settle b w x).thermal.tachs.get ch).armedSinceStart = true ↔
      (x.st.thermal.tachs.get ch).armedSinceStart = true ∧ Armed (State.settle b w x) ch := by
  rw [← State.armed_iff, State.settle_thermal, State.settle_config, rederiveThermal_tach, Bool.and_eq_true]
  exact Iff.rfl

theorem Armed.advance {ch : TachChannel} (a : Armed s ch) (dt : Nat) : Armed (s.advance dt) ch := by
  have tach := ThermalState.pass_tach s.thermal dt ch
  refine a.congr rfl rfl rfl ?_ ?_
  · rw [State.advance_thermal, tach]
    simp [TachRecord.pass, a.grace, Timer.pass]
  · rw [State.advance_thermal, tach]
    rfl

theorem TachRecord.tryAgain_armed (r : TachRecord) (held : Bool) :
    (r.tryAgain held).armedSinceStart = r.armedSinceStart := rfl

/-- A tach record replaced keeps the notes if its own is that of an armed channel. -/
theorem ArmedNoted.setTach {ch : TachChannel} {r : TachRecord} (noted : ArmedNoted b)
    (own : r.armedSinceStart = true → armed b.config b.thermal.forcing b.thermal.channels ch r = true) :
    ArmedNoted (b.setTach ch r) := by
  intro d armed
  by_cases same : ch = d
  · subst same
    have here : (b.setTach ch r).thermal.tachs.get ch = r := by simp
    rw [here] at armed
    rw [← State.armed_iff, here]
    exact own armed
  · have there : (b.setTach ch r).thermal.tachs.get d = b.thermal.tachs.get d := by simp [same]
    rw [there] at armed
    exact (noted d armed).congr rfl rfl rfl (there ▸ (noted d armed).grace) (by rw [there])

theorem armedNoted_kept : KeptByWork ArmedNoted where
  agrees agree noted ch := by
    intro armed
    rw [agree.thermal] at armed
    refine (noted ch armed).congr (by rw [agree.thermal]) (by rw [agree.thermal]) agree.config ?_
      (by rw [agree.thermal])
    rw [agree.thermal]
    exact (noted ch armed).grace
  reset ch armed := by cases ch <;> exact nomatch armed
  advance dt noted ch armed := by
    rw [State.advance_thermal, ThermalState.pass_tach] at armed
    exact (noted ch armed).advance dt
  line n noted ch armed := (noted ch armed).congr rfl rfl rfl (noted ch armed).grace rfl
  silent work noted := by
    cases work with
    | chain | cooldown | releasePulse =>
      exact fun ch armed => (noted ch armed).congr rfl rfl rfl (noted ch armed).grace rfl
    | grace =>
      rename_i b ch
      refine noted.setTach fun armed => ?_
      split at armed
      case isTrue begun =>
        rw [if_pos begun]
        exact armed
      case isFalse running =>
        rw [if_neg running]
        obtain ⟨duty, -, unheld, checked, judged⟩ := noted ch armed
        exact (armed_iff _ _ _ _ _).2 ⟨duty, rfl, unheld, checked, judged⟩
    | retry faulted =>
      rename_i b ch
      refine noted.setTach fun armed => ?_
      have judged := (noted ch ((TachRecord.tryAgain_armed _ _).symm.trans armed)).judged
      simp [faulted] at judged
    | level =>
      rename_i b ch high
      exact noted.setTach fun armed => (State.armed_iff b ch).2 (noted ch armed)
  event work noted ch armed := ((settle_armed_iff _ _ ch).1 armed).2

end

end Sys2Proof.Machine
end

section
/-! The thermal record between the states before and after a command (Chapter 6): demands, active duties, and the grace
and retry timers of the tach channels. -/

namespace Sys2Proof.Machine

/-! ### What a tach channel does in a command (R105, R108) -/

/-- The forcing holds a tach channel at 0. -/
def State.Held (s : State) (ch : TachChannel) : Prop := s.thermal.forcing.get (dutyOf ch) = some 0

/-- The active duty of a tach channel. -/
def State.activeDuty (s : State) (ch : TachChannel) : Nat := (s.thermal.channels.get (dutyOf ch)).active

/-- The active duty of a tach channel rises from 0. -/
def Rises (s t : State) (ch : TachChannel) : Prop := s.activeDuty ch = 0 ∧ 0 < t.activeDuty ch

/-- The retry timer of a tach channel runs out, or a COOLING_RETRY is taken. -/
def Retried (c : Instr) (ch : TachChannel) : Prop := c = .retryTimerExpiry ch ∨ ∃ p, c = .coolingRetry p

/-- R105 and R108 of one tach channel, between the states before and after a command. -/
structure TachMoves (c : Instr) (s t : State) (ch : TachChannel) : Prop where
  noted : ((s.thermal.tachs.get ch).armedSinceStart = true → Armed s ch) → c ≠ .tachWindowEnd →
    c ≠ .graceTimerExpiry ch →
    ((t.thermal.tachs.get ch).armedSinceStart = true ↔
      (s.thermal.tachs.get ch).armedSinceStart = true ∧ Armed t ch)
  caught : ¬ s.Held ch → t.Held ch →
    (t.thermal.tachs.get ch).grace = .stopped ∧
      ∀ n, (s.thermal.tachs.get ch).retry = .running n →
        (t.thermal.tachs.get ch).retry = .paused (n - (t.clock - s.clock))
  freed : s.Held ch → ¬ t.Held ch →
    (t.thermal.tachs.get ch).grace = .running 5000000 ∧
      ∀ n, (s.thermal.tachs.get ch).retry = .paused n → (t.thermal.tachs.get ch).retry = .running n
  rises : (s.Held ch ↔ t.Held ch) → Rises s t ch → (t.thermal.tachs.get ch).grace = .running 5000000
  grace : (s.Held ch ↔ t.Held ch) → ¬ Rises s t ch → ¬ Retried c ch → c ≠ .graceTimerExpiry ch →
    (t.thermal.tachs.get ch).grace = (s.thermal.tachs.get ch).grace.pass (t.clock - s.clock)
  retry : (s.Held ch ↔ t.Held ch) → ¬ Retried c ch → c ≠ .tachWindowEnd →
    (t.thermal.tachs.get ch).retry = (s.thermal.tachs.get ch).retry.pass (t.clock - s.clock)

section
variable {c : Instr} {s t : State} {ch : TachChannel}

/-- A command that leaves forcing and active duties. -/
theorem TachMoves.unforced (forcing : t.thermal.forcing = s.thermal.forcing)
    (channels : t.thermal.channels = s.thermal.channels)
    (noted : ((s.thermal.tachs.get ch).armedSinceStart = true → Armed s ch) → c ≠ .tachWindowEnd →
      c ≠ .graceTimerExpiry ch →
      ((t.thermal.tachs.get ch).armedSinceStart = true ↔
        (s.thermal.tachs.get ch).armedSinceStart = true ∧ Armed t ch))
    (grace : ¬ Retried c ch → c ≠ .graceTimerExpiry ch →
      (t.thermal.tachs.get ch).grace = (s.thermal.tachs.get ch).grace.pass (t.clock - s.clock))
    (retry : ¬ Retried c ch → c ≠ .tachWindowEnd →
      (t.thermal.tachs.get ch).retry = (s.thermal.tachs.get ch).retry.pass (t.clock - s.clock)) :
    TachMoves c s t ch := by
  have held : t.Held ch ↔ s.Held ch := by rw [State.Held, State.Held, forcing]
  have still : ¬ Rises s t ch := by
    rintro ⟨zero, above⟩
    rw [State.activeDuty, channels] at above
    exact absurd zero above.ne'
  exact ⟨noted, fun free caught => absurd (held.1 caught) free, fun caught free => absurd (held.2 caught) free,
    fun _ rises => absurd rises still, fun _ _ => grace, fun _ => retry⟩

/-- A tach record on which only time passes; levels and counts aside. -/
structure TachRecord.TimedOn (dt : Nat) (r r' : TachRecord) : Prop where
  check : r'.check = r.check
  armed : r'.armedSinceStart = r.armedSinceStart
  grace : r'.grace = r.grace.pass dt
  retry : r'.retry = r.retry.pass dt

theorem TachRecord.TimedOn.pass (r : TachRecord) (dt : Nat) : TimedOn dt r (r.pass dt) := ⟨rfl, rfl, rfl, rfl⟩

/-- A tach channel whose record only times on. -/
theorem TachMoves.passed {dt : Nat} (forcing : t.thermal.forcing = s.thermal.forcing)
    (channels : t.thermal.channels = s.thermal.channels) (config : t.config = s.config)
    (clock : t.clock - s.clock = dt)
    (timed : TachRecord.TimedOn dt (s.thermal.tachs.get ch) (t.thermal.tachs.get ch)) : TachMoves c s t ch := by
  subst clock
  refine .unforced forcing channels (fun noted _ _ => ?_) (fun _ _ => timed.grace) fun _ _ => timed.retry
  rw [timed.armed]
  refine ⟨fun was => ⟨was, (noted was).congr (by rw [channels]) forcing config ?_ timed.check⟩, fun both => both.1⟩
  rw [timed.grace, (noted was).grace]
  rfl

/-! ### Silent work -/

theorem SilentWork.tachMoves {dt : Nat} {chain : ChainState} {ports : Ports PortState}
    (work : SilentWork c (s.later dt chain ports) t) (ch : TachChannel) : TachMoves c s t ch := by
  have clock : t.clock - s.clock = dt := by
    rw [work.clock]
    exact Nat.add_sub_cancel_left _ _
  have passed : (s.later dt chain ports).thermal.tachs.get ch = (s.thermal.tachs.get ch).pass dt :=
    ThermalState.pass_tach _ _ _
  have timed : TachRecord.TimedOn dt (s.thermal.tachs.get ch) ((s.later dt chain ports).thermal.tachs.get ch) :=
    passed ▸ .pass _ dt
  have other {d : TachChannel} {r : TachRecord} (ne : d ≠ ch) : TachRecord.TimedOn dt (s.thermal.tachs.get ch)
      (((s.later dt chain ports).setTach d r).thermal.tachs.get ch) := by
    rw [State.setTach_thermal, Tachs.get_set, if_neg ne]
    exact timed
  have own {r : TachRecord} : ((s.later dt chain ports).setTach ch r).thermal.tachs.get ch = r := by simp
  cases work with
  | chain | cooldown | releasePulse => exact .passed rfl rfl rfl clock timed
  | @level d high =>
    by_cases same : d = ch
    · subst same
      exact .passed rfl rfl rfl clock (by rw [own]; exact ⟨timed.check, timed.armed, timed.grace, timed.retry⟩)
    · exact .passed rfl rfl rfl clock (other same)
  | @grace d =>
    by_cases same : d = ch
    · subst same
      refine .unforced rfl rfl (fun _ _ other => absurd rfl other) (fun _ other => absurd rfl other) fun _ _ => ?_
      rw [clock, own]
      split <;> exact timed.retry
    · exact .passed rfl rfl rfl clock (other same)
  | @retry d _ faulted =>
    by_cases same : d = ch
    · subst same
      refine .unforced rfl rfl (fun noted _ _ => ?_) (fun other => absurd (.inl rfl) other)
        fun other => absurd (.inl rfl) other
      rw [own, TachRecord.tryAgain_armed, timed.armed]
      refine ⟨fun was => ?_, fun both => both.1⟩
      rw [timed.check] at faulted
      rcases (noted was).judged with healthy | trying
      · exact absurd (healthy.symm.trans faulted) (by decide)
      · exact absurd (trying.symm.trans faulted) (by decide)
    · exact .passed rfl rfl rfl clock (other same)

/-! ### Events -/

/-- The tach record that the work of an event hands to the settling: as it was; or, in an event that leaves the forcing,
retried or judged. -/
inductive TachWork (c : Instr) (b u : State) (ch : TachChannel) : TachRecord → Prop
  | same : TachWork c b u ch (b.thermal.tachs.get ch)
  | retried {r : TachRecord} (retry : ∃ p, c = .coolingRetry p) (forcing : u.thermal.forcing = b.thermal.forcing)
      (armed : r.armedSinceStart = (b.thermal.tachs.get ch).armedSinceStart) : TachWork c b u ch r
  | judged {r : TachRecord} (window : c = .tachWindowEnd) (forcing : u.thermal.forcing = b.thermal.forcing)
      (grace : r.grace = (b.thermal.tachs.get ch).grace) : TachWork c b u ch r

/-- A settled tach channel: its record as its work has left it follows the forcing and the active duty. -/
structure TachSettled (c : Instr) (b u : State) (ch : TachChannel) (r : TachRecord) : Prop where
  work : TachWork c b u ch r
  grace : (u.thermal.tachs.get ch).grace =
    (r.follow (heldAtZero b.thermal.forcing ch) (heldAtZero u.thermal.forcing ch) (b.activeDuty ch)
      (u.activeDuty ch)).grace
  retry : (u.thermal.tachs.get ch).retry =
    (r.follow (heldAtZero b.thermal.forcing ch) (heldAtZero u.thermal.forcing ch) (b.activeDuty ch)
      (u.activeDuty ch)).retry
  noted : (u.thermal.tachs.get ch).armedSinceStart = true ↔ r.armedSinceStart = true ∧ Armed u ch

theorem TachRecord.follow_still (r : TachRecord) (held : Bool) (duty : Nat) : r.follow held held duty duty = r := by
  have still : ¬ (duty = 0 ∧ 0 < duty) := by omega
  cases held <;> simp [TachRecord.follow, still]

section
variable {b : State} {w : Publication} {x : Change}

theorem State.settle_tach (b : State) (w : Publication) (x : Change) (ch : TachChannel) :
    ((State.settle b w x).thermal.tachs.get ch).grace =
      ((x.st.thermal.tachs.get ch).follow (heldAtZero x.st.thermal.forcing ch)
        (heldAtZero (State.settle b w x).thermal.forcing ch) (x.st.activeDuty ch)
        ((State.settle b w x).activeDuty ch)).grace ∧
    ((State.settle b w x).thermal.tachs.get ch).retry =
      ((x.st.thermal.tachs.get ch).follow (heldAtZero x.st.thermal.forcing ch)
        (heldAtZero (State.settle b w x).thermal.forcing ch) (x.st.activeDuty ch)
        ((State.settle b w x).activeDuty ch)).retry := by
  rw [State.activeDuty, State.activeDuty, State.settle_thermal, rederiveThermal_tach]
  exact ⟨rfl, rfl⟩

theorem State.settle_forcing (b : State) (w : Publication) (x : Change) :
    (State.settle b w x).thermal.forcing = fireForcing x.st.fire.status x.st.fire.causes := by
  rw [State.settle_thermal, rederiveThermal_forcing]

/-- An event that leaves the fire controller leaves the forcing. -/
theorem State.settle_forcing_same (follow : DutiesFollow b) (fire : x.st.fire = b.fire) :
    (State.settle b w x).thermal.forcing = b.thermal.forcing := by
  rw [State.settle_forcing, fire]
  exact ((dutiesFollow_iff b).1 follow).forcing.symm

theorem periodStart_settled {b : State} {w : Publication} {x : Change} (follow : DutiesFollow b)
    (started : x.st = { b with thermal := b.thermal.periodStart b.config }) :
    (State.settle b w x).thermal.forcing = b.thermal.forcing ∧
    ∀ d, ((State.settle b w x).thermal.channels.get d).active = (b.thermal.channels.get d).shadow := by
  have forcing : (State.settle b w x).thermal.forcing = b.thermal.forcing :=
    State.settle_forcing_same follow (by rw [started])
  refine ⟨forcing, fun d => ?_⟩
  have kept : x.st.thermal.forcing = b.thermal.forcing := by
    rw [started]
    rfl
  rw [State.settle_thermal, rederiveThermal_active, ← State.settle_thermal, forcing, kept, if_neg (not_not.2 rfl),
    started, periodStart_channel]

/-- The active duties of a settled event (R95, R103). -/
theorem EventWork.activeDuties {c : Instr} (work : EventWork c b w x) (d : DutyChannel) :
    (b.thermal.forcing.get d ≠ (State.settle b w x).thermal.forcing.get d →
      ((State.settle b w x).thermal.channels.get d).active =
        ((State.settle b w x).thermal.channels.get d).selected) ∧
    (b.thermal.forcing.get d = (State.settle b w x).thermal.forcing.get d → c ≠ .pwmPeriodStart →
      ((State.settle b w x).thermal.channels.get d).active = (b.thermal.channels.get d).active) := by
  have active := rederiveThermal_active (decide (w = .sweep)) b x.st d
  rw [← State.settle_thermal] at active
  have forcing : x.st.thermal.forcing = b.thermal.forcing := by
    rcases work.thermal with ⟨-, started⟩ | thermal
    · rw [started]
      rfl
    · exact thermal.forcing
  rw [forcing] at active
  refine ⟨fun changed => by rw [active, if_pos changed], fun same other => ?_⟩
  rw [active, if_neg (not_not.2 same)]
  rcases work.thermal with ⟨started, -⟩ | thermal
  · exact absurd started other
  · exact thermal.active d

theorem selectedDuty_zero (configured : Bool) (r : ChannelRecord) : selectedDuty configured (some 0) r = 0 := by
  cases configured <;> rfl

/-- The active duty of a channel that the forcing holds at 0 does not rise (R103). -/
theorem EventWork.held_stays {c : Instr} (work : EventWork c b w x) (follow : DutiesFollow b) {ch : TachChannel}
    (held : (State.settle b w x).Held ch) : ¬ Rises b (State.settle b w x) ch := by
  rintro ⟨zero, above⟩
  have after := (dutiesFollow_iff _).1 (dutiesFollow_kept.event work follow)
  have settled : ((State.settle b w x).thermal.channels.get (dutyOf ch)).selected = 0 := by
    rw [after.selected, held, selectedDuty_zero]
  obtain ⟨changed, same⟩ := work.activeDuties (dutyOf ch)
  rw [State.activeDuty] at above
  by_cases forcing : b.thermal.forcing.get (dutyOf ch) = (State.settle b w x).thermal.forcing.get (dutyOf ch)
  · rcases work.thermal with ⟨-, started⟩ | thermal
    · have before := (dutiesFollow_iff _).1 follow
      rw [(periodStart_settled follow started).2, (before.channels _).shadow, before.selected, forcing, held,
        selectedDuty_zero] at above
      exact absurd above (lt_irrefl 0)
    · have active : ((State.settle b w x).thermal.channels.get (dutyOf ch)).active =
          (b.thermal.channels.get (dutyOf ch)).active := by
        rw [State.settle_thermal, rederiveThermal_active, ← State.settle_thermal, thermal.forcing,
          if_neg (not_not.2 forcing), thermal.active]
      rw [active] at above
      exact absurd zero above.ne'
  · rw [changed forcing, settled] at above
    exact absurd above (lt_irrefl 0)

theorem EventWork.tachSettled {c : Instr} (work : EventWork c b w x) (follow : DutiesFollow b) (ch : TachChannel) :
    ∃ r, TachSettled c b (State.settle b w x) ch r := by
  obtain ⟨grace, retry⟩ := State.settle_tach b w x ch
  have noted := settle_armed_iff w x ch (b := b)
  rcases work.thermal with ⟨-, started⟩ | thermal
  · obtain ⟨forcing, active⟩ := periodStart_settled follow started (w := w)
    have duty : (State.settle b w x).activeDuty ch = x.st.activeDuty ch := by
      rw [State.activeDuty, active, started, State.activeDuty, periodStart_channel]
    have tach := periodStart_tach b.thermal b.config ch
    have held : heldAtZero x.st.thermal.forcing ch = heldAtZero b.thermal.forcing ch := by
      rw [started]
      rfl
    rw [forcing, held, duty, TachRecord.follow_still] at grace retry
    refine ⟨b.thermal.tachs.get ch, .same, ?_, ?_, ?_⟩
    · rw [forcing, duty, grace, started, tach]
      rfl
    · rw [forcing, duty, retry, started, tach]
      rfl
    · rw [noted, started, tach, Bool.and_eq_true, (TachRecord.follow_keeps _ _ _ _ _).2, and_assoc]
      refine and_congr_right fun _ => and_iff_right_of_imp fun a => (armed_iff _ _ _ _ _).2 ?_
      have config : (State.settle b w x).config = b.config := by
        rw [State.settle_config, started]
      have check : ((State.settle b w x).thermal.tachs.get ch).check =
          ((b.thermal.periodStart b.config).tachs.get ch).check := by
        rw [State.settle_thermal, rederiveThermal_checks, started]
      have runOut := grace.symm.trans a.grace
      have duty := a.duty
      have judged := a.judged
      rw [active] at duty
      rw [started, tach] at runOut
      rw [check, tach] at judged
      refine ⟨by rwa [periodStart_channel], runOut, forcing ▸ a.unheld, config ▸ a.checked, judged⟩
  · have held : heldAtZero x.st.thermal.forcing ch = heldAtZero b.thermal.forcing ch := by rw [thermal.forcing]
    have duty : x.st.activeDuty ch = b.activeDuty ch := thermal.active _
    rw [held, duty] at grace retry
    refine ⟨x.st.thermal.tachs.get ch, ?_, grace, retry, noted⟩
    rcases thermal.tachs with ⟨same, -⟩ | ⟨fire, -, ⟨retried, armed⟩ | ⟨window, graces⟩⟩
    · rw [same]
      exact .same
    · exact .retried retried (State.settle_forcing_same follow fire) (armed ch)
    · exact .judged window (State.settle_forcing_same follow fire) (graces ch)

end

/-! ### The tach channels through every command -/

theorem heldAtZero_iff (s : State) (ch : TachChannel) : heldAtZero s.thermal.forcing ch = true ↔ s.Held ch := by
  simp [heldAtZero, State.Held]

section
variable {r : TachRecord} {was held : Bool} {old new : Nat}

theorem TachRecord.follow_caught : r.follow false true old new = r.suspend := rfl

theorem TachRecord.follow_freed : r.follow true false old new = r.resume := rfl

theorem TachRecord.follow_rises (zero : old = 0) (above : 0 < new) :
    r.follow held held old new = r.startGrace held := by
  cases held <;> simp [TachRecord.follow, zero, above]

theorem TachRecord.follow_level (level : ¬ (old = 0 ∧ 0 < new)) : r.follow held held old new = r := by
  cases held <;> simp [TachRecord.follow, level]

/-- Without a change of the forcing the retry timer is left. -/
theorem TachRecord.follow_retry : (r.follow held held old new).retry = r.retry := by
  by_cases rises : old = 0 ∧ 0 < new
  · rw [TachRecord.follow_rises rises.1 rises.2]
    rfl
  · rw [TachRecord.follow_level rises]

end

theorem TachSettled.moves {dt : Nat} {b u : State} {r : TachRecord} (settled : TachSettled c b u ch r)
    (tach : b.thermal.tachs.get ch = (s.thermal.tachs.get ch).pass dt) (forcing : b.thermal.forcing = s.thermal.forcing)
    (duty : b.activeDuty ch = s.activeDuty ch) (clock : u.clock - s.clock = dt)
    (unraised : u.Held ch → ¬ Rises b u ch) : TachMoves c s u ch := by
  have heldBefore : s.Held ch ↔ heldAtZero b.thermal.forcing ch = true := by
    rw [heldAtZero_iff, State.Held, State.Held, forcing]
  have heldAfter := (heldAtZero_iff u ch).symm
  have same (held : s.Held ch ↔ u.Held ch) :
      heldAtZero b.thermal.forcing ch = heldAtZero u.thermal.forcing ch :=
    Bool.eq_iff_iff.2 (heldBefore.symm.trans (held.trans heldAfter))
  have risesBefore : Rises b u ch ↔ Rises s u ch := by rw [Rises, Rises, duty]
  obtain ⟨work, grace, retry, noted⟩ := settled
  refine ⟨fun _ _ _ => ?noted, fun free caught => ?caught, fun caught free => ?freed, fun held rises => ?rises,
    fun held level other expiry => ?grace, fun held other window => ?retry⟩
  case noted =>
    rw [noted]
    refine and_congr_left fun _ => ?_
    cases work with
    | same => rw [tach]; exact Iff.rfl
    | retried _ _ armed => rw [armed, tach]; exact Iff.rfl
    | judged window => contradiction
  case caught =>
    rw [Bool.eq_false_iff.2 (mt heldBefore.2 free), heldAfter.1 caught, TachRecord.follow_caught] at grace retry
    have unchanged : r = b.thermal.tachs.get ch := by
      cases work with
      | same => rfl
      | retried _ still | judged _ still =>
        rw [State.Held, still, forcing] at caught
        exact absurd caught free
    refine ⟨grace, fun n running => ?_⟩
    rw [retry, unchanged, tach, clock]
    simp [TachRecord.suspend, TachRecord.pass, running, Timer.pass]
  case freed =>
    rw [heldBefore.1 caught, Bool.eq_false_iff.2 (mt heldAfter.2 free), TachRecord.follow_freed] at grace retry
    have unchanged : r = b.thermal.tachs.get ch := by
      cases work with
      | same => rfl
      | retried _ still | judged _ still =>
        rw [State.Held, still, forcing] at free
        exact absurd caught free
    refine ⟨grace, fun n paused => ?_⟩
    rw [retry, unchanged, tach]
    simp [TachRecord.resume, TachRecord.pass, paused, Timer.pass]
  case rises =>
    have free : heldAtZero u.thermal.forcing ch = false :=
      Bool.eq_false_iff.2 fun caught => unraised (heldAfter.2 caught) (risesBefore.2 rises)
    obtain ⟨zero, above⟩ := risesBefore.2 rises
    rw [grace, same held, TachRecord.follow_rises zero above, free]
    rfl
  case grace =>
    rw [grace, same held, TachRecord.follow_level (mt risesBefore.1 level), clock]
    cases work with
    | same => rw [tach]; rfl
    | retried retry => exact absurd (.inr retry) other
    | judged _ _ grace => rw [grace, tach]; rfl
  case retry =>
    rw [retry, same held, TachRecord.follow_retry, clock]
    cases work with
    | same => rw [tach]; rfl
    | retried retry => exact absurd (.inr retry) other
    | judged _ => contradiction

theorem Agrees.tachMoves {u : State} (agrees : Agrees u t) (clock : t.clock = u.clock) (moves : TachMoves c s u ch) :
    TachMoves c s t ch := by
  have armed : Armed t ch ↔ Armed u ch := by
    rw [← State.armed_iff, ← State.armed_iff, agrees.thermal, agrees.config]
  obtain ⟨noted, caught, freed, rises, grace, retry⟩ := moves
  unfold State.Held Rises State.activeDuty at *
  constructor <;> simp only [State.Held, Rises, State.activeDuty, agrees.thermal, armed, clock] <;> assumption

theorem Moves.tachMoves (moves : Moves c s t) (follow : DutiesFollow s) (ch : TachChannel) : TachMoves c s t ch := by
  cases moves with
  | still agrees clock =>
    refine .passed (dt := 0) (by rw [agrees.thermal]) (by rw [agrees.thermal]) agrees.config
      (by rw [clock, Nat.sub_self]) ?_
    rw [agrees.thermal]
    simpa using TachRecord.TimedOn.pass (s.thermal.tachs.get ch) 0
  | silent line work => exact work.tachMoves ch
  | @event dt chain ports w x _ line work agrees clock =>
    have later : DutiesFollow (s.later dt chain ports) := by
      rw [dutiesFollow_iff] at follow ⊢
      exact follow.pass dt
    obtain ⟨r, settled⟩ := work.tachSettled later ch
    refine agrees.tachMoves clock (settled.moves (ThermalState.pass_tach _ _ _) rfl rfl ?_ (work.held_stays later))
    rw [State.settle_clock, work.clock]
    exact Nat.add_sub_cancel_left _ _

/-! ### The demands (R99 to R101) -/

theorem Connection.isClosed_iff (n : Connection) : n.isClosed = true ↔ n = .closed := by
  cases n <;> simp [Connection.isClosed]

theorem demandDue_iff (sweep : Bool) (b x : State) :
    demandDue sweep b x = true ↔
      sweep = true ∨ x.table.dataLoss ≠ b.table.dataLoss ∨
        ¬ (x.conn.connection = .closed ↔ b.conn.connection = .closed) ∨
        ¬ (x.fire.status = .quiet ↔ b.fire.status = .quiet) ∨ x.config.configured ≠ b.config.configured := by
  have closed : b.conn.connection.isClosed ≠ x.conn.connection.isClosed ↔
      ¬ (x.conn.connection = .closed ↔ b.conn.connection = .closed) := by
    rw [← Connection.isClosed_iff, ← Connection.isClosed_iff, ← Bool.eq_iff_iff, ne_comm]
  have quiet : ((b.fire.status = .quiet) ≠ (x.fire.status = .quiet)) ↔
      ¬ (x.fire.status = .quiet ↔ b.fire.status = .quiet) := by rw [ne_comm, Ne, eq_iff_iff]
  simp only [demandDue, Bool.or_eq_true, decide_eq_true_iff, closed, quiet, or_assoc, ne_comm]

/-- R100's table. -/
theorem DemandsFollow.of_automatic {blind : Nat}
    (automatic : ∀ c, (t.thermal.channels.get c).automatic =
      automaticDemand blind t.table.dataLoss.holds t.conn.connection.isClosed t.fire.status t.thermal.fanDemand
        t.thermal.heaterOn c) : DemandsFollow t blind := by
  refine ⟨fun c fan => ?_, ?_, automatic .exhaust, ?_⟩
  · rcases fan with rfl | rfl
    · exact automatic .fanA
    · exact automatic .fanB
  · refine (automatic .pump).trans ?_
    simp only [automaticDemand, Connection.isClosed_iff]
  · refine (automatic .heater).trans ?_
    simp only [automaticDemand]
    cases t.table.dataLoss.holds <;> simp

/-- The events in which the automatic demands are derived afresh (R100). -/
def DemandEvent (s t : State) : Prop :=
  t.chain.sweepNumber ≠ s.chain.sweepNumber ∨ t.table.dataLoss ≠ s.table.dataLoss ∨
  ¬ (t.conn.connection = .closed ↔ s.conn.connection = .closed) ∨
  ¬ (t.fire.status = .quiet ↔ s.fire.status = .quiet) ∨ t.config.configured ≠ s.config.configured

/-- The demands between the states before and after a command. -/
structure DemandMoves (s t : State) : Prop where
  due : DemandEvent s t → DemandsFollow t s.config.blindDuty
  still : ¬ DemandEvent s t → ∀ d, (t.thermal.channels.get d).automatic = (s.thermal.channels.get d).automatic
  measured : t.chain.sweepNumber ≠ s.chain.sweepNumber → MeasuredBy s.config t.table.aggregates s.thermal t.thermal
  kept : ¬ t.chain.sweepNumber ≠ s.chain.sweepNumber → s.config.configured = true ∨ t.config.configured = false →
    t.thermal.fanDemand = s.thermal.fanDemand ∧ t.thermal.heaterOn = s.thermal.heaterOn

/-- A command that is no event of the part leaves the demands. -/
theorem DemandMoves.unmoved (number : t.chain.sweepNumber = s.chain.sweepNumber)
    (loss : t.table.dataLoss = s.table.dataLoss) (connection : t.conn.connection = s.conn.connection)
    (status : t.fire.status = s.fire.status) (config : t.config = s.config)
    (automatic : ∀ d, (t.thermal.channels.get d).automatic = (s.thermal.channels.get d).automatic)
    (fan : t.thermal.fanDemand = s.thermal.fanDemand) (heater : t.thermal.heaterOn = s.thermal.heaterOn) :
    DemandMoves s t := by
  have still : ¬ DemandEvent s t := by simp [DemandEvent, number, loss, connection, status, config]
  exact ⟨fun due => absurd due still, fun _ => automatic, fun moved => absurd number moved, fun _ _ => ⟨fan, heater⟩⟩

theorem fanDemandOf_eq (c : ConfigSet) (tmax : Option (Int × Nat)) :
    fanDemandOf c.fanCurve tmax = fanDemandFor c tmax := by
  have raw (t : Int) : (curveAt c.fanCurve (fun _ => 0) t).toNat =
      if t < (c.fanCurve.headD (0, 0)).1 then 0 else (envelopeCurve c.fanCurve t).toNat := by
    unfold envelopeCurve curveAt
    cases c.fanCurve with
    | nil => exact (ite_self _).symm
    | cons first rest =>
      obtain ⟨t0, y0⟩ := first
      simp only [List.headD_cons]
      split <;> rfl
  unfold fanDemandOf fanDemandFor
  cases tmax with
  | none => rfl
  | some held => simp only [raw, minimumDuty]

/-- Fan demand and heater state follow the snapshot (R99, R101). -/
theorem MeasuredBy.of_measured {c : ConfigSet} {a : Aggregates} {before after : ThermalState}
    (fan : after.fanDemand = fanDemandOf c.fanCurve a.tmax)
    (heater : after.heaterOn = heaterAfter c a.tmin before.heaterOn) : MeasuredBy c a before after := by
  refine ⟨fan.trans (fanDemandOf_eq c a.tmax), fun absent => ?_, fun t i some cold => ?_, fun t i some warm hot => ?_,
    fun t i some warm cool => ?_⟩
  · rw [heater, absent]
    rfl
  · rw [heater, some, heaterAfter, if_pos cold]
  · rw [heater, some, heaterAfter, if_neg (not_lt.2 warm), if_pos hot]
  · rw [heater, some, heaterAfter, if_neg (not_lt.2 warm), if_neg (not_le.2 cool)]

/-- Fan demand and heater state are written at a sweep completion and at an acceptance. -/
theorem EventWork.demand_cases {c : Instr} {b : State} {w : Publication} {x : Change} (work : EventWork c b w x) :
    w = .sweep ∧ MeasuredBy b.config x.st.table.aggregates b.thermal x.st.thermal ∨
    w ≠ .sweep ∧ (x.st.thermal.fanDemand = b.thermal.fanDemand ∧ x.st.thermal.heaterOn = b.thermal.heaterOn ∨
      b.config.configured = false ∧ x.st.config.configured = true) := by
  cases work with
  | sweep =>
    refine .inl ⟨rfl, .of_measured ?_ ?_⟩
    all_goals
      simp only [State.completion_thermal, State.completion_table, State.measured, State.measureThermal,
        State.evaluateWatch_keeps, State.takeSweep_keeps]
      rfl
  | configAccept unconfigured => exact .inr ⟨fun h => (nomatch h), .inr ⟨unconfigured, rfl⟩⟩
  | configWrite =>
    refine .inr ⟨fun sweep => ?_, .inl ?_⟩
    · unfold writePublication at sweep
      split at sweep <;> exact nomatch sweep
    · simp only [Change.andThen_st, Change.quiet_st, State.storeItem_keeps, State.leaveConfigured_thermal]
      split <;> exact ⟨rfl, rfl⟩
  | connect | coolingManual | coolingAuto | coolingRetry | windowEnd | releaseNow | countdown | periodStart =>
    exact .inr ⟨fun h => (nomatch h), .inl ⟨rfl, rfl⟩⟩
  | _ => exact .inr ⟨fun h => (nomatch h), .inl (by simp)⟩

theorem EventWork.automatic {c : Instr} {b : State} {w : Publication} {x : Change} (work : EventWork c b w x)
    (d : DutyChannel) : (x.st.thermal.channels.get d).automatic = (b.thermal.channels.get d).automatic := by
  rcases work.thermal with ⟨-, started⟩ | thermal
  · rw [started, periodStart_channel]
  · exact thermal.automatic d

/-- The demands of a settled event follow it (R99 to R101). -/
theorem EventWork.demandMoves {c : Instr} {b : State} {w : Publication} {x : Change} (work : EventWork c b w x) :
    DemandMoves b (State.settle b w x) := by
  have number : (State.settle b w x).chain.sweepNumber ≠ b.chain.sweepNumber ↔ w = .sweep := by
    rw [State.settle_chain, work.sweepNumber]
    split
    case isTrue sweep => exact iff_of_true (serial_succ_ne _) sweep
    case isFalse other => exact iff_of_false (not_not.2 rfl) other
  have due : DemandEvent b (State.settle b w x) ↔ demandDue (decide (w = .sweep)) b x.st = true := by
    rw [demandDue_iff, decide_eq_true_iff, DemandEvent, number, State.settle_table, State.settle_conn,
      State.settle_fire, State.settle_config]
    exact Iff.rfl
  have automatic := rederiveThermal_automatic (decide (w = .sweep)) b x.st
  have measured := rederiveThermal_measured (decide (w = .sweep)) b x.st
  refine ⟨fun event => .of_automatic fun d => ?_, fun still d => ?_, fun sweep => ?_, fun other kept => ?_⟩
  · rw [State.settle_thermal, automatic, if_pos (due.1 event), State.settle_table, State.settle_conn,
      State.settle_fire]
    rfl
  · rw [State.settle_thermal, automatic, if_neg (mt due.2 still)]
    exact work.automatic d
  · rcases work.demand_cases with ⟨-, follows⟩ | ⟨other, -⟩
    · rw [State.settle_table, State.settle_thermal]
      exact ⟨follows.fan, follows.absent, follows.cold, follows.warm, follows.between⟩
    · exact absurd (number.1 sweep) other
  · rcases work.demand_cases with ⟨sweep, -⟩ | ⟨-, same | ⟨unconfigured, accepted⟩⟩
    · exact absurd (number.2 sweep) other
    · rw [State.settle_thermal]
      exact same
    · rw [State.settle_config, unconfigured, accepted] at kept
      exact absurd kept (by decide)

theorem Agrees.demandsFollow {u : State} {blind : Nat} (agrees : Agrees u t) (follow : DemandsFollow u blind) :
    DemandsFollow t blind := by
  obtain ⟨fans, pump, exhaust, heater⟩ := follow
  constructor <;> rw [agrees.thermal]
  · rwa [agrees.table]
  · rwa [agrees.table, agrees.conn]
  · exact exhaust
  · rwa [agrees.table, agrees.fire]

theorem Moves.demandMoves {c : Instr} (moves : Moves c s t) : DemandMoves s t := by
  cases moves with
  | still agrees clock =>
    refine .unmoved ?_ ?_ ?_ ?_ agrees.config (fun d => ?_) ?_ ?_
    · rw [agrees.chain]
    · rw [agrees.table]
    · rw [agrees.conn]
    · rw [agrees.fire]
    all_goals rw [agrees.thermal]
  | silent line work =>
    have thermal : ∀ d, (t.thermal.channels.get d).automatic = (s.thermal.channels.get d).automatic := by
      cases work <;> exact fun d => rfl
    obtain ⟨cooldown, conn⟩ := work.conn
    refine .unmoved (work.sweepNumber.trans line.sweepNumber) ?_ ?_ ?_ work.config thermal ?_ ?_
    · rw [work.table]
      rfl
    · rw [conn]
      rfl
    · rw [work.fire]
      rfl
    · cases work <;> rfl
    · cases work <;> rfl
  | @event dt chain ports w x _ line work agrees clock =>
    have number : chain.sweepNumber = s.chain.sweepNumber := line.sweepNumber
    obtain ⟨due, still, measured, kept⟩ := work.demandMoves
    unfold DemandEvent at due still
    constructor <;> simp only [DemandEvent, agrees.chain, agrees.table, agrees.conn, agrees.fire, agrees.config,
      agrees.thermal, ← number]
    · exact fun event => agrees.demandsFollow (due event)
    · exact still
    · intro sweep
      obtain ⟨fan, absent, cold, warm, between⟩ := measured sweep
      exact ⟨fan, absent, cold, warm, between⟩
    · exact kept

/-! ### The active duties (R95, R103) -/

/-- The active duty of a channel takes the selected duty at a change of the forcing, and stays in any other event but a
period start. -/
structure DutyMoves (c : Instr) (s t : State) (d : DutyChannel) : Prop where
  forced : s.thermal.forcing.get d ≠ t.thermal.forcing.get d →
    (t.thermal.channels.get d).active = (t.thermal.channels.get d).selected
  unforced : s.thermal.forcing.get d = t.thermal.forcing.get d → c ≠ .pwmPeriodStart →
    (t.thermal.channels.get d).active = (s.thermal.channels.get d).active

theorem DutyMoves.unmoved {c : Instr} {d : DutyChannel} (forcing : t.thermal.forcing = s.thermal.forcing)
    (channels : t.thermal.channels = s.thermal.channels) : DutyMoves c s t d :=
  ⟨fun changed => absurd (by rw [forcing]) changed, fun _ _ => by rw [channels]⟩

theorem Moves.dutyMoves {c : Instr} (moves : Moves c s t) (d : DutyChannel) : DutyMoves c s t d := by
  cases moves with
  | still agrees => exact .unmoved (by rw [agrees.thermal]) (by rw [agrees.thermal])
  | silent line work => cases work <;> exact .unmoved rfl rfl
  | event line work agrees =>
    obtain ⟨forced, unforced⟩ := work.activeDuties d
    constructor <;> rw [agrees.thermal]
    · exact forced
    · exact unforced

end

/-- Settles O59: the thermal record derived at the end of every event (`ThermalState.Ready.rederived`), and what each
command does to the demands, the active duties and the tach channels. -/
theorem dutiesStayFollowed : Obligations.DutiesStayFollowed := by
  unfold Obligations.DutiesStayFollowed
  refine ⟨fun s t follow stepped => ⟨dutiesFollow_kept.step stepped follow, armedNoted_kept.step stepped⟩,
    fun s => rfl, fun c s t notReset notEnd follow executed => ?_⟩
  have moves := exec_moves notReset notEnd executed
  obtain ⟨due, still, measured, kept⟩ := moves.demandMoves
  refine ⟨due, still, measured, kept, fun d => ?_, fun ch => ?_⟩
  · obtain ⟨forced, unforced⟩ := moves.dutyMoves d
    exact ⟨forced, unforced⟩
  · obtain ⟨noted, caught, freed, rises, grace, retry⟩ := moves.tachMoves follow ch
    exact ⟨noted, caught, freed, rises, grace, retry⟩

end Sys2Proof.Machine
end

section
/-! The block and its queue: steps, the passing of time, power-on reset, and commands whose event cannot occur. -/

namespace Sys2Proof.Machine

/-! ### Steps -/

/-- Settles O1: it is the step's own equation. -/
theorem stepRunsFrontCommand : Obligations.StepRunsFrontCommand := by
  intro c rest s pending
  unfold step
  rw [pending]

theorem step_of_empty {s : State} (empty : s.pending = []) : step s = .next (s.running fun s => s.advance 1) := by
  unfold step
  rw [empty]
  rfl

/-- Settles O2: `State.advance` by one microsecond, block by block. -/
theorem emptyQueuePassesTime : Obligations.EmptyQueuePassesTime := by
  refine ⟨fun s empty => ⟨fun held => ?_, fun running => ?_⟩, fun n dt => ⟨rfl, rfl, rfl, rfl⟩⟩
  · rw [step_of_empty empty, State.running, if_pos held]
  · rw [step_of_empty empty, State.running_of s running]
    exact ⟨_, rfl, rfl, empty, running, rfl, rfl, rfl, rfl, rfl, rfl, rfl, rfl, rfl, rfl, rfl⟩

/-! ### Every command (log entries 3 and 25) -/

theorem EventWork.pending {c : Instr} {b : State} {w : Publication} {x : Change} (work : EventWork c b w x) :
    x.st.pending = b.pending := by
  cases work <;> simp

theorem SilentWork.pending {c : Instr} {b u : State} (work : SilentWork c b u) : u.pending = b.pending := by
  cases work <;> rfl

theorem Began.pending {s b : State} (began : Began s b) : b.pending = s.pending := by
  cases began <;> rfl

theorem Leaves.pending {c : Instr} {s t : State} (leaves : Leaves c s t) : t.pending = s.pending := by
  cases leaves with
  | asIs | line | answered => rfl
  | silent began work => exact work.pending.trans began.pending
  | event began work => exact (State.settle_pending _ _ _).trans (work.pending.trans began.pending)
  | requested none work =>
    rw [State.respond_pending, State.settle_pending, work.pending]
    rfl

theorem exec_completes (c : Instr) (s : State) : ∃ t, exec c s = .next t := by
  cases c <;> exact ⟨_, rfl⟩

/-- Settles O3: every arm of `exec` answers a next state, and no work touches the queue (`Leaves.pending`). -/
theorem everyCommandCompletesAndKeepsQueue : Obligations.EveryCommandCompletesAndKeepsQueue := by
  intro c s
  obtain ⟨t, executed⟩ := exec_completes c s
  refine ⟨t, executed, ?_⟩
  by_cases reset : c = .powerOnReset
  · subst reset
    exact Host.Outcome.next.inj executed ▸ rfl
  by_cases ended : c = .powerOnResetEnd
  · subst ended
    exact Host.Outcome.next.inj executed ▸ rfl
  exact (exec_leaves reset ended executed).pending

/-! ### Power-on reset -/

/-- Every duty output is low at reset (R94, R186). -/
theorem outputs_reset : Channels.of State.reset.thermal.outputHigh = ⟨false, false, false, false, false⟩ :=
  Channels.ext_get fun c => by cases c <;> decide +kernel

/-- Settles O4: the arms of the two resets, and `exec_of_resetHeld`. -/
theorem powerOnResetGivesResetState : Obligations.PowerOnResetGivesResetState := by
  refine ⟨fun s => ⟨rfl, rfl, ?_⟩, fun c s held notReset notEnd => exec_of_resetHeld held notReset notEnd⟩
  unfold State.lines
  rw [← outputs_reset]
  rfl

/-- Settles O5: the reset state, block by block. -/
theorem resetValuesOfEveryBlock : Obligations.ResetValuesOfEveryBlock := by
  refine
    ⟨rfl, rfl, rfl, rfl, rfl, rfl, rfl, rfl, rfl, rfl, rfl, rfl, rfl, rfl, rfl, rfl, rfl, rfl, rfl, rfl, rfl,
    rfl, rfl, rfl, rfl, rfl, rfl, rfl, rfl, rfl, rfl, rfl, rfl, rfl, rfl, rfl, rfl, rfl, rfl, rfl, rfl, rfl,
    rfl, rfl, fun c => ?channel, fun ch => ?tach, rfl, rfl, rfl, rfl, rfl, rfl, rfl, rfl, rfl, rfl, rfl, rfl,
    fun k => ?contactor, rfl, rfl, rfl, rfl, rfl, rfl, rfl, rfl, rfl, rfl, rfl, rfl, rfl, rfl, rfl, fun p =>
    ?port, rfl, rfl, rfl⟩
  case channel => cases c <;> exact ⟨rfl, rfl⟩
  case tach => cases ch <;> exact ⟨rfl, rfl, rfl, rfl, rfl, rfl, rfl⟩
  case contactor => cases k <;> exact ⟨rfl, rfl, rfl⟩
  case port => cases p <;> exact ⟨rfl, rfl, rfl, rfl, rfl, rfl, rfl, rfl, rfl, rfl, rfl, rfl, rfl⟩

/-- Settles O54: what every step keeps holds at reset. -/
theorem resetStateIsSound : Obligations.ResetStateIsSound :=
  ⟨gatesHold_kept.reset, withinCaps_kept.reset, itemsSound_reset, ratedUnderGates_kept.reset.2.2, stackSound_kept.reset,
    connectionSound_kept.reset, permissionFollows_kept.reset, fireSound_kept.reset, relaysFollow_kept.reset,
    dutiesFollow_kept.reset, chainSound_kept.reset, armedNoted_kept.reset, portBounded_reset⟩

/-! ### Commands whose event cannot occur (log entry 1) -/

theorem State.running_still {s : State} {f : State → State} (still : f s = s) : s.running f = s := by
  unfold State.running
  split
  · rfl
  · exact still

/-- A command that runs work which changes nothing changes nothing, whether a reset is held or not. -/
theorem exec_still {c : Instr} {s : State} {f : State → State} (shape : exec c s = .next (s.running f))
    (still : f s = s) : exec c s = .next s := shape.trans (congrArg Host.Outcome.next (State.running_still still))

theorem ite_still {p : Prop} [Decidable p] {s t : State} (still : p → t = s) : (if p then t else s) = s := by
  split
  case isTrue holds => exact still holds
  case isFalse => rfl

/-- A timer that does not run does not run out. -/
theorem State.after_unrunning {s : State} {t : Timer} (stopped : t.isRunning = false) (f : State → State) :
    s.after t.due f = s := by rw [Timer.due_eq_none t stopped, State.after_none]

theorem PortState.head_some {q : PortState} {r : Request} (head : q.head = some r) :
    q.waiting = [] ∧ q.requests.head? = some r := by
  obtain none | ⟨empty, x, first, same⟩ := q.head_cases
  · exact nomatch none.symm.trans head
  · exact ⟨empty, first.trans (same.symm.trans head)⟩

theorem requestCommand_shape (k : RequestKind) (p : Port) :
    ∃ act, ∀ s, exec (requestCommand k p) s = .next (s.running fun s => s.serve p k act) := by
  cases k <;> exact ⟨_, fun _ => rfl⟩

theorem RequestKind.ofCode_code (k : RequestKind) : RequestKind.ofCode k.code = some k := by cases k <;> rfl

theorem Tachs.set_get {α : Type} (x : Tachs α) (ch : TachChannel) : x.set ch (x.get ch) = x := by cases ch <;> rfl

/-- A level that a tach input has already is no pulse. -/
theorem TachRecord.level_same (r : TachRecord) : r.level r.filteredHigh = r := by
  simp [TachRecord.level]

theorem State.setTach_get (s : State) (ch : TachChannel) : s.setTach ch (s.thermal.tachs.get ch) = s := by
  rw [State.setTach, Tachs.set_get]

/-- A command that acts on the exchange whose reply is awaited, without one. -/
theorem ChainState.awaited_eq_none {c : ChainState} (idle : c.link ≠ .awaitingReply ∨ c.exchange = none) :
    c.awaited = none := by
  unfold ChainState.awaited
  cases link : c.link with
  | awaitingReply => exact idle.resolve_left (not_not.2 link)
  | rest | frameDue | sending => rfl

theorem ChainState.awaited_of_link {c : ChainState} {e : Exchange} (awaited : c.awaited = some e) :
    c.link = .awaitingReply ∧ c.exchange = some e := by
  unfold ChainState.awaited at awaited
  cases link : c.link with
  | awaitingReply =>
    rw [link] at awaited
    exact ⟨rfl, awaited⟩
  | rest | frameDue | sending =>
    rw [link] at awaited
    exact nomatch awaited

theorem ChainState.isSending_eq_false {c : ChainState} (other : ∀ frame, c.link ≠ .sending frame) :
    c.isSending = false := by
  unfold ChainState.isSending
  cases link : c.link with
  | sending frame => exact absurd link (other frame)
  | rest | frameDue | awaitingReply => rfl

theorem ChainState.mayBegin_iff (c : ChainState) :
    c.mayBegin = true ↔ c.due = true ∧ c.mode ≠ .stopped ∧ c.activity = .idle := by
  simp [ChainState.mayBegin, and_assoc]

theorem ChainState.mayBeginFrame_iff (c : ChainState) :
    c.mayBeginFrame = true ↔ c.link = .frameDue ∧ c.lineFree = true := by
  simp [ChainState.mayBeginFrame]

theorem ChainState.isQuieting_iff (c : ChainState) :
    c.isQuieting = true ↔ c.lineFree = false ∧ (c.link = .rest ∨ c.link = .frameDue) := by
  simp [ChainState.isQuieting]

/-- Settles O10: every arm's guard is false, or the timer it waits for does not run. -/
theorem eventThatCannotOccurChangesNothing : Obligations.EventThatCannotOccurChangesNothing := by
  refine ⟨fun s p k idle => ?requests, fun s => ?timers, fun s => ?inputs, fun s => ?chain⟩
  case requests =>
    obtain ⟨act, shape⟩ := requestCommand_shape k p
    refine exec_still (shape s) (State.serve_none s p k act fun body head => ?_)
    obtain ⟨empty, first⟩ := PortState.head_some head
    exact idle.elim (fun waits => waits empty) fun other => other body first
  case timers =>
    refine ⟨?_, ?_, ?_, ?_, ?_, ?_, ?_, ?_, ?_, fun stopped => ?countdown, ?_, fun ch stopped => ?grace,
      fun ch stopped => ?retry, fun k stopped => ?contactor, fun h unheld => ?entry⟩
    case countdown => exact exec_still rfl (ite_still fun _ => State.after_unrunning stopped _)
    case grace => exact exec_still rfl (State.after_unrunning stopped _)
    case retry => exact exec_still rfl (ite_still fun _ => State.after_unrunning stopped _)
    case contactor => exact exec_still rfl (State.after_unrunning stopped _)
    case entry =>
      refine exec_still rfl ?_
      have absent : s.stack.find h = none := List.find?_eq_none.2 fun e mem held => unheld e mem (by simpa using held)
      rw [absent]
    all_goals exact fun stopped => exec_still rfl (State.after_unrunning stopped _)
  case inputs =>
    refine ⟨fun p idle => ?_, fun p waits => ?_, fun i inService => ?_, fun ch other => ?_, fun ch => ?_, fun k => ?_,
      ?_⟩
    all_goals refine exec_still rfl ?_
    · unfold State.serveUnknown
      cases head : (s.ports.get p).head with
      | none => rfl
      | some r =>
        obtain ⟨empty, first⟩ := PortState.head_some head
        obtain ⟨k, code⟩ := idle.resolve_left (not_not.2 empty) r first
        dsimp only
        rw [code, RequestKind.ofCode_code]
    · exact if_pos waits
    · rw [inService, State.after_none]
    · exact if_neg other
    · rw [TachRecord.level_same, State.setTach_get]
    · exact if_pos rfl
    · exact if_pos rfl
  case chain =>
    refine ⟨fun idle => ?_, fun idle => ?_, fun idle => ?_, fun idle => ?_, fun idle => ?_, fun idle chars some => ?_,
      fun stopped => ?_, fun e exchange chars => ?_⟩
    · refine exec_still rfl (ite_still fun may => ?_)
      obtain ⟨due, mode, rest⟩ := (ChainState.mayBegin_iff _).1 may
      rcases idle with undue | stopped | busy
      · exact nomatch undue.symm.trans due
      · exact absurd stopped mode
      · exact absurd rest busy
    · refine exec_still rfl (ite_still fun may => ?_)
      obtain ⟨due, free⟩ := (ChainState.mayBeginFrame_iff _).1 may
      exact idle.elim (fun other => absurd due other) fun busy => nomatch busy.symm.trans free
    · refine exec_still rfl (ite_still fun may => ?_)
      simp only [Bool.and_eq_true, decide_eq_true_eq] at may
      rcases idle with unsent | clearing | stopped
      · exact nomatch (ChainState.isSending_eq_false unsent).symm.trans may.1
      · exact absurd clearing may.2
      · exact State.after_unrunning stopped _
    · refine exec_still rfl (ite_still fun may => ?_)
      simp only [Bool.and_eq_true, decide_eq_true_eq] at may
      rcases idle with unsent | other | stopped
      · exact nomatch (ChainState.isSending_eq_false unsent).symm.trans may.1
      · exact absurd may.2 other
      · exact State.after_unrunning stopped _
    · refine exec_still rfl (ite_still fun may => ?_)
      rcases idle with loud | stopped
      · exact absurd ((ChainState.isQuieting_iff _).1 may) loud
      · exact State.after_unrunning stopped _
    · have unawaited := ChainState.awaited_eq_none idle
      refine ⟨exec_still rfl ?_, exec_still rfl ?_, exec_still rfl ?_⟩ <;> rw [unawaited]
    · refine exec_still rfl ?_
      cases s.chain.awaited with
      | none => rfl
      | some e => exact (if_neg Bool.false_ne_true).trans (State.after_unrunning stopped _)
    · have awaits {f : Exchange → State → State} (still : f e s = s) :
          (match s.chain.awaited with
            | some e => f e s
            | none => s) = s := by
        cases awaited : s.chain.awaited with
        | none => rfl
        | some x =>
          obtain rfl := Option.some.inj ((ChainState.awaited_of_link awaited).2.symm.trans exchange)
          exact still
      refine ⟨fun verdict => exec_still rfl (awaits (f := fun e s => s.endReply e chars) ?_),
        fun verdict => exec_still rfl (awaits (f := fun e s => s.breakReply e chars) ?_)⟩
      · unfold State.endReply
        rcases verdict with verdict | verdict | verdict <;> rw [verdict]
      · unfold State.breakReply
        rcases verdict with verdict | verdict | verdict | ⟨reply, verdict⟩ <;> rw [verdict]

end Sys2Proof.Machine
end

section
/-! The receivers and the response paths of the master ports (sections 9.1 and 9.2), and the checks of the port
controller. -/

namespace Sys2Proof.Machine

/-! ### CRC (R164) -/

theorem crcByte_self (r : Byte) : crcByte r r = 0 := by
  rw [crcByte, BitVec.xor_self]
  decide

theorem crc8_append_self (bytes : List Byte) : crc8 (bytes ++ [crc8 bytes]) = 0 := by
  rw [crc8, List.foldl_append]
  exact crcByte_self _

/-! ### Frames, character by character (R163) -/

namespace PortState

variable (q : PortState)

/-- A character with its stop bit at mark. -/
def sound (b : Byte) : RxChar := ⟨b, true⟩

theorem receive_sync (hunting : q.receiver = .hunting) :
    q.receive (sound 0xA5) = { q with lineDetector := .mark, receiver := .receiving [] false } := by
  unfold receive receiveSound sound
  simp only [if_true]
  rw [hunting]

theorem receive_extend (frame : List Byte) (b : Byte) :
    { q with lineDetector := .mark, receiver := .receiving frame false }.receive (sound b) =
      { q with lineDetector := .mark, receiver := .receiving frame false }.extend (frame ++ [b]) := rfl

/-- The characters of a frame after its length, up to its last. -/
theorem receive_rest {n : Byte} (lower : 1 ≤ n.toNat) (upper : n.toNat ≤ 251) (rest : List Byte) (pre : List Byte)
    (nonempty : rest ≠ []) (length : pre.length + rest.length = n.toNat + 1) :
    (rest.map sound).foldl receive { q with lineDetector := .mark, receiver := .receiving (n :: pre) false } =
      { q with lineDetector := .mark }.complete (n :: pre ++ rest) := by
  have counted : ¬ (n.toNat = 0 ∨ 251 < n.toNat) := by omega
  induction rest generalizing pre with
  | nil => exact absurd rfl nonempty
  | cons b rest ih =>
    rw [List.map_cons, List.foldl_cons, receive_extend, List.cons_append, extend]
    simp only [List.getD_cons_zero, counted, if_false]
    cases rest with
    | nil =>
      have full : ¬ (n :: (pre ++ [b])).length < n.toNat + 2 := by
        simp only [List.length_cons, List.length_append, List.length_nil] at length ⊢
        omega
      rw [if_neg full]
      rfl
    | cons c rest =>
      have more : (n :: (pre ++ [b])).length < n.toNat + 2 := by
        simp only [List.length_cons, List.length_append, List.length_nil] at length ⊢
        omega
      rw [if_pos more]
      refine (ih (pre ++ [b]) (List.cons_ne_nil _ _) ?_).trans ?_
      · simp only [List.length_cons, List.length_append, List.length_nil] at length ⊢
        omega
      · rw [List.cons_append, List.append_assoc]
        rfl

/-- A whole frame of a sound length, sent to a hunting receiver, is completed. -/
theorem receive_frame (hunting : q.receiver = .hunting) {n : Byte} (lower : 1 ≤ n.toNat) (upper : n.toNat ≤ 251)
    {rest : List Byte} (length : rest.length = n.toNat + 1) :
    ((0xA5 :: n :: rest).map sound).foldl receive q = { q with lineDetector := .mark }.complete (n :: rest) := by
  have counted : ¬ (n.toNat = 0 ∨ 251 < n.toNat) := by omega
  have begun : (1 : Nat) < n.toNat + 2 := by omega
  rw [List.map_cons, List.map_cons, List.foldl_cons, List.foldl_cons, receive_sync q hunting, receive_extend, extend]
  simp only [List.nil_append, List.getD_cons_zero, counted, if_false, List.length_singleton, begun, if_true]
  refine receive_rest q lower upper rest [] ?_ (by simpa using length)
  rintro rfl
  simp at length

/-- A frame whose length is 0 or above 251 fails at once. -/
theorem receive_length (hunting : q.receiver = .hunting) {n : Byte} (outside : n.toNat = 0 ∨ 251 < n.toNat) :
    [sound 0xA5, sound n].foldl receive q = { q with lineDetector := .mark }.failFrame := by
  rw [List.foldl_cons, List.foldl_cons, List.foldl_nil, receive_sync q hunting, receive_extend, extend]
  simp only [List.nil_append, List.getD_cons_zero, outside, if_true]
  rfl

theorem complete_sound (kind : Byte) (n : Byte) (body : List Byte) :
    q.complete (n :: kind :: (body ++ [crc8 (n :: kind :: body)])) =
      { q with receiver := .hunting }.accept kind body := by
  have front : (n :: kind :: (body ++ [crc8 (n :: kind :: body)])) =
      (n :: kind :: body) ++ [crc8 (n :: kind :: body)] := rfl
  unfold complete
  rw [front, List.dropLast_concat, List.getLastD_concat, if_pos rfl]
  simp

theorem complete_unsound {n kind crc : Byte} {body : List Byte} (wrong : crc ≠ crc8 (n :: kind :: body)) :
    q.complete (n :: kind :: (body ++ [crc])) = q.failFrame := by
  have front : (n :: kind :: (body ++ [crc])) = (n :: kind :: body) ++ [crc] := rfl
  unfold complete
  rw [front, List.dropLast_concat, List.getLastD_concat, if_neg wrong.symm]

theorem length_byte {body : List Byte} (short : body.length ≤ 250) :
    (BitVec.ofNat 8 (body.length + 1) : Byte).toNat = body.length + 1 := by
  rw [BitVec.toNat_ofNat]
  omega

/-- A frame of a body of 250 bytes at most, with the CRC given, is completed. -/
theorem receive_body (hunting : q.receiver = .hunting) (kind crc : Byte) {body : List Byte}
    (short : body.length ≤ 250) :
    ((0xA5 :: BitVec.ofNat 8 (body.length + 1) :: kind :: (body ++ [crc])).map sound).foldl receive q =
      { q with lineDetector := .mark }.complete (BitVec.ofNat 8 (body.length + 1) :: kind :: (body ++ [crc])) := by
  have length := length_byte short
  refine receive_frame q hunting (by omega) (by omega) ?_
  simp only [List.length_cons, List.length_append, List.length_nil]
  omega

/-- A sound request frame joins the queue, or is answered QUEUE_FULL (R163 to R165). -/
theorem receive_request (hunting : q.receiver = .hunting) (kind : Byte) {body : List Byte}
    (short : body.length ≤ 250) :
    (requestChars kind body).foldl receive q = { q with lineDetector := .mark }.accept kind body := by
  refine (receive_body q hunting kind _ short).trans ?_
  rw [complete_sound]
  simp only [← hunting]

end PortState

theorem exec_requestFrame {s : State} (running : s.resetHeld = false) (p : Port) (chars : List RxChar) :
    exec (.requestFrameReceived p chars) s = .next (s.setPort p (chars.foldl PortState.receive (s.ports.get p))) :=
  congrArg Host.Outcome.next (s.running_of running _)

/-- Characters in two commands do what they do in one. -/
theorem exec_requestFrame_append {s t : State} {p : Port} {first later : List RxChar}
    (executed : exec (.requestFrameReceived p first) s = .next t) :
    exec (.requestFrameReceived p later) t = exec (.requestFrameReceived p (first ++ later)) s := by
  cases held : s.resetHeld with
  | true =>
    have still (chars : List RxChar) : exec (.requestFrameReceived p chars) s = .next s :=
      exec_of_resetHeld held (fun h => (nomatch h)) fun h => (nomatch h)
    rw [still first] at executed
    obtain rfl := Host.Outcome.next.inj executed
    rw [still, still]
  | false =>
    rw [exec_requestFrame held] at executed
    obtain rfl := Host.Outcome.next.inj executed
    rw [exec_requestFrame held, exec_requestFrame (show (s.setPort p _).resetHeld = false from held),
      State.setPort_setPort, List.foldl_append, State.setPort_ports, Ports.get_set, if_pos rfl]

/-- Settles O6: the receiver reads a whole frame (`PortState.receive_request`) and accepts it while the queue has
room. -/
theorem soundRequestFrameJoinsQueue : Obligations.SoundRequestFrameJoinsQueue := by
  refine ⟨fun s p kind body running hunting room short => ?_, crc8_append_self,
    fun s t p first later executed => exec_requestFrame_append executed⟩
  rw [exec_requestFrame running, PortState.receive_request _ hunting kind short]
  exact congrArg (fun q => Host.Outcome.next (s.setPort p q)) (if_pos room)

/-- Settles O7: a whole frame that is not queued is answered or fails where it is completed, or at its length. -/
theorem unqueuedFramesAreAnswered : Obligations.UnqueuedFramesAreAnswered := by
  refine ⟨fun s p kind body running hunting full short => ?_, fun s p running hunting => ⟨?_, ?_⟩, fun s p => ?_⟩
  · rw [exec_requestFrame running, PortState.receive_request _ hunting kind short]
    exact congrArg (fun q => Host.Outcome.next (s.setPort p q)) (if_neg (by dsimp only; omega))
  · intro kind crc body short wrong
    rw [exec_requestFrame running]
    refine congrArg (fun q => Host.Outcome.next (s.setPort p q)) ?_
    exact (PortState.receive_body _ hunting kind crc short).trans (PortState.complete_unsound _ wrong)
  · intro n outside
    rw [exec_requestFrame running]
    exact congrArg (fun q => Host.Outcome.next (s.setPort p q)) (PortState.receive_length _ hunting outside)
  · have line : s.lines.rdy.get p = s.rdy p := by cases p <;> rfl
    simp [line, State.rdy]

/-! ### Gaps, marks and ended responses (R163, R167, R178) -/

section
variable {s : State} {p : Port} (running : s.resetHeld = false)
include running

theorem exec_gap : exec (.interCharacterTimeout p) s = .next (s.setPort p (s.ports.get p).gap) :=
  congrArg Host.Outcome.next (s.running_of running _)

theorem exec_lineToMark : exec (.lineReturnsToMark p) s = .next (s.setPort p (s.ports.get p).lineToMark) :=
  congrArg Host.Outcome.next (s.running_of running _)

theorem exec_resumeHunt : exec (.receiverHuntResumed p) s = .next (s.setPort p (s.ports.get p).resumeHunt) :=
  congrArg Host.Outcome.next (s.running_of running _)

theorem exec_responseSent : exec (.responseSent p) s = .next (s.setPort p (s.ports.get p).sent) :=
  congrArg Host.Outcome.next (s.running_of running _)

end

/-- Settles O8: what gaps, marks and ended responses make of each state of the receiver. -/
theorem receiverAndResponsePath : Obligations.ReceiverAndResponsePath := by
  refine ⟨fun s p running => ⟨fun frame receiving => ?_, fun frame receiving => ?_, fun discarding => ?_,
    fun hunting => ?_⟩, fun s p running => ⟨fun none => ?_, fun frame rest waiting => ?_⟩, fun s p => ?_⟩
  case refine_1 =>
    rw [exec_gap running, exec_lineToMark running, exec_resumeHunt running, PortState.gap, PortState.lineToMark,
      PortState.resumeHunt, receiving]
    exact ⟨rfl, rfl, congrArg _ (s.setPort_get p)⟩
  case refine_2 =>
    rw [exec_gap running, exec_lineToMark running, exec_resumeHunt running, PortState.gap, PortState.lineToMark,
      PortState.resumeHunt, receiving]
    exact ⟨rfl, rfl, rfl⟩
  case refine_3 =>
    rw [exec_gap running, exec_lineToMark running, exec_resumeHunt running, PortState.gap, PortState.lineToMark,
      PortState.resumeHunt, discarding]
    exact ⟨rfl, rfl, congrArg _ (s.setPort_get p)⟩
  case refine_4 =>
    rw [exec_gap running, exec_lineToMark running, exec_resumeHunt running, PortState.gap, PortState.lineToMark,
      PortState.resumeHunt, hunting]
    exact ⟨rfl, congrArg _ (s.setPort_get p), congrArg _ (s.setPort_get p)⟩
  case refine_5 =>
    rw [exec_responseSent running, PortState.sent, none]
    simp only [none]
  case refine_6 => rw [exec_responseSent running, PortState.sent, waiting]
  case refine_7 =>
    have line : s.lines.transmitting.get p = (s.ports.get p).sending.isSome := by cases p <;> rfl
    rw [line, Option.isSome_iff_ne_none]

/-! ### The checks of the port controller (R166, R168) -/

/-- Settles O9: the first checks of `State.serveUnknown` and `State.serve`. -/
theorem portControllerChecksEveryRequest : Obligations.PortControllerChecksEveryRequest := by
  intro s p kind body head
  refine ⟨fun unnamed => ?_, fun k code => ⟨fun denied => ?_, fun permitted length => ?_⟩⟩
  · refine congrArg Host.Outcome.next ((s.running_of head.running _).trans ?_)
    unfold State.serveUnknown
    rw [head.head_eq]
    dsimp only
    rw [unnamed]
    exact s.setPort_taken_respond p kind _ _
  all_goals
    obtain ⟨act, shape⟩ := requestCommand_shape k p
    rw [shape, s.running_of head.running, State.serve, head.head_eq]
    dsimp only
    rw [if_pos code, State.handle]
  · rw [if_pos (by simp [denied]), ← code]
    exact congrArg _ (s.setPort_taken_respond p kind _ _)
  · rw [if_neg (by simp [permitted]), if_pos length, ← code]
    exact congrArg _ (s.setPort_taken_respond p kind _ _)

end Sys2Proof.Machine
end

section
/-! Events of the part and the ports they are offered to (section 9.4): storage, order, and the events that report a
change. -/

namespace Sys2Proof.Machine

/-! ### Storage (R173, R174) -/

namespace PortState

theorem offer_mask (q : PortState) (r : EventRecord) : (q.offer r).mask = q.mask := by
  unfold offer
  split
  · rfl
  · split <;> rfl

/-- A port takes the events that are offered to it, in order. -/
theorem deliver_eq_offers (p : Port) (uptime : BitVec 32) (sweep : Serial) (raised : List Raised) (q : PortState) :
    q.deliver p uptime sweep raised =
      ((raised.filter (offeredTo p q.mask)).map fun r => (⟨r.event, uptime, sweep⟩ : EventRecord)).foldl offer q := by
  induction raised generalizing q with
  | nil => rfl
  | cons r rest ih =>
    have next : q.deliver p uptime sweep (r :: rest) =
        (if offeredTo p q.mask r then q.offer ⟨r.event, uptime, sweep⟩ else q).deliver p uptime sweep rest := rfl
    rw [next, ih, List.filter_cons]
    split
    · rw [offer_mask]
      rfl
    · rfl

theorem offers_of_overflow (records : List EventRecord) {q : PortState} (full : q.overflow = true) :
    records.foldl offer q = q := by
  induction records with
  | nil => rfl
  | cons r rest ih => rw [List.foldl_cons, offer, if_pos full, ih]

/-- Offered records are stored at the tail while there is room, and the first that finds none sets the mark. -/
theorem offers_of_room (records : List EventRecord) {q : PortState} (clear : q.overflow = false)
    (room : q.events.length ≤ 16) :
    records.foldl offer q =
      { q with
        events := q.events ++ records.take (16 - q.events.length)
        overflow := decide (16 - q.events.length < records.length) } := by
  induction records generalizing q with
  | nil => simp [← clear]
  | cons r rest ih =>
    rw [List.foldl_cons, offer, if_neg (by simp [clear])]
    by_cases more : q.events.length < 16
    · obtain ⟨n, left⟩ : ∃ n, 16 - q.events.length = n + 1 := ⟨15 - q.events.length, by omega⟩
      have after : 16 - (q.events ++ [r]).length = n := by
        simp only [List.length_append, List.length_singleton]
        omega
      have room' : (q.events ++ [r]).length ≤ 16 := by
        simp only [List.length_append, List.length_singleton]
        omega
      rw [if_pos more, ih (q := { q with events := q.events ++ [r] }) clear room', after, left]
      simp
    · have none : 16 - q.events.length = 0 := by omega
      rw [if_neg more, offers_of_overflow rest rfl, none]
      simp

end PortState

/-! ### Order (R172) -/

theorem insertRaised_perm (r : Raised) (l : List Raised) : (insertRaised r l).Perm (r :: l) := by
  induction l with
  | nil => exact .refl _
  | cons q rest ih =>
    unfold insertRaised
    split
    · exact (ih.cons q).trans (.swap r q rest)
    · exact .refl _

theorem orderRaised_perm (l : List Raised) : (orderRaised l).Perm l := by
  induction l with
  | nil => exact .refl _
  | cons r rest ih => exact (insertRaised_perm r _).trans (ih.cons r)

/-- Events of one place keep the order in which they were raised (log entry 21). -/
theorem insertRaised_filter (block place : Nat) (r : Raised) (l : List Raised) :
    ((insertRaised r l).filter fun x => decide (x.event.block = block ∧ x.event.place = place)) =
      (r :: l).filter fun x => decide (x.event.block = block ∧ x.event.place = place) := by
  induction l with
  | nil => rfl
  | cons q rest ih =>
    unfold insertRaised
    split
    case isTrue before =>
      rw [Event.before_iff] at before
      rw [List.filter_cons, ih]
      by_cases here : r.event.block = block ∧ r.event.place = place
      · have other : ¬ (q.event.block = block ∧ q.event.place = place) := by omega
        simp [here, other]
      · simp [List.filter_cons, here]
    case isFalse => rfl

theorem orderRaised_filter (block place : Nat) (l : List Raised) :
    ((orderRaised l).filter fun x => decide (x.event.block = block ∧ x.event.place = place)) =
      l.filter fun x => decide (x.event.block = block ∧ x.event.place = place) := by
  induction l with
  | nil => rfl
  | cons r rest ih =>
    rw [orderRaised, insertRaised_filter, List.filter_cons, List.filter_cons, ih]

/-- Settles O14: storage while room remains (`PortState.offers_of_room`), and the order of `orderRaised`, which keeps
the events of one place as they were raised. -/
theorem offeredEventsAreStoredWhileRoomRemains : Obligations.OfferedEventsAreStoredWhileRoomRemains := by
  refine ⟨fun p uptime sweep raised q => ⟨fun full => ?_, fun clear room => ?_⟩,
    fun p mask e => ⟨fun owner => rfl, rfl⟩,
    fun s raised => ⟨orderRaised raised, orderRaised_perm raised, orderRaised_ordered raised,
      fun block place => orderRaised_filter block place raised, fun p => Ports.get_map _ _ p⟩, ?places⟩
  · rw [PortState.deliver_eq_offers, PortState.offers_of_overflow _ full]
  · rw [PortState.deliver_eq_offers, PortState.offers_of_room _ clear room]
  case places =>
    intros
    simp [Event.block, Event.place]

end Sys2Proof.Machine
end

section
/-! The requests on the curtailment stack (section 4.3): a push and what it displaces, the requests on a port's own
entries, and the expiry of an entry. -/

namespace Sys2Proof.Machine

/-! ### The values of a request (R66) -/

theorem CurtailValues.valid_iff (v : CurtailValues) :
    v.valid = true ↔ (v.charge ≠ none ∨ v.discharge ≠ none) ∧ v.duration ≠ some 0 := by
  simp [CurtailValues.valid, Option.isSome_iff_ne_none]

theorem CurtailValues.invalid_iff (v : CurtailValues) :
    v.valid = false ↔ (v.charge = none ∧ v.discharge = none) ∨ v.duration = some 0 := by
  rw [Bool.eq_false_iff, ne_eq, CurtailValues.valid_iff]
  tauto

theorem clampOutcome_eq (given held : CurtailValues) :
    clampOutcome given held =
      if held.charge = given.charge ∧ held.discharge = given.discharge ∧ held.duration = given.duration then .ok
      else .clamped := by
  obtain ⟨a, b, c⟩ := given
  obtain ⟨x, y, z⟩ := held
  simp only [clampOutcome, CurtailValues.mk.injEq, eq_comm]

/-! ### PUSH_CURTAIL (R66, R67) -/

theorem Takes.pushOutOfRange {s : State} {p : Port} {body : List Byte} (taken : Takes s p .pushCurtail body)
    (invalid : (curtailValues body 0).valid = false) :
    exec (.pushCurtail p) s = .next (s.answered p 0x20 .range []) :=
  congrArg Host.Outcome.next (taken.refused (by simp [answerPush, invalid, refuse]))

theorem answerPush_of_full {p : Port} {body : List Byte} {q : PortState} {s : State}
    (valid : (curtailValues body 0).valid = true)
    (full : s.stack.push s.slots p (((curtailValues body 0).clamp s.config.ratedCurrent p).body p) = .full) :
    answerPush p body q s = refuse .stackFull q := by
  simp only [answerPush, valid, if_true, full]

theorem answerPush_of_pushed {p : Port} {body : List Byte} {q : PortState} {s : State} {st : StackState} {h : Nat}
    {d : Option Entry} (valid : (curtailValues body 0).valid = true)
    (pushed : s.stack.push s.slots p (((curtailValues body 0).clamp s.config.ratedCurrent p).body p) =
      .pushed st h d) :
    answerPush p body q s =
      .event (clampOutcome (curtailValues body 0) ((curtailValues body 0).clamp s.config.ratedCurrent p)) (byte1 h)
        .ifChanged (s.afterPush st h d) := by
  simp only [answerPush, valid, if_true, pushed]

theorem State.setPort_afterPush (s : State) (p : Port) (q : PortState) (st : StackState) (h : Nat)
    (d : Option Entry) :
    (s.setPort p q).afterPush st h d = ⟨(s.afterPush st h d).st.setPort p q, (s.afterPush st h d).raised⟩ := by
  cases d <;> rfl

theorem Takes.pushRefused {s : State} {p : Port} {body : List Byte} (taken : Takes s p .pushCurtail body)
    (valid : (curtailValues body 0).valid = true)
    (full : s.stack.push s.slots p (((curtailValues body 0).clamp s.config.ratedCurrent p).body p) = .full) :
    exec (.pushCurtail p) s = .next (s.answered p 0x20 .stackFull []) :=
  congrArg Host.Outcome.next (taken.refused (answerPush_of_full valid full))

theorem Takes.pushTaken {s : State} {p : Port} {body : List Byte} (taken : Takes s p .pushCurtail body)
    (valid : (curtailValues body 0).valid = true) {st : StackState} {h : Nat} {d : Option Entry}
    (pushed : s.stack.push s.slots p (((curtailValues body 0).clamp s.config.ratedCurrent p).body p) =
      .pushed st h d) :
    ∃ t, exec (.pushCurtail p) s = .next t ∧
      EventLeaves
        ((s.afterPush st h d).st.answered p 0x20
          (clampOutcome (curtailValues body 0) ((curtailValues body 0).clamp s.config.ratedCurrent p)) (byte1 h))
        (s.afterPush st h d).raised t := by
  refine ⟨_, rfl, taken.eventAnswered (w := .ifChanged) (by cases d <;> rfl)
    ((answerPush_of_pushed (s := s.setPort p (s.ports.get p).taken) valid pushed).trans ?_)⟩
  rw [State.setPort_afterPush]
  rfl

theorem StackState.push_of_room {st : StackState} (room : st.entries.length < 8) (slots : List (Option Claim))
    (p : Port) (b : EntryBody) : st.push slots p b = .pushed (st.add b) st.freeHandle none := if_pos room

/-- Settles O18: with room, a push adds the clamped entry (`StackState.push_of_room`). -/
theorem pushCurtailAddsEntryOnTop : Obligations.PushCurtailAddsEntryOnTop := by
  intro s p body taken
  refine ⟨fun bad => taken.pushOutOfRange ((CurtailValues.invalid_iff _).2 bad), fun some_ nonzero room => ?_⟩
  obtain ⟨t, ran, leaves⟩ := taken.pushTaken ((CurtailValues.valid_iff _).2 ⟨some_, nonzero⟩)
    (StackState.push_of_room room s.slots p _)
  rw [clampOutcome_eq] at leaves
  refine ⟨t, ran, ?_⟩
  cases p <;> exact leaves

/-- What "utility-owned" means (R67). -/
theorem utilityOwned_iff (s : State) (e : Entry) :
    utilityOwned s.slots e = true ↔
      e.owner = .port .util ∨ ∃ k c, e.owner = .slot k ∧ s.claim k = some c ∧ c.owner = .util := by
  unfold utilityOwned State.claim
  rw [decide_eq_true_iff]
  cases e.owner with
  | port p => simp [ownerPort]
  | slot k => simp [ownerPort, Option.map_eq_some_iff]

theorem displaceable_none {slots : List (Option Claim)} {es : List Entry}
    (all : ∀ e ∈ es, utilityOwned slots e = true) : displaceable slots es = none :=
  List.find?_eq_none.2 fun e mem => by simp [all e mem]

theorem displaceable_some {slots : List (Option Claim)} {below above : List Entry} {e : Entry}
    (utility : ∀ x ∈ below, utilityOwned slots x = true) (other : utilityOwned slots e = false) :
    displaceable slots (below ++ e :: above) = some e :=
  List.find?_eq_some_iff_append.2 ⟨by simp [other], below, above, rfl, fun x mem => by simp [utility x mem]⟩

theorem StackState.push_full {st : StackState} (full : 8 ≤ st.entries.length) {slots : List (Option Claim)} {p : Port}
    (b : EntryBody) (kept : p ≠ .util ∨ displaceable slots st.entries = none) : st.push slots p b = .full := by
  rcases st.push_cases slots p b with ⟨room, -⟩ | ⟨-, util, e, found, -⟩ | ⟨-, -, refused⟩
  · omega
  · rcases kept with other | all
    · exact absurd util other
    · exact nomatch found.symm.trans all
  · exact refused

theorem StackState.push_displaces {st : StackState} (full : 8 ≤ st.entries.length) {slots : List (Option Claim)}
    {e : Entry} (found : displaceable slots st.entries = some e) (b : EntryBody) :
    st.push slots .util b = .pushed ((st.remove e.handle).add b) (st.remove e.handle).freeHandle (some e) := by
  unfold StackState.push
  rw [if_neg (by omega), if_pos rfl, found]

theorem StackState.remove_eq_of_split (st : StackState) (below above : List Entry) (e : Entry)
    (distinct : (st.entries.map Entry.handle).Nodup) (split : st.entries = below ++ e :: above) :
    st.remove e.handle = { st with entries := below ++ above } :=
  congrArg (fun es => ({ st with entries := es } : StackState)) (st.remove_of_split below above e distinct split)

theorem starveSlot_of_claim {slots : List (Option Claim)} {k : Nat} {c : Claim} (claimed : slots.getD k none = some c) :
    starveSlot slots k = slots.set k (some { c with entry := none, starved := true }) := by
  rw [starveSlot, claimed]

/-- What a displacement of a port's entry leaves (R67). -/
theorem State.afterPush_of_port {s : State} {e : Entry} {p : Port} (owner : e.owner = .port p) (st : StackState)
    (h : Nat) :
    s.afterPush st h (some e) = ⟨{ s with stack := st }, [directed p (.curtailDisplaced e.handle h)]⟩ := by
  simp only [State.afterPush, displacedSlots, displacedEvents, owner]

/-- What a displacement of a watch slot's entry leaves (R67, R91). -/
theorem State.afterPush_of_slot {s : State} {e : Entry} {k : Nat} {c : Claim} (owner : e.owner = .slot k)
    (claimed : s.claim k = some c) (st : StackState) (h : Nat) :
    s.afterPush st h (some e) =
      ⟨{ s with stack := st, slots := s.slots.set k (some { c with entry := none, starved := true }) },
        [directed c.owner (.watchStarved k)]⟩ := by
  simp only [State.afterPush, displacedSlots, displacedEvents, owner, starveSlot_of_claim claimed]
  rw [show s.slots.getD k none = some c from claimed]

/-- Settles O19: a full stack refuses (`StackState.push_full`), or the utility displaces
(`StackState.push_displaces`). -/
theorem pushAtFullStackDisplaces : Obligations.PushAtFullStackDisplaces := by
  intro s p body taken given held utility valid full
  refine ⟨fun other => taken.pushRefused valid (StackState.push_full full.ge _ (.inl other)), fun all => ?_, ?_⟩
  · exact taken.pushRefused valid (StackState.push_full full.ge _ (.inr (displaceable_none fun e mem =>
      (utilityOwned_iff s e).2 (all e mem))))
  · rintro rfl distinct below e above split utilities other
    have found : displaceable s.slots s.stack.entries = some e := by
      rw [split]
      exact displaceable_some (fun x mem => (utilityOwned_iff s x).2 (utilities x mem))
        (Bool.eq_false_iff.2 fun owned => other ((utilityOwned_iff s e).1 owned))
    obtain ⟨t, ran, leaves⟩ := taken.pushTaken valid (StackState.push_displaces full.ge found _)
    rw [s.stack.remove_eq_of_split below above e distinct split] at leaves
    refine ⟨fun q owner => ⟨t, ran, ?_⟩, fun k c owner claimed => ⟨t, ran, ?_⟩⟩
    · rw [State.afterPush_of_port owner] at leaves
      exact leaves
    · rw [State.afterPush_of_slot owner claimed] at leaves
      exact leaves

/-! ### The requests on a port's own entries (R68 to R71) -/

/-- With no two entries of one handle, the handle finds the entry that carries it. -/
theorem StackState.find_of_split {st : StackState} {below above : List Entry} {e : Entry}
    (distinct : (st.entries.map Entry.handle).Nodup) (split : st.entries = below ++ e :: above) :
    st.find e.handle = some e := by
  rw [split, List.map_append, List.map_cons, List.nodup_append] at distinct
  obtain ⟨-, -, apart⟩ := distinct
  unfold StackState.find
  rw [split]
  refine List.find?_eq_some_iff_append.2 ⟨by simp, below, above, rfl, fun x mem => ?_⟩
  simpa using apart x.handle (List.mem_map_of_mem mem) e.handle List.mem_cons_self

theorem StackState.ownDirect_of_split {st : StackState} {below above : List Entry} {e : Entry} {p : Port}
    (distinct : (st.entries.map Entry.handle).Nodup) (split : st.entries = below ++ e :: above)
    (own : e.origin = .direct ∧ e.owner = .port p) : st.ownDirect p e.handle = some e := by
  rw [StackState.ownDirect, StackState.find_of_split distinct split]
  exact if_pos ((Entry.directOf_iff p e).2 own)

theorem StackState.ownDirect_none {st : StackState} {p : Port} {h : Nat}
    (others : ∀ e ∈ st.entries, e.handle = h → ¬ (e.origin = .direct ∧ e.owner = .port p)) :
    st.ownDirect p h = none := by
  cases found : st.ownDirect p h with
  | none => rfl
  | some e =>
    obtain ⟨mem, handle, own⟩ := StackState.ownDirect_some found
    exact absurd own (others e mem handle)

theorem StackState.topDirect_none {st : StackState} {p : Port}
    (others : ∀ e ∈ st.entries, ¬ (e.origin = .direct ∧ e.owner = .port p)) : st.topDirect p = none := by
  cases found : st.topDirect p with
  | none => rfl
  | some e =>
    obtain ⟨mem, own⟩ := StackState.topDirect_some found
    exact absurd own (others e mem)

theorem StackState.topDirect_of_split {st : StackState} {below above : List Entry} {e : Entry} {p : Port}
    (split : st.entries = below ++ e :: above) (own : e.origin = .direct ∧ e.owner = .port p)
    (others : ∀ x ∈ above, ¬ (x.origin = .direct ∧ x.owner = .port p)) : st.topDirect p = some e := by
  unfold StackState.topDirect
  rw [split]
  refine List.find?_eq_some_iff_append.2
    ⟨(Entry.directOf_iff p e).2 own, above.reverse, below.reverse, by simp, fun x mem => ?_⟩
  rw [Bool.not_eq_true', Bool.eq_false_iff]
  exact fun direct => others x (List.mem_reverse.1 mem) ((Entry.directOf_iff p x).1 direct)

/-- With no two entries of one handle, an amend changes the one entry that carries it, in its place. -/
theorem StackState.amend_of_split {st : StackState} {below above : List Entry} {e : Entry}
    (distinct : (st.entries.map Entry.handle).Nodup) (split : st.entries = below ++ e :: above) (v : CurtailValues) :
    st.amend e.handle v = { st with entries := below ++ e.amend v :: above } := by
  rw [split, List.map_append, List.map_cons, List.nodup_append, List.nodup_cons] at distinct
  obtain ⟨-, ⟨unrepeated, -⟩, apart⟩ := distinct
  have keeps : ∀ l : List Entry, (∀ x ∈ l, x.handle ≠ e.handle) →
      (l.map fun x => if x.handle = e.handle then x.amend v else x) = l := fun l other =>
    (List.map_congr_left fun x mem => if_neg (other x mem)).trans (List.map_id l)
  unfold StackState.amend
  rw [split, List.map_append, List.map_cons, if_pos rfl,
    keeps below fun x mem => apart x.handle (List.mem_map_of_mem mem) e.handle List.mem_cons_self,
    keeps above fun x mem same => unrepeated (same ▸ List.mem_map_of_mem mem)]

theorem answerAmend_taken {p : Port} {body : List Byte} {q : PortState} {s : State} {e : Entry}
    (valid : (curtailValues body 1).valid = true) (own : s.stack.ownDirect p (u8 body 0) = some e) :
    answerAmend p body q s =
      .event (clampOutcome (curtailValues body 1) ((curtailValues body 1).clamp s.config.ratedCurrent p))
        (byte1 e.handle) .always
        (Change.quiet
          { s with
            stack := s.stack.amend e.handle ((curtailValues body 1).clamp s.config.ratedCurrent p) }) := by
  simp only [answerAmend, valid, if_true, own]

/-- An event that publishes whatever it changes makes one CHANGE publication (R68). -/
theorem State.settle_always (b : State) (x : Change) :
    (State.settle b .always x).envelope.record.kind = .change ∧
    (State.settle b .always x).envelope.record.number = x.st.envelope.publicationNumber + 1 := by
  rw [State.settle_envelope]
  exact ⟨rfl, rfl⟩

theorem Takes.amendTaken {s : State} {p : Port} {body : List Byte} (taken : Takes s p .amendCurtail body)
    (valid : (curtailValues body 1).valid = true) {e : Entry} (own : s.stack.ownDirect p (u8 body 0) = some e) :
    ∃ t, exec (.amendCurtail p) s = .next t ∧
      EventLeaves
        (({ s with
            stack := s.stack.amend e.handle ((curtailValues body 1).clamp s.config.ratedCurrent p) } :
              State).answered p 0x21
          (clampOutcome (curtailValues body 1) ((curtailValues body 1).clamp s.config.ratedCurrent p))
          (byte1 e.handle))
        [] t ∧
      t.envelope.record.kind = .change ∧ t.envelope.record.number = s.envelope.publicationNumber + 1 := by
  have answer := answerAmend_taken (s := s.setPort p (s.ports.get p).taken) (q := (s.ports.get p).taken) valid own
  refine ⟨_, rfl, taken.eventAnswered rfl answer, ?_⟩
  rw [State.serve_takes taken, answer]
  exact State.settle_always _ _

theorem Takes.releaseTaken {s : State} {p : Port} {h : Byte} (taken : Takes s p .releaseCurtail [h]) {e : Entry}
    (own : s.stack.ownDirect p h.toNat = some e) :
    ∃ t, exec (.releaseCurtail p) s = .next t ∧
      EventLeaves (({ s with stack := s.stack.remove e.handle } : State).answered p 0x22 .ok []) [] t := by
  refine ⟨_, rfl, taken.eventAnswered (w := .ifChanged) (told := []) rfl ?_⟩
  unfold answerRelease
  change (match s.stack.ownDirect p h.toNat with | none => _ | some e => _) = _
  rw [own]
  rfl

theorem Takes.popTaken {s : State} {p : Port} (taken : Takes s p .popCurtail []) {e : Entry}
    (top : s.stack.topDirect p = some e) :
    ∃ t, exec (.popCurtail p) s = .next t ∧
      EventLeaves (({ s with stack := s.stack.remove e.handle } : State).answered p 0x23 .ok (byte1 e.handle)) []
        t := by
  refine ⟨_, rfl, taken.eventAnswered (w := .ifChanged) (told := []) rfl ?_⟩
  unfold answerPop
  change (match s.stack.topDirect p with | none => _ | some e => _) = _
  rw [top]
  rfl

theorem State.settle_quiet (b : State) (w : Publication) (x : State) :
    EventLeaves x [] (State.settle b w (Change.quiet x)) := State.settle_leaves b w (Change.quiet x)

theorem State.settle_withConn (b : State) (w : Publication) (x : State) (y : ConnChange) :
    EventLeaves { x with conn := y.conn } (y.raised.map broadcast) (State.settle b w (x.withConn y)) :=
  State.settle_leaves b w (x.withConn y)

theorem State.event_leaves (s : State) (f : State → Change) : EventLeaves (f s).st (f s).raised (s.event f) :=
  State.settle_leaves _ _ _

/-- The expiry of an entry: the entry goes as time passes over the others (R72). -/
theorem exec_curtailExpiry {s : State} (running : s.resetHeld = false)
    (distinct : (s.stack.entries.map Entry.handle).Nodup) {below above : List Entry} {e : Entry}
    (split : s.stack.entries = below ++ e :: above) {left : Nat} (timed : e.remaining = some left) {p : Port}
    (owner : e.owner = .port p) :
    exec (.curtailExpiry e.handle) s =
      .next ((s.advance left).event fun _ =>
        ⟨{ s.advance left with stack := { s.stack with entries := (below ++ above).map fun x => x.pass left } },
          [directed p (.curtailExpired e.handle)]⟩) := by
  have passed : (s.advance left).stack.remove e.handle =
      { s.stack with entries := (below ++ above).map fun x => x.pass left } := by
    have handles : ((s.advance left).stack.entries.map Entry.handle).Nodup := by
      rw [show (s.advance left).stack.entries = s.stack.entries.map (Entry.pass left) from rfl, List.map_map]
      exact distinct
    have parts : (s.advance left).stack.entries =
        below.map (Entry.pass left) ++ e.pass left :: above.map (Entry.pass left) := by
      rw [show (s.advance left).stack.entries = s.stack.entries.map (Entry.pass left) from rfl, split,
        List.map_append, List.map_cons]
    rw [show e.handle = (e.pass left).handle from rfl, StackState.remove_eq_of_split _ _ _ _ handles parts,
      List.map_append]
    rfl
  change Host.Outcome.next (s.running _) = _
  rw [State.running_of s running]
  simp only [StackState.find_of_split distinct split, timed, State.after_some]
  unfold State.event
  simp only [passed, expiredEvents, ownerPort, owner]

/-- Settles O20: the four requests by the entry that they find, and an entry's expiry. -/
theorem ownEntriesChangeAndGo : Obligations.OwnEntriesChangeAndGo := by
  refine ⟨fun s p body taken => ⟨fun bad => ?_, fun some_ nonzero distinct => ⟨fun others => ?_, ?_⟩⟩, ?_,
    fun s running distinct below e above split => ⟨fun untimed => ?_, fun left p timed owner => ?_⟩⟩
  · have invalid := (CurtailValues.invalid_iff (curtailValues body 1)).2 bad
    exact congrArg Host.Outcome.next (taken.refused (by simp [answerAmend, invalid, refuse]))
  · have valid := (CurtailValues.valid_iff (curtailValues body 1)).2 ⟨some_, nonzero⟩
    have absent : (s.setPort p (s.ports.get p).taken).stack.ownDirect p (u8 body 0) = none :=
      StackState.ownDirect_none others
    exact congrArg Host.Outcome.next (taken.refused (by simp only [answerAmend, valid, if_true, absent, refuse]))
  · intro below e above split handle own
    have valid := (CurtailValues.valid_iff (curtailValues body 1)).2 ⟨some_, nonzero⟩
    have taking := taken.amendTaken valid (handle ▸ StackState.ownDirect_of_split distinct split own)
    rw [StackState.amend_of_split distinct split] at taking
    exact taking
  · intro s p own keeping distinct
    refine ⟨fun h taken => ⟨fun others => ?_, ?_⟩, fun taken => ⟨fun others => ?_, ?_⟩, fun taken => ?_⟩
    · have absent : (s.setPort p (s.ports.get p).taken).stack.ownDirect p (u8 [h] 0) = none :=
        StackState.ownDirect_none others
      exact congrArg Host.Outcome.next (taken.refused (by simp only [answerRelease, absent, refuse]))
    · intro below e above split handle mine
      have taking := taken.releaseTaken (handle ▸ StackState.ownDirect_of_split distinct split mine)
      rw [StackState.remove_eq_of_split _ below above e distinct split] at taking
      exact taking
    · have absent : (s.setPort p (s.ports.get p).taken).stack.topDirect p = none := StackState.topDirect_none others
      exact congrArg Host.Outcome.next (taken.refused (by simp only [answerPop, absent, refuse]))
    · intro below e above split mine others
      have taking := taken.popTaken (StackState.topDirect_of_split split mine others)
      rw [StackState.remove_eq_of_split _ below above e distinct split] at taking
      exact taking
    · have taking := taken.eventAnswered (u := keeping (s.stack.withoutDirect p).entries) (act := answerReleaseAll p)
        (told := []) rfl rfl
      have direct : (fun e : Entry => e.directOf p) = fun e => decide (e.origin = .direct ∧ e.owner = .port p) :=
        funext fun e => Bool.eq_iff_iff.2 ((Entry.directOf_iff p e).trans decide_eq_true_iff.symm)
      have counted : (s.setPort p (s.ports.get p).taken).stack.entries = s.stack.entries := rfl
      simp only [StackState.withoutDirect, counted, direct] at taking
      simp only [decide_not]
      exact ⟨_, rfl, taking⟩
  · change Host.Outcome.next (s.running _) = _
    rw [State.running_of s running]
    simp only [StackState.find_of_split distinct split, untimed, State.after_none]
  · exact ⟨_, exec_curtailExpiry running distinct split timed owner,
      State.event_leaves (s.advance left) fun _ => ⟨_, _⟩⟩

end Sys2Proof.Machine
end

section
/-! CLAIM_WATCH and RELEASE_WATCH (sections 5.2 and 5.3): the checks, and the slot that a taken request writes. -/

namespace Sys2Proof.Machine

/-! ### The slot written -/

/-- A list of eight slots is given by what stands in each. -/
theorem slots_ext {slots slots' : List (Option Claim)} (length : slots.length = 8) (length' : slots'.length = 8)
    (each : ∀ j < 8, slots.getD j none = slots'.getD j none) : slots = slots' := by
  refine List.ext_getElem (length.trans length'.symm) fun j inside inside' => ?_
  rw [← List.getD_eq_getElem _ none inside, ← List.getD_eq_getElem _ none inside', each j (by omega)]

theorem StackState.dropEntry_eq (st : StackState) (handle : Option Nat) :
    st.dropEntry handle = { st with entries := st.entries.filter fun e => decide (handle ≠ some e.handle) } := by
  rw [← StackState.Sound.dropEntry_entries]
  cases handle <;> rfl

/-- The watch table and the stack with slot k written anew, its entry gone, and slot k + 1 cleared with its entry if
its being chained from above changes (R79 to R82). -/
def State.reslotted (s : State) (k : Nat) (x : Option Claim) (changes : Bool) : State :=
  { s with
    stack := { s.stack with
      entries := s.stack.entries.filter fun e =>
        decide ¬ (slotEntry s.slots k = some e.handle ∨
          (changes = true ∧ slotEntry s.slots (k + 1) = some e.handle)) },
    slots := (List.range 8).map fun j =>
      if j = k then x
      else if j = k + 1 ∧ changes = true then (s.claim j).map Claim.cleared
      else s.claim j }

theorem State.reslotted_slot (s : State) (k : Nat) (x : Option Claim) (changes : Bool) {j : Nat} (slot : j < 8) :
    (s.reslotted k x changes).slots.getD j none =
      if j = k then x else if j = k + 1 ∧ changes = true then (s.claim j).map Claim.cleared else s.claim j := by
  rw [List.getD_eq_getElem _ _ (by simpa [State.reslotted] using slot)]
  simp only [State.reslotted, List.getElem_map, List.getElem_range]

/-- The first half of a claim or a release: the slot's entry goes, and the slot is written. -/
def State.rewritten (s : State) (k : Nat) (x : Option Claim) : State :=
  { s with stack := s.stack.dropEntry (slotEntry s.slots k), slots := s.slots.set k x }

theorem State.rewritten_slot {s : State} {k : Nat} (length : s.slots.length = 8) (slot : k ≤ 7) (x : Option Claim)
    (j : Nat) : (s.rewritten k x).slots.getD j none = if j = k then x else s.claim j := by
  have inside : k < s.slots.length := by omega
  simp only [State.rewritten, getD_set_none, inside, and_true, eq_comm (a := k), State.claim]

theorem clearSlot_get (slots : List (Option Claim)) (k j : Nat) :
    (clearSlot slots k).getD j none = if j = k then (slots.getD j none).map Claim.cleared else slots.getD j none := by
  unfold clearSlot
  cases claimed : slots.getD k none with
  | some c =>
    rw [getD_set_claimed claimed]
    by_cases same : j = k
    · subst same
      rw [if_pos rfl, if_pos rfl, claimed]
      rfl
    · rw [if_neg (Ne.symm same), if_neg same]
  | none =>
    by_cases same : j = k
    · subst same
      rw [if_pos rfl, claimed]
      rfl
    · rw [if_neg same]

theorem clearSlot_length (slots : List (Option Claim)) (k : Nat) : (clearSlot slots k).length = slots.length := by
  unfold clearSlot
  split <;> simp

theorem State.rewritten_eq {s : State} {k : Nat} (length : s.slots.length = 8) (slot : k ≤ 7) (x : Option Claim) :
    s.rewritten k x = s.reslotted k x false := by
  have slots : (s.rewritten k x).slots = (s.reslotted k x false).slots :=
    slots_ext (by simp [State.rewritten, length]) (by simp [State.reslotted]) fun j inside => by
      simp only [State.reslotted_slot s k x false inside, State.rewritten_slot length slot,
        Bool.false_eq_true, and_false, if_false]
  have stack : (s.rewritten k x).stack = (s.reslotted k x false).stack := by
    simp [State.rewritten, State.reslotted, StackState.dropEntry_eq]
  calc s.rewritten k x = { s with stack := (s.rewritten k x).stack, slots := (s.rewritten k x).slots } := rfl
    _ = s.reslotted k x false := by rw [slots, stack]; rfl

theorem State.rewritten_rechained {s : State} {k : Nat} (length : s.slots.length = 8) (slot : k ≤ 7)
    (x : Option Claim) : (s.rewritten k x).rechained (k + 1) = s.reslotted k x true := by
  have slots : ((s.rewritten k x).rechained (k + 1)).slots = (s.reslotted k x true).slots := by
    refine slots_ext (by simp [State.rechained, clearSlot_length, State.rewritten, length])
      (by simp [State.reslotted]) fun j inside => ?_
    rw [State.reslotted_slot s k x true inside, State.rechained, clearSlot_get, State.rewritten_slot length slot]
    simp only [and_true]
    by_cases here : j = k
    · simp only [here, if_true, Nat.left_eq_add, Nat.one_ne_zero, if_false]
    · simp only [here, if_false]
  have entry : slotEntry (s.rewritten k x).slots (k + 1) = slotEntry s.slots (k + 1) := by
    rw [slotEntry_eq_bind, slotEntry_eq_bind, State.rewritten_slot length slot, if_neg (by omega)]
    rfl
  have stack : ((s.rewritten k x).rechained (k + 1)).stack = (s.reslotted k x true).stack := by
    simp only [State.rechained, entry]
    simp [State.rewritten, State.reslotted, StackState.dropEntry_eq, List.filter_filter, Bool.and_comm]
  calc (s.rewritten k x).rechained (k + 1) =
        { s with
          stack := ((s.rewritten k x).rechained (k + 1)).stack,
          slots := ((s.rewritten k x).rechained (k + 1)).slots } := rfl
    _ = s.reslotted k x true := by rw [slots, stack]; rfl

theorem State.takeClaim_eq {s : State} {k : Nat} (length : s.slots.length = 8) (slot : k ≤ 7) (p : Port)
    (w : WatchSpec) :
    s.takeClaim p k w =
      s.reslotted k (some ⟨p, w.held, false, false, none⟩) (decide (chainFlag s.slots k ≠ w.chain)) := by
  by_cases changes : chainFlag s.slots k = w.chain
  · rw [decide_eq_false (not_not.2 changes), ← State.rewritten_eq length slot]
    simp only [State.takeClaim, changes, ne_eq, not_true_eq_false, decide_false, Bool.false_eq_true, if_false]
    rfl
  · rw [decide_eq_true changes, ← State.rewritten_rechained length slot]
    simp only [State.takeClaim, changes, ne_eq, not_false_eq_true, decide_true, if_true]
    rfl

theorem State.takeRelease_eq {s : State} {k : Nat} (length : s.slots.length = 8) (slot : k ≤ 7) :
    s.takeRelease k = s.reslotted k none (chainFlag s.slots k) := by
  cases chained : chainFlag s.slots k with
  | false =>
    rw [← State.rewritten_eq length slot]
    simp only [State.takeRelease, chained, Bool.false_eq_true, if_false]
    rfl
  | true =>
    rw [← State.rewritten_rechained length slot]
    simp only [State.takeRelease, chained, if_true]
    rfl

/-! ### The checks (R78, R79, R82) -/

theorem capValid_iff (cap : Option Nat) : capValid cap = true ↔ ∀ c, cap = some c → c ≤ 1000 := by
  cases cap <;> simp [capValid]

theorem WatchSpec.valid_iff (w : WatchSpec) (k : Nat) :
    w.valid k = true ↔
      w.first ≤ w.last ∧ w.last ≤ w.quantity.top ∧
      (w.quantity = .detector → 0 ≤ w.threshold ∧ w.threshold ≤ 255) ∧
      (w.action = .curtail → (w.chargeCap ≠ none ∨ w.dischargeCap ≠ none) ∧
        (∀ c, w.chargeCap = some c → c ≤ 1000) ∧ (∀ c, w.dischargeCap = some c → c ≤ 1000)) ∧
      (w.chain = true → k ≠ 7) := by
  simp only [WatchSpec.valid, Bool.and_eq_true, Bool.or_eq_true, decide_eq_true_iff, Bool.not_eq_true',
    Bool.and_eq_false_iff, decide_eq_false_iff_not, Option.isSome_iff_ne_none, capValid_iff, and_assoc]
  have chain : (w.chain = false ∨ ¬ k = 7) ↔ (w.chain = true → k ≠ 7) := by cases w.chain <;> simp
  rw [chain]
  tauto

theorem claimedByOther_claim (s : State) (p : Port) (k : Nat) :
    claimedByOther s.slots p k = true ↔ ∃ c, s.claim k = some c ∧ c.owner ≠ p := by
  unfold claimedByOther State.claim
  cases s.slots.getD k none <;> simp

theorem claimedBy_claim (s : State) (p : Port) (k : Nat) :
    claimedBy s.slots p k = true ↔ ∃ c, s.claim k = some c ∧ c.owner = p := by
  unfold claimedBy State.claim
  cases s.slots.getD k none <;> simp

theorem chainedFromAbove_claim (s : State) (k : Nat) :
    chainedFromAbove s.slots k = true ↔ ∃ j c, k = j + 1 ∧ s.claim j = some c ∧ c.spec.chain = true := by
  rw [chainedFromAbove_iff]
  constructor
  · rintro ⟨j, p, w, next, terms, chain⟩
    obtain ⟨c, claimed, -, rfl⟩ := (slotTerms_iff _ _ _ _).1 terms
    exact ⟨j, c, next, claimed, chain⟩
  · rintro ⟨j, c, next, claimed, chain⟩
    exact ⟨j, c.owner, c.spec, next, (slotTerms_iff _ _ _ _).2 ⟨c, claimed, rfl, rfl⟩, chain⟩

theorem chainFlag_of_claim {s : State} {k : Nat} {c : Claim} (claimed : s.claim k = some c) :
    chainFlag s.slots k = c.spec.chain := by
  rw [chainFlag, show s.slots.getD k none = some c from claimed]

/-- A slot that no port or this one has claimed. -/
theorem claimedByOther_eq_false {s : State} {p : Port} {k : Nat} (free : ¬ ∃ c, s.claim k = some c ∧ c.owner ≠ p) :
    claimedByOther s.slots p k = false :=
  Bool.eq_false_iff.2 fun claimed => free ((claimedByOther_claim s p k).1 claimed)

/-- The answers to CLAIM_WATCH, check by check. -/
theorem answerClaim_taken {p : Port} {body : List Byte} {q : PortState} {s : State} {w : WatchSpec}
    (slot : u8 body 0 ≤ 7) (free : claimedByOther s.slots p (u8 body 0) = false) (field : watchSpecField body = some w)
    (valid : w.valid (u8 body 0) = true) :
    answerClaim p body q s =
      if w.chain && !claimedBy s.slots p (u8 body 0 + 1) then refuse .wrongState q
      else .event .ok (byte1 (u8 body 0)) .ifChanged (Change.quiet (s.takeClaim p (u8 body 0) w)) := by
  simp [answerClaim, Nat.not_lt.2 slot, free, field, valid]

theorem answerClaim_invalid {p : Port} {body : List Byte} {q : PortState} {s : State}
    (slot : u8 body 0 ≤ 7) (free : claimedByOther s.slots p (u8 body 0) = false)
    (invalid : ∀ w, watchSpecField body = some w → w.valid (u8 body 0) = false) :
    answerClaim p body q s = refuse .range q := by
  cases field : watchSpecField body with
  | none => simp [answerClaim, Nat.not_lt.2 slot, free, field]
  | some w => simp [answerClaim, Nat.not_lt.2 slot, free, field, invalid w field]

/-- Settles O21: the checks in order, and the slot written (`State.takeClaim_eq`). -/
theorem claimWatchWritesTheSlot : Obligations.ClaimWatchWritesTheSlot := by
  intro s p body taken length k others valid ownsNext flag entryOf
  refine ⟨fun high => ?_, fun slot other => ?_, fun slot free invalid => ?_, fun w slot free field isValid =>
    ⟨fun chain lone => ?_, fun chain => ?_⟩⟩
  · exact congrArg Host.Outcome.next (taken.refused (if_pos high))
  · refine congrArg Host.Outcome.next (taken.refused ?_)
    exact (if_neg (Nat.not_lt.2 slot)).trans (if_pos ((claimedByOther_claim s p k).2 other))
  · exact congrArg Host.Outcome.next (taken.refused
      (answerClaim_invalid slot (claimedByOther_eq_false free) fun w field =>
        Bool.eq_false_iff.2 fun good => invalid w field ((WatchSpec.valid_iff w k).1 good)))
  · refine congrArg Host.Outcome.next (taken.refused
      ((answerClaim_taken (s := s.setPort p (s.ports.get p).taken) slot (claimedByOther_eq_false free) field
        ((WatchSpec.valid_iff w k).2 isValid)).trans
        (if_pos ?_)))
    rw [chain, Bool.true_and, Bool.not_eq_true', Bool.eq_false_iff]
    exact fun mine => lone ((claimedBy_claim s p (k + 1)).1 mine)
  · have answer := answerClaim_taken (p := p) (q := (s.ports.get p).taken) (s := s.setPort p (s.ports.get p).taken) slot
      (claimedByOther_eq_false free) field ((WatchSpec.valid_iff w k).2 isValid)
    rw [if_neg (fun alone => by
      rw [Bool.and_eq_true, Bool.not_eq_true', Bool.eq_false_iff] at alone
      exact alone.2 ((claimedBy_claim s p (k + 1)).2 (chain alone.1)))] at answer
    rw [State.takeClaim_eq (s := s.setPort p (s.ports.get p).taken) length slot] at answer
    refine ⟨_, rfl, ?_⟩
    have leaves := taken.eventAnswered
      (u := s.reslotted k (some ⟨p, w.held, false, false, none⟩) (decide (flag ≠ w.chain))) (told := []) rfl answer
    simp only [State.reslotted, decide_eq_true_iff, slotEntry_eq_bind] at leaves
    exact leaves

/-- A release that passes its checks (R82). -/
theorem answerReleaseWatch_taken {p : Port} {body : List Byte} {q : PortState} {s : State} {c : Claim}
    (slot : u8 body 0 ≤ 7) (claimed : s.claim (u8 body 0) = some c) (own : c.owner = p)
    (unchained : chainedFromAbove s.slots (u8 body 0) = false) :
    answerReleaseWatch p body q s = takenBy (Change.quiet (s.takeRelease (u8 body 0))) := by
  have mine : claimedByOther s.slots p (u8 body 0) = false := by
    refine claimedByOther_eq_false ?_
    rintro ⟨d, there, other⟩
    exact other (Option.some.inj (there.symm.trans claimed) ▸ own)
  simp [answerReleaseWatch, Nat.not_lt.2 slot, claimed, mine, unchained]

/-- Settles O22: the checks in order, and the slot freed (`State.takeRelease_eq`). -/
theorem releaseWatchFreesTheSlot : Obligations.ReleaseWatchFreesTheSlot := by
  intro s p slot taken length k chained entryOf
  refine ⟨fun high => ?_, fun low free => ?_, fun c low claimed => ⟨fun other => ?_, fun own chain => ?_,
    fun own chain => ?_⟩⟩
  · exact congrArg Host.Outcome.next (taken.refused (if_pos high))
  · refine congrArg Host.Outcome.next (taken.refused ((if_neg (Nat.not_lt.2 low)).trans (if_pos ?_)))
    exact Option.isNone_iff_eq_none.2 free
  · have busy : ¬ (s.claim k).isNone = true := by simp [claimed]
    refine congrArg Host.Outcome.next (taken.refused
      ((if_neg (Nat.not_lt.2 low)).trans ((if_neg busy).trans (if_pos ?_))))
    exact (claimedByOther_claim s p k).2 ⟨c, claimed, other⟩
  · have busy : ¬ (s.claim k).isNone = true := by simp [claimed]
    have mine : ¬ claimedByOther s.slots p k = true := fun taken => by
      obtain ⟨d, there, other⟩ := (claimedByOther_claim s p k).1 taken
      exact other (Option.some.inj (there.symm.trans claimed) ▸ own)
    refine congrArg Host.Outcome.next (taken.refused
      ((if_neg (Nat.not_lt.2 low)).trans ((if_neg busy).trans ((if_neg mine).trans (if_pos ?_)))))
    exact (chainedFromAbove_claim s k).2 chain
  · have unchained : chainedFromAbove s.slots k = false :=
      Bool.eq_false_iff.2 fun above => chain ((chainedFromAbove_claim s k).1 above)
    have answer := answerReleaseWatch_taken (p := p) (q := (s.ports.get p).taken)
      (s := s.setPort p (s.ports.get p).taken) (body := [slot]) low claimed own unchained
    rw [show u8 [slot] 0 = k from rfl,
      State.takeRelease_eq (s := s.setPort p (s.ports.get p).taken) length low] at answer
    refine ⟨_, rfl, ?_⟩
    have leaves := taken.eventAnswered (u := s.reslotted k none (chainFlag s.slots k)) (told := []) rfl answer
    rw [chainFlag_of_claim claimed] at leaves
    simp only [State.reslotted, slotEntry_eq_bind] at leaves
    exact leaves

end Sys2Proof.Machine
end

section
/-! The requests, the inputs and the timebase of the thermal controller (sections 6.1, 6.2, 6.4 and 6.6). -/

namespace Sys2Proof.Machine

/-! ### What an event leaves of the thermal record -/

/-- Of the thermal record an event's work counts only as far as it does not follow from other state. -/
theorem EventLeaves.rethermal {u t : State} {told : List Raised} (leaves : EventLeaves u told t) {x : ThermalState}
    (rest : u.thermal =
      { x with
        forcing := u.thermal.forcing, channels := u.thermal.channels, damperOpen := u.thermal.damperOpen,
        tachs := u.thermal.tachs })
    (modes : ∀ c, (u.thermal.channels.get c).mode = (x.channels.get c).mode ∧
      (u.thermal.channels.get c).manual = (x.channels.get c).manual)
    (checks : ∀ ch, ∃ grace retry noted, u.thermal.tachs.get ch =
      { x.tachs.get ch with grace := grace, retry := retry, armedSinceStart := noted }) :
    EventLeaves { u with thermal := x } told t :=
  { leaves with
    thermal := by
      have settled := leaves.thermal
      rw [rest] at settled
      exact settled
    modes := fun c => ⟨(leaves.modes c).1.trans (modes c).1, (leaves.modes c).2.trans (modes c).2⟩
    checks := fun ch => by
      obtain ⟨grace, retry, noted, written⟩ := checks ch
      have settled := leaves.checks ch
      rw [written] at settled
      exact settled }

/-- A request answered by an event leaves what the settling leaves, with the response placed. -/
theorem Takes.settles {s : State} {p : Port} {k : RequestKind} {body : List Byte} (taken : Takes s p k body)
    {act : List Byte → PortState → State → Answer} {o : Reply} {b : List Byte} {w : Publication} {x : Change}
    (answer : act body (s.ports.get p).taken (s.setPort p (s.ports.get p).taken) = .event o b w x) :
    (s.running fun s => s.serve p k act) =
      ((s.setPort p (s.ports.get p).taken).settle w x).respond p k.code o b := by
  rw [State.serve_takes taken, answer]
  rfl

/-- A channel after an event that R100 does not name and that leaves the fire state: selected afresh (R96). -/
theorem State.settle_channel {b : State} {x : Change} (table : x.st.table = b.table) (conn : x.st.conn = b.conn)
    (fire : x.st.fire = b.fire) (config : x.st.config = b.config) (c : DutyChannel) :
    (State.settle b .ifChanged x).thermal.channels.get c =
      reselected b.config.configured (x.st.thermal.forcing.get c) (forcedBy b.fire.status b.fire.causes c)
        (x.st.thermal.channels.get c) := by
  have still : demandDue (decide (Publication.ifChanged = .sweep)) b x.st = false := by
    simp [demandDue, table, conn, fire, config]
  rw [State.settle_thermal, rederiveThermal_channel, still, fireForcing_get, fire, config]
  rfl

theorem selectedDuty_eq {forced : Option Nat} (r : ChannelRecord) :
    selectedDuty true forced r =
      forced.getD (match r.mode with
        | .manual => r.manual.getD 0
        | .auto => r.automatic) := by
  cases forced <;> rfl

/-! ### COOLING_MANUAL and COOLING_AUTO (R97, R98) -/

theorem dutyOfCode_none {n : Nat} (high : 5 ≤ n) : dutyOfCode n = none :=
  match n, high with
  | _ + 5, _ => rfl

theorem dutyOfCode_dutyCode (c : DutyChannel) : dutyOfCode (dutyCode c) = some c := by cases c <;> rfl

theorem Connection.disconnected_iff (n : Connection) : n.disconnected = true ↔ n = .opened ∨ n.isLocked = true := by
  cases n <;> simp [Connection.disconnected, Connection.isLocked]

/-- A channel whose mode an event has written, with the selected duty that follows (R96 to R98). -/
theorem settle_setChannel {b x : State} {c : DutyChannel} {r : ChannelRecord}
    (written : x = { b with thermal := b.thermal.setChannel c r }) (configured : b.config.configured = true) :
    ((State.settle b .ifChanged (Change.quiet x)).thermal.channels.get c).selected =
      (forcedBy b.fire.status b.fire.causes c).getD (match r.mode with
        | .manual => r.manual.getD 0
        | .auto => r.automatic) := by
  subst written
  rw [State.settle_channel (b := b) (x := Change.quiet { b with thermal := b.thermal.setChannel c r }) rfl rfl rfl rfl,
    reselected_selected, configured, selectedDuty_eq]
  simp [ThermalState.setChannel]

theorem coolingManual_taken {s : State} {p : Port} {code high low : Byte}
    (taken : Takes s p .coolingManual [code, high, low]) {c : DutyChannel} (named : code.toNat = dutyCode c)
    (configured : s.config.configured = true)
    (disconnected : s.conn.connection = .opened ∨ s.conn.connection.isLocked = true) :
    ∃ t, exec (.coolingManual p) s = .next t ∧
      EventLeaves
        (({ s with
            thermal := { s.thermal with
              channels := s.thermal.channels.set c
                { s.thermal.channels.get c with
                  mode := .manual, manual := some (min 1000 (high.toNat * 256 + low.toNat)) } } } : State).answered p
          0x48 (if high.toNat * 256 + low.toNat ≤ 1000 then .ok else .clamped) [])
        [] t ∧
      (t.thermal.channels.get c).selected =
        (forcedBy s.fire.status s.fire.causes c).getD (min 1000 (high.toNat * 256 + low.toNat)) := by
  have answer : answerCoolingManual [code, high, low] (s.ports.get p).taken (s.setPort p (s.ports.get p).taken) =
      .event (if high.toNat * 256 + low.toNat ≤ 1000 then .ok else .clamped) [] .ifChanged
        (Change.quiet
          { s.setPort p (s.ports.get p).taken with
            thermal := s.thermal.setChannel c
              ((s.thermal.channels.get c).toManual (min 1000 (high.toNat * 256 + low.toNat))) }) := by
    have code_ : dutyOfCode (u8 [code, high, low] 0) = some c := by
      rw [show u8 [code, high, low] 0 = dutyCode c from named, dutyOfCode_dutyCode]
    have given : u16 [code, high, low] 1 = high.toNat * 256 + low.toNat := rfl
    simp [answerCoolingManual, code_, configured, (Connection.disconnected_iff _).2 disconnected, given]
  refine ⟨_, rfl, taken.eventAnswered rfl answer, ?_⟩
  rw [taken.settles answer]
  exact settle_setChannel (b := s.setPort p (s.ports.get p).taken) rfl configured

theorem coolingAuto_taken {s : State} {p : Port} {code : Byte} (taken : Takes s p .coolingAuto [code])
    {c : DutyChannel} (named : code.toNat = dutyCode c) :
    ∃ t, exec (.coolingAuto p) s = .next t ∧
      EventLeaves
        (({ s with
            thermal := { s.thermal with
              channels := s.thermal.channels.set c
                { s.thermal.channels.get c with mode := .auto, manual := none } } } : State).answered p 0x49 .ok [])
        [] t ∧
      (s.config.configured = true →
        (t.thermal.channels.get c).selected =
          (forcedBy s.fire.status s.fire.causes c).getD (s.thermal.channels.get c).automatic) := by
  have answer : answerCoolingAuto [code] (s.ports.get p).taken (s.setPort p (s.ports.get p).taken) =
      takenBy (Change.quiet
        { s.setPort p (s.ports.get p).taken with
          thermal := s.thermal.setChannel c (s.thermal.channels.get c).toAuto }) := by
    have code_ : dutyOfCode (u8 [code] 0) = some c := by
      rw [show u8 [code] 0 = dutyCode c from named, dutyOfCode_dutyCode]
    simp [answerCoolingAuto, code_]
  refine ⟨_, rfl, taken.eventAnswered rfl answer, fun configured => ?_⟩
  rw [taken.settles answer]
  exact settle_setChannel (b := s.setPort p (s.ports.get p).taken) rfl configured

/-! ### COOLING_RETRY (R109) -/

/-- An event that leaves the forcing as the fire state gives it leaves both timers of a tach channel whose active duty
its work has left (R105, R108). -/
theorem State.settle_timers {b : State} {w : Publication} {x : Change}
    (forcing : x.st.thermal.forcing = fireForcing x.st.fire.status x.st.fire.causes) (ch : TachChannel) :
    ((State.settle b w x).thermal.tachs.get ch).grace = (x.st.thermal.tachs.get ch).grace ∧
    ((State.settle b w x).thermal.tachs.get ch).retry = (x.st.thermal.tachs.get ch).retry := by
  have held : heldAtZero (State.settle b w x).thermal.forcing ch = heldAtZero x.st.thermal.forcing ch := by
    rw [State.settle_forcing, forcing]
  have duty : (State.settle b w x).activeDuty ch = x.st.activeDuty ch := by
    rw [State.activeDuty, State.settle_thermal, rederiveThermal_active, rederiveThermal_forcing, forcing,
      if_neg (not_not.2 rfl)]
    rfl
  obtain ⟨grace, retry⟩ := State.settle_tach b w x ch
  rw [held, duty, TachRecord.follow_still] at grace retry
  exact ⟨grace, retry⟩

theorem TachRecord.retried_of_healthy {r : TachRecord} (healthy : r.check = .healthy) (held : Bool) :
    r.retried held = r := by
  simp [TachRecord.retried, healthy, CheckState.isFaulted]

theorem TachRecord.retried_of_faulted {r : TachRecord} (faulted : r.check ≠ .healthy) (held : Bool) :
    r.retried held =
      { r with
        check := .healthy, retries := 0, retry := .stopped,
        grace := if held then .stopped else .running 5000000 } := by
  rw [TachRecord.retried, if_pos ((CheckState.isFaulted_iff _).2 faulted)]
  rfl

theorem retryEvents_eq (tachs : Tachs TachRecord) :
    retryEvents tachs =
      [TachChannel.fanA, .fanB, .pump].filterMap fun ch =>
        if (tachs.get ch).check = .healthy then none else some (broadcast (.coolingFault ch .healthy)) := by
  have each : ∀ ch, (if (tachs.get ch).check.isFaulted then [broadcast (.coolingFault ch .healthy)] else []) =
      (if (tachs.get ch).check = .healthy then none else some (broadcast (.coolingFault ch .healthy))).toList :=
    fun ch => by cases (tachs.get ch).check <;> rfl
  rw [List.filterMap_eq_flatMap_toList]
  exact congrArg (fun f => tachOrder.flatMap f) (funext each)

/-- What a taken COOLING_RETRY leaves (R109, R110). -/
theorem coolingRetry_taken {s : State} {p : Port} (taken : Takes s p .coolingRetry [])
    (forcing : ∀ c, s.thermal.forcing.get c = forcedBy s.fire.status s.fire.causes c) :
    ∃ t, exec (.coolingRetry p) s = .next t ∧
      EventLeaves
        (({ s with
            thermal := s.thermal.withTachs (Tachs.of fun ch =>
              (s.thermal.tachs.get ch).retried (heldAtZero s.thermal.forcing ch)) } : State).answered p 0x4A .ok [])
        (retryEvents s.thermal.tachs) t ∧
      ∀ ch,
        (t.thermal.tachs.get ch).grace =
          ((s.thermal.tachs.get ch).retried (heldAtZero s.thermal.forcing ch)).grace ∧
        (t.thermal.tachs.get ch).retry =
          ((s.thermal.tachs.get ch).retried (heldAtZero s.thermal.forcing ch)).retry := by
  refine ⟨_, rfl, taken.eventAnswered rfl rfl, fun ch => ?_⟩
  rw [taken.settles (act := answerCoolingRetry) rfl]
  have follows : s.thermal.forcing = fireForcing s.fire.status s.fire.causes :=
    Channels.ext_get fun c => by rw [fireForcing_get, forcing]
  refine (State.settle_timers (w := .ifChanged) (b := s.setPort p (s.ports.get p).taken)
    (x := ⟨{ s.setPort p (s.ports.get p).taken with
        thermal := s.thermal.withTachs (Tachs.of fun ch =>
          (s.thermal.tachs.get ch).retried (heldAtZero s.thermal.forcing ch)) },
      retryEvents s.thermal.tachs⟩) follows ch).imp (fun grace => grace.trans ?_) fun retry => retry.trans ?_
  all_goals simp only [ThermalState.withTachs, Tachs.get_of]

theorem TachRecord.retried_check (r : TachRecord) (held : Bool) : (r.retried held).check = .healthy := by
  by_cases healthy : r.check = .healthy
  · rw [TachRecord.retried_of_healthy healthy, healthy]
  · rw [TachRecord.retried_of_faulted healthy]

/-- A retry of one channel, but for its timers. -/
theorem TachRecord.retried_checks (r : TachRecord) (held : Bool) :
    r.retried held =
      { (if r.check = .healthy then r else { r with check := .healthy, retries := 0 }) with
        grace := (r.retried held).grace, retry := (r.retried held).retry, armedSinceStart := r.armedSinceStart } := by
  by_cases healthy : r.check = .healthy
  · rw [if_pos healthy, TachRecord.retried_of_healthy healthy]
  · rw [if_neg healthy, TachRecord.retried_of_faulted healthy]

/-- Settles O23: what a written mode and a retry leave, and what follows from them. -/
theorem coolingRequests : Obligations.CoolingRequests := by
  refine ⟨fun s p code high low => ⟨fun taken => ⟨fun none_ => ?_, fun c named =>
      ⟨fun unconfigured => ?_, fun configured unopened unlocked => ?_, coolingManual_taken taken named⟩⟩,
    fun taken => ⟨fun none_ => ?_, fun c named => coolingAuto_taken taken named⟩⟩, fun s p taken forcing => ?_⟩
  · have unnamed : dutyOfCode (u8 [code, high, low] 0) = none := dutyOfCode_none none_
    exact congrArg Host.Outcome.next (taken.refused (by simp [answerCoolingManual, unnamed, refuse]))
  · have code_ : dutyOfCode (u8 [code, high, low] 0) = some c := by
      rw [show u8 [code, high, low] 0 = dutyCode c from named, dutyOfCode_dutyCode]
    exact congrArg Host.Outcome.next (taken.refused (by simp [answerCoolingManual, code_, unconfigured, refuse]))
  · have code_ : dutyOfCode (u8 [code, high, low] 0) = some c := by
      rw [show u8 [code, high, low] 0 = dutyCode c from named, dutyOfCode_dutyCode]
    have connected : s.conn.connection.disconnected = false := by
      rw [Bool.eq_false_iff, ne_eq, Connection.disconnected_iff]
      simp [unopened, unlocked]
    exact congrArg Host.Outcome.next (taken.refused (by
      simp [answerCoolingManual, code_, configured, connected, refuse]))
  · have unnamed : dutyOfCode (u8 [code] 0) = none := dutyOfCode_none none_
    exact congrArg Host.Outcome.next (taken.refused (by simp [answerCoolingAuto, unnamed, refuse]))
  · obtain ⟨t, ran, leaves, timers⟩ := coolingRetry_taken taken forcing
    refine ⟨t, ran, ?_, fun ch => ⟨fun faulted => ?_, fun healthy => ?_⟩⟩
    · rw [retryEvents_eq] at leaves
      refine leaves.rethermal ?_ (fun _ => ⟨rfl, rfl⟩) fun ch => ?_
      · have normal : coolingOf (Tachs.of fun ch =>
            (s.thermal.tachs.get ch).retried (heldAtZero s.thermal.forcing ch)) = .normal :=
          (coolingOf_normal_iff _).2 ⟨TachRecord.retried_check _ _, TachRecord.retried_check _ _,
            TachRecord.retried_check _ _⟩
        change s.thermal.withTachs _ = _
        simp only [ThermalState.withTachs, normal]
        rfl
      · rw [Tachs.get_of]
        exact ⟨_, _, _, (Tachs.get_of _ ch).trans (TachRecord.retried_checks _ _)⟩
    · obtain ⟨grace, retry⟩ := timers ch
      rw [TachRecord.retried_of_faulted faulted] at grace retry
      exact ⟨retry, grace.trans (if_congr (decide_eq_true_iff) rfl rfl)⟩
    · obtain ⟨grace, retry⟩ := timers ch
      rw [TachRecord.retried_of_healthy healthy] at grace retry
      exact ⟨retry, grace⟩

/-! ### The tach inputs and timers (R104, R105, R107) -/

theorem TachRecord.level_eq (r : TachRecord) (high : Bool) :
    r.level high =
      { r with
        filteredHigh := high,
        pulses := if r.filteredHigh = false ∧ high = true then r.pulses + 1 else r.pulses } := by
  cases high <;> cases read : r.filteredHigh <;> simp [TachRecord.level, read]

theorem exec_graceTimerExpiry {s : State} (running : s.resetHeld = false) {ch : TachChannel} {left : Nat}
    (timer : (s.thermal.tachs.get ch).grace = .running left) :
    exec (.graceTimerExpiry ch) s =
      .next ((s.advance left).setTach ch
        (if (s.advance left).thermal.windowLeft = 1000000 then
          (((s.advance left).thermal.tachs.get ch).graceRunOut).noteArmed
            (armed s.config s.thermal.forcing s.thermal.channels ch
              ((s.advance left).thermal.tachs.get ch).graceRunOut)
        else ((s.advance left).thermal.tachs.get ch).graceRunOut)) := by
  change Host.Outcome.next (s.running _) = _
  rw [State.running_of s running]
  simp only [timer, Timer.due_running, State.after_some]
  rfl

/-- Whether a channel counts as armed from the window that begins now (log entry 18). -/
theorem armed_setTach_iff (s : State) (ch : TachChannel) (r : TachRecord) :
    armed s.config s.thermal.forcing s.thermal.channels ch r = true ↔ Armed (s.setTach ch r) ch := by
  have read : (s.setTach ch r).thermal.tachs.get ch = r := by simp
  rw [← State.armed_iff, read]
  exact Iff.rfl

/-- Settles O24, input by input and timer by timer. -/
theorem tachInputsAndTimers : Obligations.TachInputsAndTimers := by
  refine fun s ch running => ⟨fun high => ?_, fun left timer => ⟨fun later => ?_, fun begins => ⟨fun arms => ?_,
    fun unarmed => ?_⟩⟩, fun left timer faulted => ?_⟩
  · change Host.Outcome.next (s.running _) = _
    rw [State.running_of s running, TachRecord.level_eq]
  · rw [exec_graceTimerExpiry running timer, if_neg later]
    rfl
  · rw [exec_graceTimerExpiry running timer, if_pos begins]
    have noted := (armed_setTach_iff (s.advance left) ch ((s.advance left).thermal.tachs.get ch).graceRunOut).2 arms
    exact congrArg (fun n => Host.Outcome.next ((s.advance left).setTach ch
      (((s.advance left).thermal.tachs.get ch).graceRunOut.noteArmed n))) noted
  · rw [exec_graceTimerExpiry running timer, if_pos begins]
    have noted := Bool.eq_false_iff.2 (mt
      (armed_setTach_iff (s.advance left) ch ((s.advance left).thermal.tachs.get ch).graceRunOut).1 unarmed)
    exact congrArg (fun n => Host.Outcome.next ((s.advance left).setTach ch
      (((s.advance left).thermal.tachs.get ch).graceRunOut.noteArmed n))) noted
  · change Host.Outcome.next (s.running _) = _
    rw [State.running_of s running, if_pos faulted]
    simp only [timer, Timer.due_running, State.after_some, TachRecord.tryAgain, TachRecord.startGrace, heldAtZero,
      decide_eq_true_iff]
    rfl

/-! ### The timebase (R93 to R95, R102) -/

/-- A channel of which nothing that it follows has changed stays as it is (R95, R96). -/
theorem reselected_still {configured : Bool} {forced : Option Nat} {r : ChannelRecord}
    (selected : r.selected = selectedDuty configured forced r) : reselected configured forced forced r = r := by
  simp [reselected, ← selected]

/-- The thermal record that a period start leaves once settled: the channels are those that the start makes. -/
theorem periodStart_channels {b : State} (follow : DutiesFollow b) (c : DutyChannel) :
    ((State.settle b .ifChanged
      (Change.quiet { b with thermal := b.thermal.periodStart b.config })).thermal.channels.get c) =
      { b.thermal.channels.get c with active := (b.thermal.channels.get c).shadow } := by
  rw [State.settle_channel (b := b) (x := Change.quiet { b with thermal := b.thermal.periodStart b.config }) rfl rfl
    rfl rfl, ← follow.forcing c]
  change reselected _ (b.thermal.forcing.get c) _ ((b.thermal.periodStart b.config).channels.get c) = _
  rw [periodStart_channel]
  exact reselected_still (((dutiesFollow_iff b).1 follow).selected c)

theorem DutiesFollow.advance {s : State} (follow : DutiesFollow s) (dt : Nat) : DutiesFollow (s.advance dt) :=
  dutiesFollow_kept.advance dt follow

theorem exec_pwmPeriodStart {s : State} (running : s.resetHeld = false) :
    exec .pwmPeriodStart s =
      .next (State.settle (s.advance s.thermal.pwm.left) .ifChanged
        (Change.quiet
          { s.advance s.thermal.pwm.left with
            thermal :=
              (s.advance s.thermal.pwm.left).thermal.periodStart (s.advance s.thermal.pwm.left).config })) := by
  change Host.Outcome.next (s.running _) = _
  rw [State.running_of s running, State.after_some]
  rfl

/-- The levels of a duty output (R94). -/
theorem outputHigh_iff (t : ThermalState) (c : DutyChannel) :
    t.outputHigh c = true ↔
      (windowActive t.pwm.period (t.channels.get c).active (t.pwm.centred.get c) t.pwm.position = true ↔
        t.pwm.activeLow.get c = false) := by
  unfold ThermalState.outputHigh
  cases windowActive t.pwm.period (t.channels.get c).active (t.pwm.centred.get c) t.pwm.position <;>
    cases t.pwm.activeLow.get c <;> simp

theorem windowActive_iff (period duty : Nat) (centre : Bool) (position : Nat) :
    windowActive period duty centre position = true ↔
      windowStart period duty centre ≤ position ∧
        position < windowStart period duty centre + period * duty / 1000 := by
  rw [windowActive, Bool.and_eq_true, decide_eq_true_iff, decide_eq_true_iff, compareTime]

theorem windowActive_zero (period position : Nat) (centre : Bool) : windowActive period 0 centre position = false := by
  rw [Bool.eq_false_iff, ne_eq, windowActive_iff]
  omega

theorem windowActive_full {period position : Nat} (inside : position < period) (centre : Bool) :
    windowActive period 1000 centre position = true := by
  have compare : period * 1000 / 1000 = period := Nat.mul_div_cancel _ (by decide)
  have start : windowStart period 1000 centre = 0 := by cases centre <;> simp [windowStart, compareTime, compare]
  rw [windowActive_iff, compare, start]
  omega

theorem PwmState.position_lt (p : PwmState) (positive : 0 < p.period) : p.position < p.period := by
  unfold PwmState.position
  omega

/-- The tach records at a period start, but for their timers. -/
theorem periodStart_checks (t : ThermalState) (c : ConfigSet) (ch : TachChannel) :
    ∃ grace retry noted, (t.periodStart c).tachs.get ch =
      { t.tachs.get ch with grace := grace, retry := retry, armedSinceStart := noted } := by
  rw [periodStart_tach, TachRecord.follow_eq]
  exact ⟨_, _, _, rfl⟩

theorem periodStart_modes (t : ThermalState) (c : ConfigSet) (d : DutyChannel) :
    ((t.periodStart c).channels.get d).mode = (t.channels.get d).mode ∧
    ((t.periodStart c).channels.get d).manual = (t.channels.get d).manual := by
  rw [periodStart_channel]
  exact ⟨rfl, rfl⟩

theorem periodStart_leaves (b : State) :
    EventLeaves
      { b with
        thermal := { b.thermal with
          pwm := ⟨b.config.pwmPeriod, b.config.pwmPeriod, b.config.centred, b.config.activeLow,
            b.config.releaseActiveLow⟩ } }
      []
      (State.settle b .ifChanged (Change.quiet { b with thermal := b.thermal.periodStart b.config })) := by
  have leaves := State.settle_leaves b .ifChanged
    (Change.quiet { b with thermal := b.thermal.periodStart b.config })
  exact leaves.rethermal rfl (periodStart_modes b.thermal b.config) (periodStart_checks b.thermal b.config)

/-- The damper at a period start (R102). -/
theorem periodStart_damper {b : State} (follow : DutiesFollow b) :
    (State.settle b .ifChanged
      (Change.quiet { b with thermal := b.thermal.periodStart b.config })).thermal.damperOpen = true ↔
      0 < b.thermal.channels.fanA.shadow ∨ 0 < b.thermal.channels.fanB.shadow ∨
        0 < b.thermal.channels.exhaust.shadow := by
  have each := fun c => congrArg ChannelRecord.active (periodStart_channels follow c)
  rw [← show _ = b.thermal.channels.fanA.shadow from each .fanA,
    ← show _ = b.thermal.channels.fanB.shadow from each .fanB,
    ← show _ = b.thermal.channels.exhaust.shadow from each .exhaust, State.settle_thermal]
  exact damperOf_iff _

/-- A shadow duty above 0 is not held at 0 by the forcing (R103). -/
theorem unheld_of_shadow {s : State} (follow : DutiesFollow s) {ch : TachChannel}
    (above : 0 < (s.thermal.channels.get (dutyOf ch)).shadow) : heldAtZero s.thermal.forcing ch = false := by
  by_contra held
  have follows := (dutiesFollow_iff s).1 follow
  have zero : s.thermal.forcing.get (dutyOf ch) = some 0 := (heldAtZero_iff s ch).1 (Bool.not_eq_false _ ▸ held)
  rw [(follows.channels (dutyOf ch)).shadow, follows.selected, zero, selectedDuty_zero] at above
  exact Nat.lt_irrefl 0 above

/-- The timers of a tach channel at a period start (R105). -/
theorem periodStart_timers {b : State} (follow : DutiesFollow b) (ch : TachChannel) :
    ((State.settle b .ifChanged
      (Change.quiet { b with thermal := b.thermal.periodStart b.config })).thermal.tachs.get ch).grace =
        (if (b.thermal.channels.get (dutyOf ch)).active = 0 ∧ 0 < (b.thermal.channels.get (dutyOf ch)).shadow then
          .running 5000000 else (b.thermal.tachs.get ch).grace) ∧
    ((State.settle b .ifChanged
      (Change.quiet { b with thermal := b.thermal.periodStart b.config })).thermal.tachs.get ch).retry =
        (b.thermal.tachs.get ch).retry := by
  obtain ⟨grace, retry⟩ := State.settle_timers (b := b) (w := .ifChanged)
    (x := Change.quiet { b with thermal := b.thermal.periodStart b.config }) ((dutiesFollow_iff b).1 follow).forcing ch
  rw [grace, retry, Change.quiet_st]
  dsimp only
  rw [periodStart_tach, periodStart_channel]
  refine ⟨?_, TachRecord.follow_retry⟩
  by_cases rises : (b.thermal.channels.get (dutyOf ch)).active = 0 ∧ 0 < (b.thermal.channels.get (dutyOf ch)).shadow
  · rw [if_pos rises]
    dsimp only
    rw [TachRecord.follow_rises rises.1 rises.2, unheld_of_shadow follow rises.2]
    rfl
  · rw [if_neg rises]
    dsimp only
    rw [TachRecord.follow_level rises]

/-- Settles O25: the start of a period channel by channel, and the level of an output by its window. -/
theorem periodStartTakesShadowDuties : Obligations.PeriodStartTakesShadowDuties := by
  refine ⟨fun s running follow => ?_, fun s c => ?_⟩
  · have started := exec_pwmPeriodStart running
    have follow' := follow.advance s.thermal.pwm.left
    refine ⟨_, started, ?_, fun c => periodStart_channels follow' c, ?_, fun ch => ?_⟩
    · exact periodStart_leaves (s.advance s.thermal.pwm.left)
    · exact periodStart_damper follow'
    · exact (periodStart_timers follow' ch).symm
  · have level : s.lines.outputs.get c = s.thermal.outputHigh c := Channels.get_of _ c
    rw [level, outputHigh_iff]
    refine ⟨?_, fun zero => ?_, fun full positive => ?_⟩
    · rw [windowActive_iff]
      rfl
    · rw [show (s.thermal.channels.get c).active = 0 from zero, windowActive_zero]
      simp
    · rw [show (s.thermal.channels.get c).active = 1000 from full,
        windowActive_full (PwmState.position_lt _ positive)]
      simp

end Sys2Proof.Machine
end

section
/-! Detector samples, the sampling event, and the disablement of a detector (sections 7.1 to 7.4). -/

namespace Sys2Proof.Machine

/-! ### A sample (R116 to R119, R121) -/

theorem inRange_iff (level : Nat) : inRange level = true ↔ 1 ≤ level ∧ level ≤ 254 := by
  rw [inRange, Bool.and_eq_true, decide_eq_true_iff, decide_eq_true_iff]

/-- A run count goes up by one, to 255 at most, or returns to 0 (R116). -/
theorem bump_run (old : Nat) {test : Bool} {meets : Prop} (same : test = true ↔ meets) :
    (meets → bump old test = min 255 (old + 1)) ∧ (¬ meets → bump old test = 0) :=
  ⟨fun holds => if_pos (same.2 holds), fun fails => if_neg (mt same.1 fails)⟩

section
variable (d : Detector) (c : ConfigSet) {k : DetectorKind} (level : Nat)

/-- A FAULT detector that has been in range ten times in a row is NORMAL, its judging runs at 0 (R119). -/
theorem Detector.sample_returning (kind : k ≠ .none) (fault : d.state = .fault)
    (returns : 10 ≤ bump d.inRangeRun (inRange level)) :
    d.sample c k level = { (d.runsAfter c k level).clearRuns with state := .normal } := by
  have state : (d.runsAfter c k level).state = .fault := fault
  have after : (d.runsAfter c k level).stateAfter = .normal := by
    unfold Detector.stateAfter
    rw [state]
    exact if_pos returns
  rw [Detector.sample, if_neg kind]
  exact if_pos ⟨fault, after⟩

/-- Any other sample leaves the runs counted, and the state that they give. -/
theorem Detector.sample_counting (kind : k ≠ .none)
    (stays : d.state = .fault → bump d.inRangeRun (inRange level) < 10) :
    d.sample c k level = { d.runsAfter c k level with state := (d.runsAfter c k level).stateAfter } := by
  rw [Detector.sample, if_neg kind]
  refine if_neg fun both => ?_
  have state : (d.runsAfter c k level).state = .fault := both.1
  have after := both.2
  unfold Detector.stateAfter at after
  rw [state] at after
  dsimp only at after
  rw [if_neg (show ¬ 10 ≤ (d.runsAfter c k level).inRangeRun from Nat.not_le.2 (stays both.1))] at after
  exact nomatch after

/-- A run count that a MANUAL detector does not keep (R116). -/
theorem unkept_run (old : Nat) {test : Bool} {meets : Prop}
    (same : test = true ↔ meets) (k : DetectorKind) :
    (k ≠ .manual ∧ meets → (if k = .manual then 0 else bump old test) = min 255 (old + 1)) ∧
    (¬ (k ≠ .manual ∧ meets) → (if k = .manual then 0 else bump old test) = 0) := by
  by_cases manual : k = .manual
  · simp [manual]
  · simpa [manual] using bump_run old same

/-- R117's table: the counts of a NORMAL or PRE detector decide its state. -/
theorem Detector.stateAfter_judged (judged : d.state = .normal ∨ d.state = .pre) :
    (3 ≤ d.faultRun → d.stateAfter = .fault) ∧
    (d.faultRun < 3 → 3 ≤ d.alarmRun → d.stateAfter = .alarm) ∧
    (d.faultRun < 3 → d.alarmRun < 3 → d.state = .normal → 3 ≤ d.preRun → d.stateAfter = .pre) ∧
    (d.faultRun < 3 → d.alarmRun < 3 → d.state = .normal → d.preRun < 3 → d.stateAfter = .normal) ∧
    (d.faultRun < 3 → d.alarmRun < 3 → d.state = .pre → 10 ≤ d.clearRun → d.stateAfter = .normal) ∧
    (d.faultRun < 3 → d.alarmRun < 3 → d.state = .pre → d.clearRun < 10 → d.stateAfter = .pre) := by
  unfold Detector.stateAfter
  rcases judged with state | state
  · rw [state]
    refine ⟨fun fault => if_pos fault, fun sane alarm => ?_, fun sane calm _ pre => ?_, fun sane calm _ low => ?_,
      fun _ _ other => (nomatch other), fun _ _ other => (nomatch other)⟩
    · exact (if_neg (Nat.not_le.2 sane)).trans (if_pos alarm)
    · exact (if_neg (Nat.not_le.2 sane)).trans ((if_neg (Nat.not_le.2 calm)).trans (if_pos pre))
    · exact (if_neg (Nat.not_le.2 sane)).trans ((if_neg (Nat.not_le.2 calm)).trans (if_neg (Nat.not_le.2 low)))
  · rw [state]
    refine ⟨fun fault => if_pos fault, fun sane alarm => ?_, fun _ _ other => (nomatch other),
      fun _ _ other => (nomatch other), fun sane calm _ clear => ?_, fun sane calm _ few => ?_⟩
    · exact (if_neg (Nat.not_le.2 sane)).trans (if_pos alarm)
    · exact (if_neg (Nat.not_le.2 sane)).trans ((if_neg (Nat.not_le.2 calm)).trans (if_pos clear))
    · exact (if_neg (Nat.not_le.2 sane)).trans ((if_neg (Nat.not_le.2 calm)).trans (if_neg (Nat.not_le.2 few)))

end

/-- Settles O27: the sample of a FAULT detector that returns, and every other. -/
theorem sampleMovesRunsAndState : Obligations.SampleMovesRunsAndState := by
  refine fun d c level => ⟨rfl, fun k kind => ?_⟩
  have tested := inRange_iff level
  have faultRun := bump_run d.faultRun (test := !inRange level) (meets := ¬ (1 ≤ level ∧ level ≤ 254))
    (by rw [Bool.not_eq_true', Bool.eq_false_iff, ne_eq, tested])
  have inRangeRun := bump_run d.inRangeRun tested
  by_cases returns : d.state = .fault ∧ 10 ≤ bump d.inRangeRun (inRange level)
  · obtain ⟨fault, ten⟩ := returns
    rw [d.sample_returning c level kind fault ten]
    refine ⟨rfl, rfl, faultRun, inRangeRun, fun stays => absurd ⟨fault, rfl⟩ stays, ?_, ?_, fun _ =>
      ⟨fun _ => ⟨rfl, rfl, rfl, rfl⟩, fun few => absurd ten (Nat.not_le.2 few)⟩, ?_⟩
    all_goals simp [fault]
  · have stays : d.state = .fault → bump d.inRangeRun (inRange level) < 10 :=
      fun fault => Nat.not_le.1 fun ten => returns ⟨fault, ten⟩
    rw [d.sample_counting c level kind stays]
    refine ⟨rfl, rfl, faultRun, inRangeRun, fun _ => ⟨?_, ?_, ?_⟩, ?_, ?_, ?_, ?_⟩
    · exact bump_run d.alarmRun (by rw [Bool.and_eq_true, tested, decide_eq_true_iff])
    · exact unkept_run d.preRun (by rw [Bool.and_eq_true, tested, decide_eq_true_iff]) k
    · exact unkept_run d.clearRun (by rw [Bool.and_eq_true, tested, decide_eq_true_iff]) k
    · exact fun alarm => by rw [Detector.stateAfter, show (d.runsAfter c k level).state = .alarm from alarm]
    · exact fun disabled => by rw [Detector.stateAfter, show (d.runsAfter c k level).state = .disabled from disabled]
    · refine fun fault => ⟨fun ten => absurd ten (Nat.not_le.2 (stays fault)), fun few => ?_⟩
      rw [Detector.stateAfter, show (d.runsAfter c k level).state = .fault from fault]
      exact if_neg (Nat.not_le.2 few)
    · exact (d.runsAfter c k level).stateAfter_judged

/-! ### Disablement (R121, R122) -/

/-- Of the fire controller an event's work counts only as far as relays and impairment do not follow. -/
theorem settle_fire_keeps (b : State) (w : Publication) (x : Change) :
    (State.settle b w x).fire.status = x.st.fire.status ∧ (State.settle b w x).fire.causes = x.st.fire.causes ∧
    (State.settle b w x).fire.countdown = x.st.fire.countdown ∧
    (State.settle b w x).fire.panelLatch = x.st.fire.panelLatch ∧
    (State.settle b w x).fire.hold = x.st.fire.hold ∧
    ∀ i, (State.settle b w x).fire.detector i = x.st.fire.detector i := by
  rw [State.settle_fire]
  exact ⟨rfl, rfl, rfl, rfl, rfl, fun _ => rfl⟩

theorem WatchFollows.settled {b : State} {w : Publication} {x : Change} {c : ConfigSet}
    (follows : WatchFollows c x.st.fire) : WatchFollows c (State.settle b w x).fire := by
  obtain ⟨status, causes, -, -, -, detectors⟩ := settle_fire_keeps b w x
  exact follows.congr (KindAlerted.congr (fun _ _ => rfl) fun i => by rw [detectors]) status causes

/-- A detector record replaced: the fire state follows it while no fire is confirmed (R127). -/
theorem withDetector_settled (b : State) (w : Publication) (i : Nat) (d : Detector) :
    (b.fireConfirmed →
      (State.settle b w (Change.quiet (b.withDetector i d))).fire.status = b.fire.status ∧
      (State.settle b w (Change.quiet (b.withDetector i d))).fire.causes = b.fire.causes) ∧
    (¬ b.fireConfirmed →
      WatchFollows b.config (State.settle b w (Change.quiet (b.withDetector i d))).fire) := by
  obtain ⟨status, causes, -⟩ := settle_fire_keeps b w (Change.quiet (b.withDetector i d))
  have confirmed : (b.fire.setDetector i d).status.confirmed = true ↔ b.fireConfirmed :=
    (State.fireConfirmed_iff b).symm
  have fire : (b.withDetector i d).fire = (b.fire.setDetector i d).reassess b.config := rfl
  rw [FireControl.reassess] at fire
  refine ⟨fun fired => ?_, fun calm => ?_⟩
  · rw [if_pos (confirmed.2 fired)] at fire
    rw [status, causes, Change.quiet_st, fire]
    exact ⟨rfl, rfl⟩
  · rw [if_neg (mt confirmed.1 calm)] at fire
    refine WatchFollows.settled ?_
    rw [Change.quiet_st, fire]
    exact FireControl.watchOrQuiet_follows _ _

/-- The state of which a replaced detector's event leaves the rest. -/
theorem withDetector_leaves (b : State) (w : Publication) (i : Nat) (d : Detector) :
    EventLeaves
      { b with
        fire := { b.fire with
          detectors := b.fire.detectors.set i d,
          status := (State.settle b w (Change.quiet (b.withDetector i d))).fire.status,
          causes := (State.settle b w (Change.quiet (b.withDetector i d))).fire.causes } }
      [] (State.settle b w (Change.quiet (b.withDetector i d))) := by
  have leaves := State.settle_leaves b w (Change.quiet (b.withDetector i d))
  obtain ⟨status, causes, -⟩ := settle_fire_keeps b w (Change.quiet (b.withDetector i d))
  have fire : (b.withDetector i d).fire = { b.fire with
      detectors := b.fire.detectors.set i d,
      status := (b.withDetector i d).fire.status, causes := (b.withDetector i d).fire.causes } :=
    (b.fire.setDetector i d).reassess_eq b.config
  rw [status, causes, Change.quiet_st, ← fire]
  exact leaves

/-- A request that replaces a detector record, answered. -/
theorem Takes.withDetector {s t : State} {p : Port} {k : RequestKind} {body : List Byte} (taken : Takes s p k body)
    {act : List Byte → PortState → State → Answer} {i : Nat} {d : Detector}
    (answer : act body (s.ports.get p).taken (s.setPort p (s.ports.get p).taken) =
      takenBy (Change.quiet ((s.setPort p (s.ports.get p).taken).withDetector i d)))
    (ran : t = s.running fun s => s.serve p k act) :
    ((s.fireConfirmed → t.fire.status = s.fire.status ∧ t.fire.causes = s.fire.causes) ∧
      (¬ s.fireConfirmed → WatchFollows s.config t.fire)) ∧
    EventLeaves
      (({ s with
          fire := { s.fire with
            detectors := s.fire.detectors.set i d, status := t.fire.status, causes := t.fire.causes } } :
            State).answered p k.code .ok [])
      [] t := by
  rw [taken.settles answer] at ran
  subst ran
  refine ⟨withDetector_settled (s.setPort p (s.ports.get p).taken) .ifChanged i d, ?_⟩
  rw [← State.setPort_taken_respond]
  exact (withDetector_leaves (s.setPort p (s.ports.get p).taken) .ifChanged i d).respond p k.code .ok []

/-- Settles O31: a replaced detector record, by request (`Takes.withDetector`) and by the end of its time. -/
theorem disablementStopsAndRestartsADetector : Obligations.DisablementStopsAndRestartsADetector := by
  refine fun s => ⟨fun p index taken => ⟨fun high => ?_, fun low fired => ?_, fun low calm => ?_⟩,
    fun p index taken => ⟨fun high => ?_, fun low runs => ?_, fun low stopped => ?_⟩, fun running i left timed => ?_⟩
  · exact congrArg Host.Outcome.next (taken.refused (if_pos (show 15 < u8 [index] 0 from high)))
  · have fits : ¬ 15 < u8 [index] 0 := Nat.not_lt.2 (Nat.le_of_lt_succ low)
    exact congrArg Host.Outcome.next (taken.refused
      ((if_neg fits).trans (if_pos ((State.fireConfirmed_iff s).1 fired))))
  · have fits : ¬ 15 < u8 [index] 0 := Nat.not_lt.2 (Nat.le_of_lt_succ low)
    exact ⟨_, rfl, taken.withDetector
      ((if_neg fits).trans (if_neg (mt (State.fireConfirmed_iff s).2 calm))) rfl⟩
  · exact congrArg Host.Outcome.next (taken.refused (if_pos (show 15 < u8 [index] 0 from high)))
  · have fits : ¬ 15 < u8 [index] 0 := Nat.not_lt.2 (Nat.le_of_lt_succ low)
    exact congrArg Host.Outcome.next (taken.refused
      ((if_neg fits).trans (if_pos (Option.isNone_iff_eq_none.2 runs))))
  · have fits : ¬ 15 < u8 [index] 0 := Nat.not_lt.2 (Nat.le_of_lt_succ low)
    exact ⟨_, rfl, taken.withDetector
      ((if_neg fits).trans (if_neg (mt Option.isNone_iff_eq_none.1 stopped))) rfl⟩
  · have restarted : ((s.advance left).fire.detector i).enable =
        ⟨none, (s.fire.detector i).level, .normal, 0, 0, 0, 0, 0⟩ := by
      rw [State.advance_fire, FireControl.detector_pass]
      rfl
    have ran : exec (.disablementExpiry i) s = .next (State.settle (s.advance left) .ifChanged
        (Change.quiet ((s.advance left).withDetector i ((s.advance left).fire.detector i).enable))) := by
      change Host.Outcome.next (s.running _) = _
      rw [State.running_of s running, timed]
      rfl
    rw [restarted] at ran
    exact ⟨_, ran, withDetector_settled (s.advance left) .ifChanged i _,
      withDetector_leaves (s.advance left) .ifChanged i _⟩

/-! ### What confirms a fire (R126) -/

theorem alarmedOf_iff (c : ConfigSet) (f : FireControl) (k : DetectorKind) :
    alarmedOf c f k = true ↔ KindAlarmed c f k := by
  simp only [alarmedOf, KindAlarmed, List.any_eq_true, List.mem_range, Bool.and_eq_true, decide_eq_true_iff]
  constructor
  · rintro ⟨i, hi, ⟨kind, real⟩, state⟩
    exact ⟨real, i, hi, kind, state⟩
  · rintro ⟨real, i, hi, kind, state⟩
    exact ⟨i, hi, ⟨kind, real⟩, state⟩

/-- Two or more detectors have a property exactly when one beside a given one has it. -/
theorem two_le_detectorCount_iff (c : ConfigSet) (f : FireControl) (q : DetectorKind → Detector → Bool) {i : Nat}
    (inside : i < 16) (holds : q (c.detectorKind i) (f.detector i) = true) :
    2 ≤ detectorCount c f q ↔ ∃ j < 16, j ≠ i ∧ q (c.detectorKind j) (f.detector j) = true := by
  have card : detectorCount c f q =
      ((List.range 16).filter fun j => q (c.detectorKind j) (f.detector j)).toFinset.card :=
    (List.toFinset_card_of_nodup (List.nodup_range.filter _)).symm
  have member (j : Nat) : j ∈ ((List.range 16).filter fun j => q (c.detectorKind j) (f.detector j)).toFinset ↔
      j < 16 ∧ q (c.detectorKind j) (f.detector j) = true := by
    rw [List.mem_toFinset, List.mem_filter, List.mem_range]
  rw [card]
  constructor
  · intro two
    obtain ⟨j, mem, other⟩ := Finset.exists_mem_ne two i
    obtain ⟨range, meets⟩ := (member j).1 mem
    exact ⟨j, range, other, meets⟩
  · rintro ⟨j, hj, other, meets⟩
    exact Finset.one_lt_card.2 ⟨j, (member j).2 ⟨hj, meets⟩, i, (member i).2 ⟨inside, holds⟩, other⟩

theorem confirmedNow_iff (c : ConfigSet) (f : FireControl) : confirmedNow c f = true ↔ FireSeen c f := by
  have smoke : (alarmedOf c f .smoke && decide (2 ≤ detectorCount c f alerted)) = true ↔
      ∃ i < 16, c.detectorKind i = .smoke ∧ (f.detector i).state = .alarm ∧
        ∃ j < 16, j ≠ i ∧ c.detectorKind j ≠ .none ∧
          ((f.detector j).state = .pre ∨ (f.detector j).state = .alarm) := by
    have beside : ∀ i < 16, c.detectorKind i = .smoke → (f.detector i).state = .alarm →
        (2 ≤ detectorCount c f alerted ↔ ∃ j < 16, j ≠ i ∧ c.detectorKind j ≠ .none ∧
          ((f.detector j).state = .pre ∨ (f.detector j).state = .alarm)) := fun i inside kind state => by
      rw [two_le_detectorCount_iff c f alerted inside ((alerted_iff _ _).2 ⟨by simp [kind], .inr state⟩)]
      simp only [alerted_iff]
    rw [Bool.and_eq_true, alarmedOf_iff, decide_eq_true_iff]
    constructor
    · rintro ⟨⟨-, i, inside, kind, state⟩, two⟩
      exact ⟨i, inside, kind, state, (beside i inside kind state).1 two⟩
    · rintro ⟨i, inside, kind, state, others⟩
      exact ⟨⟨by decide, i, inside, kind, state⟩, (beside i inside kind state).2 others⟩
  rw [confirmedNow, Bool.or_eq_true, Bool.or_eq_true, Bool.or_eq_true, Bool.or_eq_true, smoke, alarmedOf_iff,
    alarmedOf_iff, alarmedOf_iff, FireSeen, or_assoc, or_assoc, or_assoc]

/-- What confirms a fire is read from detectors and panel alone. -/
theorem FireSeen.congr {c : ConfigSet} {f f' : FireControl} (detectors : ∀ i, f'.detector i = f.detector i)
    (panel : f'.panelLatch = f.panelLatch) : FireSeen c f' ↔ FireSeen c f := by
  unfold FireSeen KindAlarmed
  simp only [detectors, panel]

/-! ### The sampling event (R114, R125 to R131) -/

section
variable (f : FireControl) (c : ConfigSet) (levels : List Byte) (panel hold : Bool)

theorem FireControl.applyHold_eq :
    f.applyHold c = { f with status := (f.applyHold c).status, countdown := (f.applyHold c).countdown } := by
  unfold FireControl.applyHold
  split
  · split <;> rfl
  · split <;> rfl
  all_goals rfl

theorem FireControl.confirm_eq :
    f.confirm c =
      { f with
        status := (f.confirm c).status, causes := (f.confirm c).causes, countdown := (f.confirm c).countdown } := by
  unfold FireControl.confirm
  dsimp only
  split
  · rfl
  · split <;> rfl

/-- The samples stand; the fire state, the cause set and the countdown follow. -/
theorem FireControl.sampling_sampled :
    f.sampling c levels panel hold =
      { f.sampled c levels panel hold with
        status := (f.sampling c levels panel hold).status, causes := (f.sampling c levels panel hold).causes,
        countdown := (f.sampling c levels panel hold).countdown } := by
  rw [FireControl.sampling_eq]
  split
  · rw [FireControl.applyHold_eq]
  · split
    · rw [FireControl.confirm_eq]
    · rw [FireControl.watchOrQuiet_eq]

theorem FireControl.sampling_detector (i : Nat) :
    (f.sampling c levels panel hold).detector i = (f.sampled c levels panel hold).detector i := by
  rw [FireControl.sampling_sampled]
  rfl

theorem FireControl.sampling_panelLatch :
    (f.sampling c levels panel hold).panelLatch = (f.sampled c levels panel hold).panelLatch := by
  rw [FireControl.sampling_sampled]

theorem FireControl.sampling_hold :
    (f.sampling c levels panel hold).hold = (f.sampled c levels panel hold).hold := by
  rw [FireControl.sampling_sampled]
  rfl

variable {f c levels panel hold}

/-- Without a confirmation the fire state follows the detectors (R127). -/
theorem FireControl.sampling_calm (calm : f.status.confirmed = false)
    (unseen : ¬ FireSeen c (f.sampling c levels panel hold)) :
    WatchFollows c (f.sampling c levels panel hold) ∧
    (f.sampling c levels panel hold).status.confirmed = false ∧
    (f.sampling c levels panel hold).countdown = f.countdown := by
  rw [FireSeen.congr (f.sampling_detector c levels panel hold) (f.sampling_panelLatch c levels panel hold),
    ← confirmedNow_iff] at unseen
  rw [FireControl.sampling_eq, if_neg (by simp [calm]), if_neg unseen]
  refine ⟨FireControl.watchOrQuiet_follows _ c, FireControl.watchOrQuiet_unconfirmed _ c, ?_⟩
  rw [FireControl.watchOrQuiet_eq]
  rfl

/-- The entry into a confirmed state (R128). -/
theorem FireControl.confirm_state :
    (f.confirm c).causes = causesNow c f f.panelLatch ∧
    (c.autoRelease = false → (f.confirm c).status = .alarm ∧ (f.confirm c).countdown = f.countdown) ∧
    (c.autoRelease = true → f.hold = true → (f.confirm c).status = .held ∧ (f.confirm c).countdown = f.countdown) ∧
    (c.autoRelease = true → f.hold = false →
      (f.confirm c).status = .countdown ∧ (f.confirm c).countdown = .running c.releaseDelay) := by
  unfold FireControl.confirm
  cases c.autoRelease with
  | false => exact ⟨rfl, fun _ => ⟨rfl, rfl⟩, fun on => (nomatch on), fun on => (nomatch on)⟩
  | true =>
    cases held : f.hold with
    | true => exact ⟨rfl, fun off => (nomatch off), fun _ _ => ⟨rfl, rfl⟩, fun _ off => (nomatch off)⟩
    | false => exact ⟨rfl, fun off => (nomatch off), fun _ on => (nomatch on), fun _ _ => ⟨rfl, rfl⟩⟩

theorem FireControl.sampling_confirms (calm : f.status.confirmed = false)
    (seen : FireSeen c (f.sampling c levels panel hold)) :
    f.sampling c levels panel hold = (f.sampled c levels panel hold).confirm c := by
  rw [FireSeen.congr (f.sampling_detector c levels panel hold) (f.sampling_panelLatch c levels panel hold),
    ← confirmedNow_iff] at seen
  rw [FireControl.sampling_eq, if_neg (by simp [calm]), if_pos seen]

theorem FireControl.confirm_causes : CausesAre c (f.confirm c) f.panelLatch := by
  refine (causesNow_are c f f.panelLatch).congr (KindAlerted.congr (fun _ _ => rfl) fun i => ?_)
    FireControl.confirm_state.1
  rw [FireControl.confirm_eq]
  rfl

/-- In a confirmed state the hold acts, and the cause set grows (R129, R131). -/
theorem FireControl.sampling_confirmed (confirmed : f.status.confirmed = true) :
    f.sampling c levels panel hold =
      { (f.sampled c levels panel hold).applyHold c with
        causes := causesGrown c f (f.sampled c levels panel hold) } := by
  rw [FireControl.sampling_eq, if_pos confirmed]

/-- What the hold does (R131). -/
theorem FireControl.applyHold_state :
    (f.status = .countdown ∧ f.hold = true →
      (f.applyHold c).status = .held ∧ (f.applyHold c).countdown = .stopped) ∧
    (f.status = .held ∧ f.hold = false →
      (f.applyHold c).status = .countdown ∧ (f.applyHold c).countdown = .running c.releaseDelay) ∧
    (¬ (f.status = .countdown ∧ f.hold = true) → ¬ (f.status = .held ∧ f.hold = false) →
      (f.applyHold c).status = f.status ∧ (f.applyHold c).countdown = f.countdown) := by
  refine ⟨fun ⟨status, held⟩ => ?_, fun ⟨status, free⟩ => ?_, fun unheld unfreed => ?_⟩
  · rw [FireControl.applyHold_of_countdown status held]
    exact ⟨rfl, rfl⟩
  · rw [FireControl.applyHold_of_held status free]
    exact ⟨rfl, rfl⟩
  · rw [FireControl.applyHold_of_agreeing (fun status => Bool.eq_false_iff.2 fun held => unheld ⟨status, held⟩)
      (fun status => by simpa using fun free => unfreed ⟨status, free⟩)]
    exact ⟨rfl, rfl⟩

/-- The kinds that a growing cause set takes (R129). -/
theorem any_entering_iff (c : ConfigSet) (before after : FireControl) {k : DetectorKind} (real : k ≠ .none) :
    ((List.range 16).any fun i => decide (c.detectorKind i = k) &&
      (alerted k (after.detector i) && decide ((before.detector i).state ≠ (after.detector i).state))) = true ↔
      ∃ i < 16, c.detectorKind i = k ∧ ((after.detector i).state = .pre ∨ (after.detector i).state = .alarm) ∧
        (after.detector i).state ≠ (before.detector i).state := by
  rw [any_kind_iff c fun k i =>
    alerted k (after.detector i) && decide ((before.detector i).state ≠ (after.detector i).state)]
  simp only [Bool.and_eq_true, alerted_iff, decide_eq_true_iff, real, not_false_eq_true, true_and, ne_eq,
    eq_comm (a := (before.detector _).state)]

end

/-- The state after a sampling event: the fire controller's samples, and the opening that a confirmation starts. -/
theorem exec_fireSampling {s : State} (running : s.resetHeld = false) (levels : List Byte) (panel hold : Bool) :
    exec (.fireSampling levels panel hold) s =
      .next (State.settle (s.advance s.fire.samplingLeft) .ifChanged
        (({ s.advance s.fire.samplingLeft with
            fire := (s.advance s.fire.samplingLeft).fire.sampling s.config levels panel hold } :
              State).openForFire s.fire.status)) := by
  change Host.Outcome.next (s.running _) = _
  rw [State.running_of s running, State.after_some]
  rfl

/-- The emergency opening of a confirmation, and nothing else, is told (R136, R151). -/
theorem openForFire_eq (a : State) (before : FireStatus) :
    ((before.confirmed = false ∧ a.fire.status.confirmed = true) ∧
      a.openForFire before = a.withConn (a.conn.emergency .fire .fire)) ∨
    (¬ (before.confirmed = false ∧ a.fire.status.confirmed = true) ∧ a.openForFire before = Change.quiet a) := by
  unfold State.openForFire
  cases after : a.fire.status.confirmed <;> cases was : before.confirmed
  · exact .inr ⟨by simp, rfl⟩
  · exact .inr ⟨by simp, rfl⟩
  · exact .inl ⟨⟨rfl, rfl⟩, rfl⟩
  · exact .inr ⟨by simp, rfl⟩

/-- What a sampling event leaves beside the fire state (R114, R136). -/
theorem fireSampling_leaves (a : State) (before : FireStatus) (c : ConfigSet)
    (levels : List Byte) (panel hold : Bool) {t : State}
    (settled : t = State.settle a .ifChanged
      (({ a with fire := a.fire.sampling c levels panel hold } : State).openForFire before))
    {told : List Raised} {conn : ConnectionControl}
    (opens : before.confirmed = false ∧ t.fire.status.confirmed = true →
      conn = (a.conn.emergency .fire .fire).conn ∧ told = (a.conn.emergency .fire .fire).raised.map broadcast)
    (stays : ¬ (before.confirmed = false ∧ t.fire.status.confirmed = true) → conn = a.conn ∧ told = []) :
    EventLeaves
      { a with
        conn := conn,
        fire := { a.fire.sampled c levels panel hold with
          status := t.fire.status, causes := t.fire.causes, countdown := t.fire.countdown } }
      told t := by
  subst settled
  obtain ⟨status, causes, countdown, -⟩ := settle_fire_keeps a .ifChanged
    (({ a with fire := a.fire.sampling c levels panel hold } : State).openForFire before)
  simp only [State.openForFire_keeps] at status causes countdown
  rw [status] at opens stays
  rw [status, causes, countdown, ← FireControl.sampling_sampled]
  rcases openForFire_eq { a with fire := a.fire.sampling c levels panel hold } before with
    ⟨confirms, opened⟩ | ⟨not, quiet⟩
  · obtain ⟨rfl, rfl⟩ := opens confirms
    rw [opened]
    exact State.settle_withConn a .ifChanged { a with fire := a.fire.sampling c levels panel hold }
      (a.conn.emergency .fire .fire)
  · obtain ⟨rfl, rfl⟩ := stays not
    rw [quiet]
    exact State.settle_quiet _ _ _

/-- Settles O28: the samples (`fireSampling_leaves`), and the fire state as it was confirmed or not. -/
theorem samplingMovesTheFireState : Obligations.SamplingMovesTheFireState := by
  intro s levels panel hold running a run opening
  refine ⟨_, exec_fireSampling running levels panel hold, ?_⟩
  generalize settled : State.settle (s.advance s.fire.samplingLeft) .ifChanged _ = t
  obtain ⟨status, causes, countdown, latch, held, detectors⟩ := settle_fire_keeps a .ifChanged
    (({ a with fire := a.fire.sampling s.config levels panel hold } : State).openForFire s.fire.status)
  rw [settled] at status causes countdown latch held detectors
  simp only [State.openForFire_keeps] at status causes countdown latch held detectors
  have seen : FireSeen s.config t.fire ↔ FireSeen s.config (a.fire.sampling s.config levels panel hold) :=
    FireSeen.congr detectors latch
  have calm : ¬ s.fireConfirmed → a.fire.status.confirmed = false := fun none =>
    Bool.eq_false_iff.2 (mt (State.fireConfirmed_iff s).2 none)
  refine ⟨fun told conn opens stays => ?_, fun none unseen => ?_, fun none saw => ?_, fun confirmed => ?_⟩
  · have was : ¬ s.fireConfirmed ∧ t.fireConfirmed ↔
        s.fire.status.confirmed = false ∧ t.fire.status.confirmed = true := by
      rw [State.fireConfirmed_iff, State.fireConfirmed_iff, Bool.not_eq_true]
    exact fireSampling_leaves a s.fire.status s.config levels panel hold settled.symm (fun h => opens (was.2 h))
      fun h => stays (mt was.1 h)
  · obtain ⟨follows, -, timer⟩ := FireControl.sampling_calm (calm none) (mt seen.2 unseen)
    exact ⟨follows.congr (KindAlerted.congr (fun _ _ => rfl) fun i => by rw [detectors]) status causes,
      countdown.trans timer⟩
  · have confirms := FireControl.sampling_confirms (calm none) (seen.1 saw)
    obtain ⟨-, alarm, held_, starts⟩ := FireControl.confirm_state (c := s.config)
      (f := a.fire.sampled s.config levels panel hold)
    rw [held, FireControl.sampling_hold, latch, FireControl.sampling_panelLatch, status, countdown, confirms]
    refine ⟨FireControl.confirm_causes.congr (KindAlerted.congr (fun _ _ => rfl) fun i => ?_) ?_, alarm, held_, starts⟩
    · rw [detectors, confirms]
    · rw [causes, confirms]
  · have grown := FireControl.sampling_confirmed (c := s.config) (levels := levels) (panel := panel) (hold := hold)
      (f := a.fire) ((State.fireConfirmed_iff s).1 confirmed)
    obtain ⟨caught, freed, kept⟩ := FireControl.applyHold_state (c := s.config)
      (f := a.fire.sampled s.config levels panel hold)
    have states (i : Nat) : (a.fire.detector i).state = (s.fire.detector i).state := by
      rw [State.advance_fire, FireControl.detector_pass]
      rfl
    rw [held, FireControl.sampling_hold, latch, FireControl.sampling_panelLatch, status, countdown, causes]
    simp only [detectors, FireControl.sampling_detector]
    rw [grown]
    have entering := fun k (real : k ≠ DetectorKind.none) =>
      any_entering_iff s.config a.fire (a.fire.sampled s.config levels panel hold) real
    simp only [← states]
    refine ⟨caught, freed, kept, ?_, ?_, ?_, ?_, ?_⟩
    · exact Bool.or_eq_true_iff.trans (or_congr_right (entering .offgas (by decide)))
    · exact Bool.or_eq_true_iff.trans (or_congr_right (entering .smoke (by decide)))
    · exact Bool.or_eq_true_iff.trans (or_congr_right (entering .heat (by decide)))
    · exact Bool.or_eq_true_iff.trans (or_congr_right (entering .manual (by decide)))
    · exact Bool.or_eq_true_iff.trans (or_congr_right (Bool.and_eq_true_iff.trans
        (and_comm.trans (and_congr_left' (iff_of_eq (Bool.not_eq_true' _))))))

end Sys2Proof.Machine
end

section
/-! Contactors, openings, CONNECT, DISCONNECT and UNLOCK (sections 8.1 to 8.3). -/

namespace Sys2Proof.Machine

/-! ### Contactors (R141, R142) -/

theorem ContactorRecord.retimed_eq (r : ContactorRecord) :
    r.retimed =
      if r.command = r.feedback then { r with disagreement := .stopped, faultMark := false }
      else { r with disagreement := .running 100000 } := rfl

/-- A connection state in which neither the precharge timer nor the open-wait timer runs stops both. -/
theorem ConnectionControl.toState_eq (c : ConnectionControl) {n : Connection} (charging : n ≠ .precharging .charging)
    (wait : n ≠ .opening .normal .wait) :
    c.toState n = { c with connection := n, precharge := .stopped, openWait := .stopped } := by
  rw [ConnectionControl.toState, if_neg charging, if_neg wait]

theorem ConnectionControl.toStateFor_eq (c : ConnectionControl) {n : Connection} (charging : n ≠ .precharging .charging)
    (wait : n ≠ .opening .normal .wait) (reason : ConnectionReason) :
    c.toStateFor n reason =
      ⟨{ c with connection := n, precharge := .stopped, openWait := .stopped }, [.connectionState n reason]⟩ := by
  rw [ConnectionControl.toStateFor, c.toState_eq charging wait]

/-- Step 3 of a contactor fault leaves a locked string as it is, and locks any other (R142). -/
theorem ConnectionControl.lockContactor_eq (c : ConnectionControl) :
    (∀ cause, c.connection = .lockedOut cause → c.lockContactor = ⟨c, []⟩) ∧
    ((∀ cause, c.connection ≠ .lockedOut cause) →
      c.lockContactor =
        ⟨{ c with connection := .lockedOut .contactor, precharge := .stopped, openWait := .stopped },
          [.connectionState (.lockedOut .contactor) .contactor]⟩) := by
  unfold ConnectionControl.lockContactor
  refine ⟨fun cause locked => by rw [locked]; rfl, fun unlocked => ?_⟩
  cases state : c.connection with
  | lockedOut cause => exact absurd state (unlocked cause)
  | opened | precharging | closing | closed | opening => exact c.toStateFor_eq (by simp) (by simp) _

/-- An event of the connection controller leaves its state, and tells what it raises. -/
theorem State.settle_connChange (b : State) (w : Publication) (x : State) {y : ConnChange} {conn : ConnectionControl}
    {raised : List Event} (does : y = ⟨conn, raised⟩) :
    EventLeaves { x with conn := conn } (raised.map broadcast) (State.settle b w (x.withConn y)) := by
  subst does
  exact State.settle_withConn b w x ⟨conn, raised⟩

/-- The running out of a contactor's disagreement timer, as an event. -/
theorem exec_disagreementTimerExpiry {s : State} (running : s.resetHeld = false) {k : Contactor} {left : Nat}
    (timer : (s.conn.contactors.get k).disagreement = .running left) :
    exec (.disagreementTimerExpiry k) s =
      .next (State.settle (s.advance left) .ifChanged
        ((s.advance left).withConn ((s.advance left).conn.contactorFault k))) := by
  change Host.Outcome.next (s.running _) = _
  rw [State.running_of s running, timer, Timer.due_running, State.after_some]
  rfl

/-- Settles O32: a record retimed by a change alone, and the fault in its three steps. -/
theorem contactorsAreTimedAndFault : Obligations.ContactorsAreTimedAndFault := by
  refine ⟨fun r v => ⟨fun same => if_pos same, fun other => (if_neg other).trans (ContactorRecord.retimed_eq _),
    fun same => if_pos same, fun other => (if_neg other).trans (ContactorRecord.retimed_eq _)⟩,
    fun s k left running timer => ?_, fun s k => by cases k <;> rfl⟩
  intro a marked contactors told
  have command : (a.conn.contactors.get k).command = (s.conn.contactors.get k).command := by cases k <;> rfl
  obtain ⟨locked, unlocked⟩ :=
    ConnectionControl.lockContactor_eq ({ a.conn with contactors := marked } : ConnectionControl).allOpen
  have fault : a.conn.contactorFault k =
      (ConnChange.mk ({ a.conn with contactors := marked } : ConnectionControl).allOpen [told]).andThen
        ConnectionControl.lockContactor :=
    congrArg (fun v => (ConnChange.mk ({ a.conn with contactors := marked } : ConnectionControl).allOpen
      [.contactorFault k v]).andThen ConnectionControl.lockContactor) command
  unfold ConnChange.andThen at fault
  have ran := exec_disagreementTimerExpiry running timer
  refine ⟨fun ⟨cause, already⟩ => ⟨_, ran, ?_⟩, fun other => ⟨_, ran, ?_⟩⟩
  · rw [locked cause already] at fault
    exact State.settle_connChange a .ifChanged a fault
  · rw [unlocked other] at fault
    exact State.settle_connChange a .ifChanged a fault

/-! ### Openings (R150 to R152) -/

section
variable {c : ConnectionControl} {kind : Opening}

theorem ConnectionControl.showsOpen_eq_false {k : Contactor} (closed : (c.contactors.get k).feedback = .closed) :
    c.showsOpen k = false := by
  simp [ConnectionControl.showsOpen, closed]

theorem ConnectionControl.showsOpen_eq_true {k : Contactor} (opened : (c.contactors.get k).feedback = .opened) :
    c.showsOpen k = true := by
  simp [ConnectionControl.showsOpen, opened]

theorem ConnectionControl.mains_not_shown
    (closed : (c.contactors.get .pos).feedback = .closed ∨ (c.contactors.get .pre).feedback = .closed) :
    (c.showsOpen .pos && c.showsOpen .pre) = false := by
  rcases closed with pos | pre
  · rw [ConnectionControl.showsOpen_eq_false pos, Bool.false_and]
  · rw [ConnectionControl.showsOpen_eq_false pre, Bool.and_false]

theorem ConnectionControl.mains_shown (pos : (c.contactors.get .pos).feedback = .opened)
    (pre : (c.contactors.get .pre).feedback = .opened) : (c.showsOpen .pos && c.showsOpen .pre) = true := by
  rw [ConnectionControl.showsOpen_eq_true pos, ConnectionControl.showsOpen_eq_true pre, Bool.and_true]

/-- NEG commanded OPEN, and the phase NEG. -/
def ConnectionControl.mainsPassed (c : ConnectionControl) (kind : Opening) : ConnectionControl :=
  { c with
    contactors := { c.contactors with neg := c.contactors.neg.withCommand .opened },
    connection := .opening kind .neg, precharge := .stopped, openWait := .stopped }

/-- An opening that has ended (R150). -/
def ConnectionControl.openingEnded (c : ConnectionControl) (kind : Opening) : ConnChange :=
  ⟨{ c with connection := kind.ending, precharge := .stopped, openWait := .stopped },
    [.connectionState kind.ending .opened]⟩

theorem ConnectionControl.passMains_waits (phase : c.connection = .opening kind .mains)
    (closed : (c.showsOpen .pos && c.showsOpen .pre) = false) : c.passMains = c := by
  simp [ConnectionControl.passMains, phase, closed]

theorem ConnectionControl.passMains_passes (phase : c.connection = .opening kind .mains)
    (shown : (c.showsOpen .pos && c.showsOpen .pre) = true) : c.passMains = c.mainsPassed kind := by
  simp only [ConnectionControl.passMains, phase, shown, if_true]
  exact ConnectionControl.toState_eq _ (by simp) (by simp)

theorem ConnectionControl.passMains_other {phase : OpeningPhase} (state : c.connection = .opening kind phase)
    (other : phase ≠ .mains) : c.passMains = c := by
  cases phase with
  | mains => exact absurd rfl other
  | wait | neg => simp [ConnectionControl.passMains, state]

theorem ConnectionControl.passNeg_ends (phase : c.connection = .opening kind .neg)
    (ends : (c.showsOpen .neg && (!kind.together || (c.showsOpen .pos && c.showsOpen .pre))) = true) :
    c.passNeg = c.openingEnded kind := by
  simp only [ConnectionControl.passNeg, phase, ends, if_true]
  exact c.toStateFor_eq (by cases kind <;> simp [Opening.ending]) (by cases kind <;> simp [Opening.ending]) _

theorem ConnectionControl.passNeg_waits (phase : c.connection = .opening kind .neg)
    (waits : (c.showsOpen .neg && (!kind.together || (c.showsOpen .pos && c.showsOpen .pre))) = false) :
    c.passNeg = ⟨c, []⟩ := by
  simp [ConnectionControl.passNeg, phase, waits, ConnChange.quiet]

theorem ConnectionControl.passNeg_other {phase : OpeningPhase} (state : c.connection = .opening kind phase)
    (other : phase ≠ .neg) : c.passNeg = ⟨c, []⟩ := by
  cases phase with
  | neg => exact absurd rfl other
  | wait | mains => simp [ConnectionControl.passNeg, state, ConnChange.quiet]

theorem Opening.together_iff (kind : Opening) :
    kind.together = true ↔ kind = .abort ∨ ∃ cause, kind = .emergency cause true := by
  cases kind with
  | normal => simp [Opening.together]
  | abort => simp [Opening.together]
  | emergency cause fromAbort => cases fromAbort <;> simp [Opening.together]

end

theorem ContactorRecord.withCommand_feedback (r : ContactorRecord) (v : Switch) :
    (r.withCommand v).feedback = r.feedback := by
  unfold ContactorRecord.withCommand ContactorRecord.retimed
  split
  · rfl
  · split <;> rfl

theorem ConnectionControl.mainsPassed_showsOpen (c : ConnectionControl) (kind : Opening) (k : Contactor) :
    (c.mainsPassed kind).showsOpen k = c.showsOpen k := by
  cases k with
  | neg =>
    unfold ConnectionControl.showsOpen
    exact congrArg (fun v => decide (v = Switch.opened)) (ContactorRecord.withCommand_feedback _ _)
  | pre | pos => rfl

/-- R150 in phase MAINS. -/
theorem ConnectionControl.goOnOpening_mains {c : ConnectionControl} {kind : Opening}
    (phase : c.connection = .opening kind .mains) :
    ((c.contactors.get .pos).feedback = .closed ∨ (c.contactors.get .pre).feedback = .closed →
      c.goOnOpening = ⟨c, []⟩) ∧
    ((c.contactors.get .pos).feedback = .opened → (c.contactors.get .pre).feedback = .opened →
      ((c.contactors.get .neg).feedback = .closed → c.goOnOpening = ⟨c.mainsPassed kind, []⟩) ∧
      ((c.contactors.get .neg).feedback = .opened →
        c.goOnOpening = (c.mainsPassed kind).openingEnded kind)) := by
  refine ⟨fun closed => ?_, fun pos pre => ?_⟩
  · rw [ConnectionControl.goOnOpening,
      ConnectionControl.passMains_waits phase (ConnectionControl.mains_not_shown closed),
      ConnectionControl.passNeg_other phase (by simp)]
  · have shown := ConnectionControl.mains_shown pos pre
    rw [ConnectionControl.goOnOpening, ConnectionControl.passMains_passes phase shown]
    refine ⟨fun neg => ConnectionControl.passNeg_waits rfl ?_, fun neg => ConnectionControl.passNeg_ends rfl ?_⟩
    all_goals simp only [ConnectionControl.mainsPassed_showsOpen, shown]
    · rw [ConnectionControl.showsOpen_eq_false neg, Bool.false_and]
    · rw [ConnectionControl.showsOpen_eq_true neg, Bool.or_true, Bool.and_true]

/-- R150 in phase NEG. -/
theorem ConnectionControl.goOnOpening_neg {c : ConnectionControl} {kind : Opening}
    (phase : c.connection = .opening kind .neg) :
    ((c.contactors.get .neg).feedback = .closed → c.goOnOpening = ⟨c, []⟩) ∧
    ((c.contactors.get .neg).feedback = .opened → kind.together = false → c.goOnOpening = c.openingEnded kind) ∧
    ((c.contactors.get .neg).feedback = .opened → kind.together = true →
      ((c.contactors.get .pos).feedback = .closed ∨ (c.contactors.get .pre).feedback = .closed →
        c.goOnOpening = ⟨c, []⟩) ∧
      ((c.contactors.get .pos).feedback = .opened → (c.contactors.get .pre).feedback = .opened →
        c.goOnOpening = c.openingEnded kind)) := by
  rw [ConnectionControl.goOnOpening, ConnectionControl.passMains_other phase (by simp)]
  refine ⟨fun neg => ConnectionControl.passNeg_waits phase ?_, fun neg apart => ConnectionControl.passNeg_ends phase ?_,
    fun neg together => ⟨fun closed => ConnectionControl.passNeg_waits phase ?_,
      fun pos pre => ConnectionControl.passNeg_ends phase ?_⟩⟩
  · rw [ConnectionControl.showsOpen_eq_false neg, Bool.false_and]
  · rw [ConnectionControl.showsOpen_eq_true neg, apart]
    rfl
  · rw [ConnectionControl.mains_not_shown closed, together, Bool.not_true, Bool.or_false, Bool.and_false]
  · rw [ConnectionControl.mains_shown pos pre, ConnectionControl.showsOpen_eq_true neg, Bool.or_true, Bool.and_true]

/-- Phase MAINS of an opening (R150). -/
def ConnectionControl.mainsBegun (c : ConnectionControl) (kind : Opening) : ConnectionControl :=
  { c with
    contactors := ⟨c.contactors.neg, c.contactors.pre.withCommand .opened, c.contactors.pos.withCommand .opened⟩,
    connection := .opening kind .mains, precharge := .stopped, openWait := .stopped }

theorem ConnectionControl.beginMains_eq (c : ConnectionControl) (kind : Opening) :
    c.beginMains kind = c.mainsBegun kind := ConnectionControl.toState_eq _ (by simp) (by simp)

theorem ConnectionControl.beginEmergency_eq (c : ConnectionControl) (cause : LockCause) (reason : ConnectionReason) :
    c.beginEmergency cause reason =
      ⟨(c.mainsBegun (.emergency cause false)).goOnOpening.conn,
        .connectionState (.opening (.emergency cause false) .mains) reason ::
          (c.mainsBegun (.emergency cause false)).goOnOpening.raised⟩ := by
  rw [ConnectionControl.beginEmergency, ConnectionControl.beginMains_eq]
  rfl

/-- Settles O33: an opening phase by phase, and an emergency open by connection state. -/
theorem openingsGoOnAndTurn : Obligations.OpeningsGoOnAndTurn := by
  refine ⟨fun c kind => ?_, fun c cause reason => ?_⟩
  · intro feedback together final passed ended
    have ending : ∀ d : ConnectionControl, d.openingEnded kind = ended d := fun d => by cases kind <;> rfl
    refine ⟨fun phase => ?_, fun phase => ?_, fun phase => ?_⟩
    · have goes := ConnectionControl.goOnOpening_mains phase
      rw [ending] at goes
      exact goes
    · obtain ⟨closed, apart, all⟩ := ConnectionControl.goOnOpening_neg phase
      rw [ending] at apart all
      exact ⟨closed, fun neg no => apart neg (Bool.eq_false_iff.2 (mt kind.together_iff.1 no)),
        fun neg yes => all neg (kind.together_iff.2 yes)⟩
    · rw [ConnectionControl.goOnOpening, ConnectionControl.passMains_other phase (by simp),
        ConnectionControl.passNeg_other phase (by simp)]
  · intro turned mains
    have begins := c.beginEmergency_eq cause reason
    have turns : ∀ n : Connection, n ≠ .precharging .charging → n ≠ .opening .normal .wait →
        c.toStateFor n reason = turned n := fun n charging wait => c.toStateFor_eq charging wait reason
    refine ⟨?_, fun phase waits state => ?_, fun phase state => ?_, fun state => ?_,
      fun held fromAbort phase state => ?_,
      fun held state => ?_⟩
    · rintro (⟨phase, state⟩ | state | state | state)
      all_goals
        unfold ConnectionControl.emergency
        rw [state]
        exact begins
    · unfold ConnectionControl.emergency
      rw [state]
      cases phase with
      | wait => exact absurd rfl waits
      | mains | neg => exact turns _ (by simp) (by simp)
    · unfold ConnectionControl.emergency
      rw [state]
      exact turns _ (by simp) (by simp)
    · unfold ConnectionControl.emergency
      rw [state]
      exact turns _ (by simp) (by simp)
    · unfold ConnectionControl.emergency
      rw [state]
      rfl
    · unfold ConnectionControl.emergency
      rw [state]
      rfl

/-! ### CONNECT and UNLOCK (R143, R154) -/

theorem Takes.connectRefused {s : State} {p : Port} (taken : Takes s p .connect []) {reason : RefusalReason}
    (refusal : s.connectRefusal = some (.wrongState, some reason)) :
    exec (.connect p) s = .next (s.answered p 0x30 .wrongState (byte1 reason.code)) := by
  have here : (s.setPort p (s.ports.get p).taken).connectRefusal = some (.wrongState, some reason) := refusal
  exact congrArg Host.Outcome.next (taken.refused (by rw [answerConnect, here]; rfl))

theorem Takes.unlockRefused {s : State} {p : Port} (taken : Takes s p .unlock []) {reason : RefusalReason}
    (refusal : s.unlockRefusal = some reason) :
    exec (.unlock p) s = .next (s.answered p 0x32 .wrongState (byte1 reason.code)) := by
  have here : (s.setPort p (s.ports.get p).taken).unlockRefusal = some reason := refusal
  exact congrArg Host.Outcome.next (taken.refused (by rw [answerUnlock, here]; rfl))

theorem Takes.connectTaken {s : State} {p : Port} (taken : Takes s p .connect []) (refusal : s.connectRefusal = none) :
    ∃ t, exec (.connect p) s = .next t ∧
      EventLeaves
        (({ s with
            conn := { s.conn with
              contactors := { s.conn.contactors with neg := s.conn.contactors.neg.withCommand .closed },
              connection := .precharging .negWait, precharge := .stopped, openWait := .stopped },
            thermal := s.thermal.allAuto } : State).answered p 0x30 .ok [])
        [broadcast (.connectionState (.precharging .negWait) .connect)] t := by
  have here : (s.setPort p (s.ports.get p).taken).connectRefusal = none := refusal
  have connects : s.conn.connect =
      ⟨{ s.conn with
          contactors := { s.conn.contactors with neg := s.conn.contactors.neg.withCommand .closed },
          connection := .precharging .negWait, precharge := .stopped, openWait := .stopped },
        [.connectionState (.precharging .negWait) .connect]⟩ :=
    ConnectionControl.toStateFor_eq _ (by simp) (by simp) _
  refine ⟨_, rfl, taken.eventAnswered (w := .ifChanged) rfl ?_⟩
  rw [answerConnect, here]
  exact congrArg (fun y => takenBy (({ s.setPort p (s.ports.get p).taken with
    thermal := s.thermal.allAuto } : State).withConn y)) connects

theorem Takes.unlockTaken {s : State} {p : Port} (taken : Takes s p .unlock []) (refusal : s.unlockRefusal = none) :
    ∃ t, exec (.unlock p) s = .next t ∧
      EventLeaves
        (({ s with
            conn := { s.conn with
              attempts := 0, connection := .opened, precharge := .stopped, openWait := .stopped } } :
                State).answered p 0x32 .ok [])
        [broadcast (.connectionState .opened .unlock)] t := by
  have here : (s.setPort p (s.ports.get p).taken).unlockRefusal = none := refusal
  have unlocks : s.conn.unlock =
      ⟨{ s.conn with attempts := 0, connection := .opened, precharge := .stopped, openWait := .stopped },
        [.connectionState .opened .unlock]⟩ := ConnectionControl.toStateFor_eq _ (by simp) (by simp) _
  refine ⟨_, rfl, taken.eventAnswered (w := .ifChanged) rfl ?_⟩
  rw [answerUnlock, here]
  exact congrArg (fun y => takenBy ((s.setPort p (s.ports.get p).taken).withConn y)) unlocks

theorem ConnectionControl.sound_iff (c : ConnectionControl) :
    (c.sound .neg && c.sound .pre && c.sound .pos) = true ↔
      ∀ k, (c.contactors.get k).feedback = .opened ∧ (c.contactors.get k).faultMark = false := by
  simp only [ConnectionControl.sound, ConnectionControl.showsOpen, Bool.and_eq_true, decide_eq_true_iff,
    Bool.not_eq_true']
  constructor
  · rintro ⟨⟨neg, pre⟩, pos⟩ k
    cases k with
    | neg => exact neg
    | pre => exact pre
    | pos => exact pos
  · exact fun each => ⟨⟨each .neg, each .pre⟩, each .pos⟩

theorem Connection.isLocked_iff (n : Connection) : n.isLocked = true ↔ ∃ cause, n = .lockedOut cause := by
  cases n <;> simp [Connection.isLocked]

/-- Settles O34: the checks in order, and what a taken request makes of the connection. -/
theorem connectAndUnlock : Obligations.ConnectAndUnlock := by
  refine ⟨fun s p taken => ?_, fun s p taken => ?_⟩
  · intro refused
    refine ⟨fun unconfigured => ?_, fun configured => ⟨fun state => taken.connectRefused (reason := .state) ?_,
      fun state => ⟨fun fire => taken.connectRefused (reason := .fire) ?_,
      fun fire => ⟨fun loss => taken.connectRefused (reason := .dataLoss) ?_,
      fun loss => ⟨fun limit => taken.connectRefused (reason := .hardLimit) ?_,
      fun limit => ⟨fun cools => taken.connectRefused (reason := .cooldown) ?_,
      fun cools => taken.connectTaken ?_⟩⟩⟩⟩⟩⟩
    · have here : (s.setPort p (s.ports.get p).taken).connectRefusal = some (.unconfigured, none) := by
        simp [State.connectRefusal, unconfigured]
      exact congrArg Host.Outcome.next (taken.refused (by rw [answerConnect, here]; rfl))
    all_goals simp [State.connectRefusal, *]
  · intro refused sound
    refine ⟨fun unlocked => taken.unlockRefused (reason := .state) ?_, fun cause state =>
      ⟨fun fire => taken.unlockRefused (reason := .fire) ?_,
      fun fire => ⟨fun limit => taken.unlockRefused (reason := .hardLimit) ?_,
      fun limit => ⟨fun unsound => taken.unlockRefused (reason := .contactor) ?_,
      fun good => taken.unlockTaken ?_⟩⟩⟩⟩
    · have other : s.conn.connection.isLocked = false :=
        Bool.eq_false_iff.2 fun locked => by
          obtain ⟨cause, state⟩ := (Connection.isLocked_iff _).1 locked
          exact unlocked cause state
      simp [State.unlockRefusal, other]
    all_goals have locked := (Connection.isLocked_iff s.conn.connection).2 ⟨cause, state⟩
    · simp [State.unlockRefusal, locked, fire]
    · simp [State.unlockRefusal, locked, fire, limit]
    · have fails := Bool.eq_false_iff.2 (mt s.conn.sound_iff.1 unsound)
      simp only [State.unlockRefusal, locked, fire, limit, fails, Bool.not_true, Bool.not_false, Bool.false_eq_true,
        ne_eq, not_true_eq_false, if_false, if_true]
    · have passes := s.conn.sound_iff.2 good
      simp only [State.unlockRefusal, locked, fire, limit, passes, Bool.not_true, Bool.false_eq_true, ne_eq,
        not_true_eq_false, if_false]

/-! ### DISCONNECT (R149, R150, R153) -/

theorem currentTest_iff (config : ConfigSet) (string : StringReadings) :
    currentTest config string = true ↔
      (string.state = .known ∨ string.state = .stale) ∧ (string.current.natAbs : Int) ≤ config.openCurrent := by
  rw [currentTest, Bool.and_eq_true, decide_eq_true_iff]
  cases string.state <;> simp [ItemState.usable]

/-- The start of a NORMAL opening: its wait, which a passing current test ends at once (R149). -/
theorem ConnectionControl.beginNormal_eq (c : ConnectionControl) (config : ConfigSet) (string : StringReadings)
    (reason : ConnectionReason) :
    (currentTest config string = false →
      c.beginNormal config string reason =
        ⟨{ c with
            connection := .opening .normal .wait, openWait := .running config.openWait, precharge := .stopped },
          [.connectionState (.opening .normal .wait) reason]⟩) ∧
    (currentTest config string = true →
      c.beginNormal config string reason =
        ⟨(c.mainsBegun .normal).goOnOpening.conn,
          .connectionState (.opening .normal .wait) reason :: (c.mainsBegun .normal).goOnOpening.raised⟩) := by
  unfold ConnectionControl.beginNormal
  refine ⟨fun fails => ?_, fun passes => ?_⟩
  · rw [if_neg (by simp [fails])]
    rfl
  · rw [if_pos passes]
    unfold ConnChange.andThen ConnectionControl.endWait
    rw [ConnectionControl.beginMains_eq]
    rfl

/-- The start of an ABORT opening (R153). -/
theorem ConnectionControl.beginAbort_eq (c : ConnectionControl) :
    c.beginAbort =
      ⟨({ c.allOpen with
          connection := .opening .abort .neg, precharge := .stopped, openWait := .stopped } :
            ConnectionControl).goOnOpening.conn,
        .connectionState (.opening .abort .neg) .disconnect ::
          ({ c.allOpen with
            connection := .opening .abort .neg, precharge := .stopped, openWait := .stopped } :
              ConnectionControl).goOnOpening.raised⟩ := by
  rw [ConnectionControl.beginAbort, ConnectionControl.toStateFor_eq _ (by simp) (by simp)]
  rfl

theorem Takes.disconnectTaken {s : State} {p : Port} (taken : Takes s p .disconnect []) {conn : ConnectionControl}
    {raised : List Event} (does : s.conn.disconnect s.config s.table.string = ⟨conn, raised⟩) :
    ∃ t, exec (.disconnect p) s = .next t ∧
      EventLeaves (({ s with conn := conn } : State).answered p 0x31 .ok []) (raised.map broadcast) t :=
  ⟨_, rfl, taken.eventAnswered rfl
    (congrArg (fun y => takenBy ((s.setPort p (s.ports.get p).taken).withConn y)) does)⟩

/-- Settles O35, by connection state. -/
theorem disconnectStartsAnOpening : Obligations.DisconnectStartsAnOpening := by
  intro s p taken c atRest openings aborting leaves
  refine ⟨fun closed moves => taken.disconnectTaken ?_, fun closed rests => taken.disconnectTaken ?_,
    fun starting => taken.disconnectTaken ?_, fun other => taken.disconnectTaken ?_⟩
  · rw [ConnectionControl.disconnect, show s.conn.connection = .closed from closed]
    exact (s.conn.beginNormal_eq _ _ _).1 (Bool.eq_false_iff.2 (mt (currentTest_iff _ _).1 moves))
  · rw [ConnectionControl.disconnect, show s.conn.connection = .closed from closed]
    exact (s.conn.beginNormal_eq _ _ _).2 ((currentTest_iff _ _).2 rests)
  · rw [ConnectionControl.disconnect]
    rcases starting with ⟨phase, state⟩ | state
    all_goals
      rw [show s.conn.connection = _ from state]
      exact s.conn.beginAbort_eq
  · rw [ConnectionControl.disconnect]
    rcases other with ⟨kind, phase, state⟩ | state | ⟨cause, state⟩
    all_goals
      rw [show s.conn.connection = _ from state]
      rfl

end Sys2Proof.Machine
end

section
/-! A feedback change, the timers of the connection controller, the permit and the grid (sections 8.1 to 8.5). -/

namespace Sys2Proof.Machine

/-! ### A feedback change (R141, R144, R147, R150) -/

theorem exec_contactorFeedbackChange {s : State} (running : s.resetHeld = false) {k : Contactor} {v : Switch}
    (other : (s.conn.contactors.get k).feedback ≠ v) :
    exec (.contactorFeedbackChange k v) s =
      .next (State.settle s .ifChanged (s.withConn (s.conn.feedback s.config k v))) := by
  change Host.Outcome.next (s.running _) = _
  rw [State.running_of s running, if_neg other]
  rfl

/-- In CLOSING, PRE is commanded OPEN once POS shows CLOSED (R147). -/
theorem ConnectionControl.passPos_eq (c : ConnectionControl) :
    c.passPos =
      if c.contactors.pos.feedback = .closed then
        { c with contactors := { c.contactors with pre := c.contactors.pre.withCommand .opened } }
      else c := by
  unfold ConnectionControl.passPos
  cases shows : c.contactors.pos.feedback with
  | opened =>
    rw [ConnectionControl.showsOpen_eq_true (k := .pos) shows]
    rfl
  | closed =>
    rw [ConnectionControl.showsOpen_eq_false (k := .pos) shows]
    rfl

theorem ConnectionControl.passPre_eq (c : ConnectionControl) :
    (c.contactors.pre.command = .opened ∧ c.contactors.pre.feedback = .opened →
      c.passPre =
        ⟨{ c with attempts := 0, connection := .closed, precharge := .stopped, openWait := .stopped },
          [.connectionState .closed .connected]⟩) ∧
    (¬ (c.contactors.pre.command = .opened ∧ c.contactors.pre.feedback = .opened) → c.passPre = ⟨c, []⟩) := by
  have shown : (c.contactors.get .pre).command = .opened ∧ c.showsOpen .pre = true ↔
      c.contactors.pre.command = .opened ∧ c.contactors.pre.feedback = .opened :=
    and_congr_right fun _ => decide_eq_true_iff
  refine ⟨fun both => ?_, fun fails => if_neg (mt shown.1 fails)⟩
  rw [ConnectionControl.passPre, if_pos (shown.2 both)]
  exact ConnectionControl.toStateFor_eq _ (by simp) (by simp) _

theorem ConnectionControl.passNegWait_eq (c : ConnectionControl) (config : ConfigSet) :
    (c.contactors.neg.feedback = .closed →
      c.passNegWait config =
        ⟨{ c with
            contactors := { c.contactors with pre := c.contactors.pre.withCommand .closed },
            connection := .precharging .charging, precharge := .running config.prechargeTimeout,
            openWait := .stopped }, []⟩) ∧
    (c.contactors.neg.feedback = .opened → c.passNegWait config = ⟨c, []⟩) := by
  refine ⟨fun closed => ?_, fun opened => if_pos (ConnectionControl.showsOpen_eq_true (k := .neg) opened)⟩
  rw [ConnectionControl.passNegWait, ConnectionControl.showsOpen_eq_false (k := .neg) closed]
  rfl

/-- Settles O36, by connection state. -/
theorem feedbackMovesTheConnection : Obligations.FeedbackMovesTheConnection := by
  refine fun s k v running => ⟨fun same => ?_, fun other => ?_⟩
  · change Host.Outcome.next (s.running _) = _
    rw [State.running_of s running, if_pos same]
  · intro d pre leaves
    have does : ∀ {conn raised}, d.followFeedback s.config = ⟨conn, raised⟩ → leaves conn raised :=
      fun follows => ⟨_, exec_contactorFeedbackChange running other, State.settle_connChange s .ifChanged s follows⟩
    have closing : s.conn.connection = .closing → d.followFeedback s.config = pre.passPre := fun state => by
      rw [ConnectionControl.followFeedback, show d.connection = .closing from state]
      exact congrArg ConnectionControl.passPre d.passPos_eq
    refine ⟨fun state closed => does ?_, fun state opened => does ?_, fun state command shows => does ?_,
      fun state fails => does ?_, fun kind phase state => does ?_, fun states => does ?_⟩
    · rw [ConnectionControl.followFeedback, show d.connection = _ from state]
      exact (d.passNegWait_eq s.config).1 closed
    · rw [ConnectionControl.followFeedback, show d.connection = _ from state]
      exact (d.passNegWait_eq s.config).2 opened
    · exact (closing state).trans (pre.passPre_eq.1 ⟨command, shows⟩)
    · exact (closing state).trans (pre.passPre_eq.2 fails)
    · rw [ConnectionControl.followFeedback, show d.connection = _ from state]
    · rw [ConnectionControl.followFeedback]
      rcases states with state | state | state | ⟨cause, state⟩
      all_goals
        rw [show d.connection = _ from state]
        rfl

/-! ### The timers of the connection controller (R146, R148 to R150, R160) -/

theorem EventLeaves.reconnect {u t : State} {told : List Raised} {timer : Timer}
    (leaves : EventLeaves { u with conn := { u.conn with reconnect := timer } } told t) : EventLeaves u told t :=
  { leaves with conn := leaves.conn }

/-- The reconnect timer after an event (R160). -/
theorem settle_reconnect (b : State) (w : Publication) (x : Change) :
    (State.settle b w x).conn.reconnect =
      if x.st.conn.gridPresent then
        (if b.conn.gridPresent then x.st.conn.reconnect else .running x.st.config.reconnectDelay)
      else if b.conn.gridPresent then .stopped else x.st.conn.reconnect := by
  rw [State.settle_conn]
  change reconnectAfter b x.st = _
  unfold reconnectAfter
  cases x.st.conn.gridPresent <;> rfl

theorem ConnectionControl.prechargeFailed_eq (c : ConnectionControl) :
    c.prechargeFailed =
      ⟨{ c with
          contactors :=
            ⟨c.contactors.neg.withCommand .opened, c.contactors.pre.withCommand .opened, c.contactors.pos⟩,
          attempts := c.attempts + 1, cooldown := .running 30000000,
          connection := if c.attempts = 2 then .lockedOut .precharge else .opened,
          precharge := .stopped, openWait := .stopped },
        [.prechargeFailed (c.attempts + 1),
          .connectionState (if c.attempts = 2 then .lockedOut .precharge else .opened) .prechargeFailed]⟩ := by
  have third : (if c.attempts + 1 = 3 then Connection.lockedOut .precharge else .opened) =
      if c.attempts = 2 then .lockedOut .precharge else .opened := if_congr (by omega) rfl rfl
  rw [← third]
  unfold ConnectionControl.prechargeFailed ConnChange.andThen
  dsimp only
  rw [ConnectionControl.toStateFor_eq _ (by split <;> simp) (by split <;> simp)]
  rfl

theorem ConnectionControl.waitExpired_eq (c : ConnectionControl) (string : StringReadings) :
    c.waitExpired string =
      ⟨(c.mainsBegun .normal).goOnOpening.conn,
        .openedUnderLoad (if string.state.usable then some string.current else none) ::
          (c.mainsBegun .normal).goOnOpening.raised⟩ := by
  rw [ConnectionControl.waitExpired, ConnChange.andThen, ConnectionControl.endWait, ConnectionControl.beginMains_eq]
  rfl

theorem usable_iff (state : ItemState) : state.usable = true ↔ state = .known ∨ state = .stale := by
  cases state <;> simp [ItemState.usable]

/-- The running out of a timer of the connection controller, as an event at its instant. -/
theorem runOut_leaves {s : State} {left : Nat} {i : Instr} {f : ConnectionControl → State → ConnChange}
    (ran : exec i s = .next (State.settle (s.advance left) .ifChanged
      ((s.advance left).withConn (f (s.advance left).conn (s.advance left)))))
    {conn : ConnectionControl} {raised : List Event}
    (does : f (s.advance left).conn (s.advance left) = ⟨conn, raised⟩) :
    ∃ t, exec i s = .next t ∧ EventLeaves { s.advance left with conn := conn } (raised.map broadcast) t :=
  ⟨_, ran, State.settle_connChange _ _ _ does⟩

/-- Settles O37, timer by timer. -/
theorem connectionTimersRunOut : Obligations.ConnectionTimersRunOut := by
  intro s left running a c leaves mains usable
  have runs {f : State → State} : s.running f = f s := State.running_of s running f
  refine ⟨fun timer => ?_, fun timer => ?_, fun timer => ?_, fun timer => ⟨fun rests => ?_, fun moves => ?_⟩,
    fun timer present => ?_⟩
  · refine runOut_leaves (f := fun c _ => c.prechargeFailed) ?_ a.conn.prechargeFailed_eq
    change Host.Outcome.next (s.running _) = _
    rw [runs, timer, Timer.due_running, State.after_some]
    rfl
  · change Host.Outcome.next (s.running _) = _
    rw [runs, timer, Timer.due_running, State.after_some]
  · refine runOut_leaves (f := fun c u => c.waitExpired u.table.string) ?_
      ((a.conn.waitExpired_eq a.table.string).trans ?_)
    · change Host.Outcome.next (s.running _) = _
      rw [runs, timer, Timer.due_running, State.after_some]
      rfl
    · simp only [usable_iff]
      rfl
  · refine runOut_leaves (f := fun c u => c.beginNormal u.config u.table.string .dataLoss) ?_
      ((a.conn.beginNormal_eq _ _ _).2 ((currentTest_iff _ _).2 rests))
    change Host.Outcome.next (s.running _) = _
    rw [runs, timer, Timer.due_running, State.after_some]
    rfl
  · refine runOut_leaves (f := fun c u => c.beginNormal u.config u.table.string .dataLoss) ?_
      ((a.conn.beginNormal_eq _ _ _).1 (Bool.eq_false_iff.2 (mt (currentTest_iff _ _).1 moves)))
    change Host.Outcome.next (s.running _) = _
    rw [runs, timer, Timer.due_running, State.after_some]
    rfl
  · have settled := State.settle_quiet a .ifChanged { a with conn := { a.conn with reconnect := .runOut } }
    refine ⟨_, ?_, settled.reconnect, ?_⟩
    · change Host.Outcome.next (s.running _) = _
      rw [runs, timer, Timer.due_running, State.after_some]
      rfl
    · have stays : (Change.quiet { a with conn := { a.conn with reconnect := .runOut } }).st.conn.gridPresent = true :=
        present
      have was : a.conn.gridPresent = true := present
      rw [settle_reconnect, if_pos stays, if_pos was]
      rfl

/-! ### The permit (R156, R157) -/

/-- The stack without the FALLBACK entry, if one stands (R74, R156). -/
def State.unfallback (s : State) : StackState :=
  match s.conn.fallbackHandle with
  | some h => { s.stack with entries := s.stack.entries.filter fun e => decide (e.handle ≠ h) }
  | none => s.stack

theorem State.dropFallback_eq (s : State) :
    s.dropFallback = { s with stack := s.unfallback, conn := { s.conn with fallbackHandle := none } } := by
  unfold State.dropFallback State.unfallback
  cases held : s.conn.fallbackHandle with
  | some h => rfl
  | none =>
    dsimp only
    rw [← held]

theorem State.grant_eq (s : State) (duration : Nat) :
    s.grant duration =
      { s with
        stack := s.unfallback,
        conn := { s.conn with
          permit := .granted, permitTimer := if duration = 0 then .stopped else .running (duration * 1000000),
          fallbackHandle := none } } := by
  rw [State.grant, State.dropFallback_eq]
  rfl

theorem State.withdraw_eq (s : State) :
    s.withdraw =
      { s with
        stack := s.unfallback,
        conn := { s.conn with permit := .withdrawn, permitTimer := .stopped, fallbackHandle := none } } := by
  rw [State.withdraw, State.dropFallback_eq]

/-- Settles O38, by what a grant and a withdrawal write. -/
theorem permitAndWithdraw : Obligations.PermitAndWithdraw := by
  intro s p without leaves
  refine ⟨fun high low taken => ⟨fun long => ?_, fun short => ⟨_, rfl, ?_⟩⟩, fun taken => ⟨_, rfl, ?_⟩⟩
  · exact congrArg Host.Outcome.next (taken.refused
      (if_neg (show ¬ u16 [high, low] 0 ≤ 3600 from Nat.not_le.2 long)))
  · refine taken.eventAnswered (w := .ifChanged) (told := []) rfl
      ((if_pos (show u16 [high, low] 0 ≤ 3600 from short)).trans ?_)
    rw [State.grant_eq]
    rfl
  · refine taken.eventAnswered (w := .ifChanged) (told := []) rfl ?_
    rw [answerWithdraw, State.withdraw_eq]
    rfl

/-- A lapse that pushes the FALLBACK entry (R157). -/
theorem State.lapse_pushed {s : State} {st : StackState} {h : Nat} {d : Option Entry}
    (pushed : s.stack.push s.slots .util (fallbackBody s.config) = .pushed st h d) :
    s.lapse =
      ⟨{ (s.afterPush st h d).st with
          conn := { s.conn with permit := .lapsed, permitTimer := .stopped, fallbackHandle := some h } },
        (s.afterPush st h d).raised⟩ := by
  unfold State.lapse
  rw [pushed]
  cases d <;> rfl

theorem State.lapse_full {s : State} (full : s.stack.push s.slots .util (fallbackBody s.config) = .full) :
    s.lapse = ⟨{ s with conn := { s.conn with permit := .withdrawn, permitTimer := .stopped } }, []⟩ := by
  rw [State.lapse, full]

theorem lapse_leaves {s : State} (running : s.resetHeld = false) {left : Nat}
    (timer : s.conn.permitTimer = .running left) {u : State} {told : List Raised}
    (lapses : (s.advance left).lapse = ⟨u, told⟩) :
    ∃ t, exec .permitLapse s = .next t ∧ EventLeaves u told t := by
  have ran : exec .permitLapse s = .next (State.settle (s.advance left) .ifChanged ⟨u, told⟩) := by
    change Host.Outcome.next (s.running _) = _
    rw [State.running_of s running, timer, Timer.due_running, State.after_some, ← lapses]
    rfl
  exact ⟨_, ran, State.settle_leaves _ _ ⟨u, told⟩⟩

/-- The entries that time has passed over. -/
theorem advance_entries (s : State) (dt : Nat) : (s.advance dt).stack.entries = s.stack.entries.map (Entry.pass dt) :=
  rfl

/-- Settles O39: a push of the FALLBACK entry, as a utility push. -/
theorem lapsePushesTheFallbackEntry : Obligations.LapsePushesTheFallbackEntry := by
  intro s left running timer a rated utility lapsed
  have length : a.stack.entries.length = s.stack.entries.length := by rw [advance_entries, List.length_map]
  refine ⟨fun room => ?_, fun full all => ?_, fun full distinct below e above split utilities other => ?_⟩
  · exact lapse_leaves running timer
      (State.lapse_pushed (StackState.push_of_room (by rw [length]; exact room) a.slots .util _))
  · have owned : ∀ x ∈ a.stack.entries, utilityOwned a.slots x = true := by
      intro x mem
      obtain ⟨y, there, rfl⟩ := List.mem_map.1 mem
      exact (utilityOwned_iff s y).2 (all y there)
    exact lapse_leaves running timer
      (State.lapse_full (StackState.push_full (length.trans full).ge _ (.inr (displaceable_none owned))))
  · intro h
    have found : displaceable a.slots a.stack.entries = some e := by
      rw [split]
      exact displaceable_some (fun x mem => (utilityOwned_iff s x).2 (utilities x mem))
        (Bool.eq_false_iff.2 fun owned => other ((utilityOwned_iff s e).1 owned))
    have handles : (a.stack.entries.map Entry.handle).Nodup := by
      rw [advance_entries, List.map_map]
      exact distinct
    have pushed := StackState.push_displaces (length.trans full).ge found (fallbackBody a.config)
    rw [a.stack.remove_eq_of_split below above e handles split] at pushed
    have lapses := State.lapse_pushed pushed
    refine ⟨fun q owner => ?_, fun k c owner claimed => ?_⟩
    · rw [State.afterPush_of_port owner] at lapses
      exact lapse_leaves running timer lapses
    · rw [State.afterPush_of_slot owner (show a.claim k = some c from claimed)] at lapses
      exact lapse_leaves running timer lapses

/-! ### The grid (R158 to R160) -/

/-- The reconnect timer follows the grid through an event that leaves it otherwise (R160). -/
theorem settle_gridTimer {b : State} {w : Publication} {x : State} (delay : x.config = b.config) :
    (¬ b.conn.gridPresent = true → (State.settle b w (Change.quiet x)).conn.gridPresent = true →
      (State.settle b w (Change.quiet x)).conn.reconnect = .running b.config.reconnectDelay) ∧
    (b.conn.gridPresent = true → ¬ (State.settle b w (Change.quiet x)).conn.gridPresent = true →
      (State.settle b w (Change.quiet x)).conn.reconnect = .stopped) := by
  have grid : (State.settle b w (Change.quiet x)).conn.gridPresent = x.conn.gridPresent := by
    rw [State.settle_conn]
    rfl
  rw [grid, settle_reconnect, Change.quiet_st, delay]
  refine ⟨fun absent present => ?_, fun present absent => ?_⟩
  · rw [if_pos present, if_neg absent]
  · rw [if_neg absent, if_pos present]

theorem ConnectionControl.gridLine_eq (c : ConnectionControl) (config : ConfigSet) (line : Bool) :
    c.gridLine config line =
      { c with
        linePresent := line,
        convTimer := if line = true ∧ c.convNotice = true then .running config.reconnectDelay else .stopped } := by
  simp only [ConnectionControl.gridLine, Bool.and_eq_true]

/-- Settles O40, by what each notice writes, and the timer that follows it. -/
theorem gridNoticesAndLine : Obligations.GridNoticesAndLine := by
  intro s c delay present timed answered
  have grid : ∀ c : ConnectionControl, present c ↔ c.gridPresent = true := fun c => c.gridPresent_iff.symm
  have follows : ∀ {b x : State} {w : Publication}, b.conn.gridPresent = c.gridPresent → b.config = s.config →
      x.config = b.config → timed (State.settle b w (Change.quiet x)) := fun {b x w} was config kept => by
    have timer := settle_gridTimer (b := b) (w := w) kept
    rw [was, config] at timer
    exact ⟨fun absent now => timer.1 (mt (grid c).2 absent) ((grid _).1 now),
      fun now absent => timer.2 ((grid c).1 now) (mt (grid _).2 absent)⟩
  have asks : ∀ {i : Instr} {p : Port} {k : RequestKind} {conn : ConnectionControl}
      {act : List Byte → PortState → State → Answer}, Takes s p k [] →
      exec i s = .next (s.running fun s => s.serve p k act) →
      act [] (s.ports.get p).taken (s.setPort p (s.ports.get p).taken) =
        takenBy (Change.quiet { s.setPort p (s.ports.get p).taken with conn := conn }) →
      answered i p k.code conn := fun {i p k conn act} taken ran answer =>
    ⟨_, ran, taken.eventAnswered rfl answer, by
      rw [taken.settles answer]
      exact follows (b := s.setPort p (s.ports.get p).taken) (w := .ifChanged) rfl rfl rfl⟩
  refine ⟨fun taken => asks (k := .gridTrip) (act := answerGridTrip .conv) taken rfl rfl,
    fun taken => asks (k := .gridTrip) (act := answerGridTrip .util) taken rfl rfl,
    fun p taken => asks (k := .gridRestored) (act := answerGridRestored) taken rfl rfl,
    fun running => ⟨fun line same => ?_, fun line other => ?_, fun left timer => ?_⟩⟩
  · change Host.Outcome.next (s.running _) = _
    rw [State.running_of s running, if_pos same]
  · have ran : exec (.gridLineChange line) s =
        .next (State.settle s .ifChanged (Change.quiet { s with conn := s.conn.gridLine s.config line })) := by
      change Host.Outcome.next (s.running _) = _
      rw [State.running_of s running, if_neg other]
      rfl
    rw [ConnectionControl.gridLine_eq] at ran
    exact ⟨_, ran, State.settle_quiet s .ifChanged _, follows rfl rfl rfl⟩
  · refine ⟨_, ?_, State.settle_quiet (s.advance left) .ifChanged
      { s.advance left with conn := (s.advance left).conn.convExpired }, follows rfl rfl rfl⟩
    change Host.Outcome.next (s.running _) = _
    rw [State.running_of s running, timer, Timer.due_running, State.after_some]
    rfl

end Sys2Proof.Machine
end

section
/-! The chain controller (Chapter 1): the sweep modes, periods, the frames of the line, the verdict on a reply, and
the end of an attempt. -/

namespace Sys2Proof.Machine

/-! ### The sweep modes (R16 to R19) -/

namespace ChainState

variable {c : ChainState}

theorem applyDivisor_none (deferred : c.deferredDivisor = none) : c.applyDivisor = c := by
  rw [applyDivisor, deferred]

theorem applyDivisor_some {n : Nat} (deferred : c.deferredDivisor = some n) :
    c.applyDivisor = { c with divisor := n, deferredDivisor := none } := by
  rw [applyDivisor, deferred]

theorem applyDivisor_eq (c : ChainState) :
    c.applyDivisor = { c with divisor := c.deferredDivisor.getD c.divisor, deferredDivisor := none } := by
  cases deferred : c.deferredDivisor with
  | none => rw [Option.getD_none, applyDivisor_none deferred, ← deferred]
  | some n => exact applyDivisor_some deferred

/-- A set request of an IDLE chain is served: the chain is CLEARING with its frame due (R19). -/
def clearing (c : ChainState) : ChainState :=
  { c with bleedOffRequest := false, activity := .clearing, link := .frameDue, exchange := none }

theorem serveBleedOff_idle (request : c.bleedOffRequest = true) (idle : c.activity = .idle) :
    c.serveBleedOff = c.clearing := if_pos ⟨request, idle⟩

theorem serveBleedOff_busy (busy : c.activity ≠ .idle) : c.serveBleedOff = c := if_neg fun both => busy both.2

theorem serveBleedOff_unset (unset : c.bleedOffRequest = false) : c.serveBleedOff = c := by
  rw [serveBleedOff, unset]
  rfl

/-- The chain in STOPPED (R19). -/
def halted (c : ChainState) : ChainState := { c with mode := .stopped, periodTimer := .stopped, due := false }

/-- The chain in STOPPED with the BLEED_OFF request set (R19). -/
def stopped (c : ChainState) : ChainState := { c.halted with bleedOffRequest := true }

/-- The mode becomes STOPPED while the chain is not CLEARING: the BLEED_OFF request is set (R19). -/
theorem stopMode_eq (running : c.mode ≠ .stopped) (other : c.activity ≠ .clearing) :
    c.stopMode = c.stopped := by
  rw [stopMode, if_neg running, decide_eq_true other, Bool.or_true, stopped, halted]

theorem stopMode_clearing (running : c.mode ≠ .stopped) (clearing : c.activity = .clearing) :
    c.stopMode = c.halted := by
  rw [stopMode, if_neg running, decide_eq_false (not_not.2 clearing), Bool.or_false, halted]

theorem abortSweep_of_ne (other : c.activity ≠ .sweeping) : c.abortSweep = c := if_neg other

theorem betweenExchanges_some {e : Exchange} (exchange : c.exchange = some e) : c.betweenExchanges = !e.begun := by
  rw [betweenExchanges, exchange]

theorem abortSweep_inside (sweeping : c.activity = .sweeping) (inside : c.betweenExchanges = false) :
    c.abortSweep = { c with activity := .aborting } := by
  rw [abortSweep, if_pos sweeping, inside]
  rfl

theorem abortSweep_between (sweeping : c.activity = .sweeping) (between : c.betweenExchanges = true) :
    c.abortSweep = c.endAbort := by
  rw [abortSweep, if_pos sweeping, between]
  rfl

/-- The end of an abort (R18): the partial buffer is discarded, and the chain is IDLE. -/
def aborted (c : ChainState) : ChainState :=
  { c with
    buffer := List.replicate 33 none, divisor := c.deferredDivisor.getD c.divisor, deferredDivisor := none,
    activity := .idle, link := .rest, exchange := none }

theorem endAbort_eq (c : ChainState) : c.endAbort = c.aborted := by
  rw [endAbort, becomeIdle, applyDivisor_eq, aborted]

/-- The stop of a chain that is neither SWEEPING nor CLEARING nor IDLE waits for the end of the abort (R18, R19). -/
theorem stop_aborting (running : c.mode ≠ .stopped) (aborting : c.activity = .aborting) :
    c.stop = c.stopped := by
  rw [stop, stopMode_eq running (by simp [aborting]), abortSweep_of_ne (by simp [stopped, halted, aborting]),
    serveBleedOff_busy (by simp [stopped, halted, aborting])]

theorem stop_clearing (running : c.mode ≠ .stopped) (clearing : c.activity = .clearing) :
    c.stop = c.halted := by
  rw [stop, stopMode_clearing running clearing, abortSweep_of_ne (by simp [halted, clearing]),
    serveBleedOff_busy (by simp [halted, clearing])]

theorem stop_idle (running : c.mode ≠ .stopped) (idle : c.activity = .idle) :
    c.stop = c.halted.clearing := by
  rw [stop, stopMode_eq running (by simp [idle]), abortSweep_of_ne (by simp [stopped, halted, idle]),
    serveBleedOff_idle (c := c.stopped) rfl idle]
  rfl

theorem stop_inside (running : c.mode ≠ .stopped) (sweeping : c.activity = .sweeping)
    (inside : c.betweenExchanges = false) :
    c.stop = { c.stopped with activity := .aborting } := by
  rw [stop, stopMode_eq running (by simp [sweeping]), abortSweep_inside (c := c.stopped) sweeping inside,
    serveBleedOff_busy (by simp)]

theorem stop_between (running : c.mode ≠ .stopped) (sweeping : c.activity = .sweeping)
    (between : c.betweenExchanges = true) :
    c.stop = c.halted.aborted.clearing := by
  rw [stop, stopMode_eq running (by simp [sweeping]), abortSweep_between (c := c.stopped) sweeping between,
    endAbort_eq, serveBleedOff_idle rfl rfl]
  rfl

end ChainState

/-- A taken request of the chain controller leaves the chain that it names, answered OK. -/
theorem Takes.chainTaken {s : State} {p : Port} {k : RequestKind} (taken : Takes s p k [])
    {act : List Byte → PortState → State → Answer} {chain : ChainState}
    (answer : act [] (s.ports.get p).taken (s.setPort p (s.ports.get p).taken) =
      takenBy (Change.quiet ((s.setPort p (s.ports.get p).taken).withChain chain))) :
    EventLeaves ((s.withChain chain).answered p k.code .ok []) [] (s.running fun s => s.serve p k act) :=
  taken.eventAnswered (w := .ifChanged) (told := []) rfl (answer.trans (by cases p <;> rfl))

theorem answerSweepOnce_taken {s : State} {q : PortState} {chain : ChainState} (configured : s.config.configured = true)
    (once : s.chain.sweepOnce = chain) :
    answerSweepOnce [] q s = takenBy (Change.quiet (s.withChain chain)) := by
  rw [answerSweepOnce, if_pos configured, once]

theorem answerSweepContinuous_taken {s : State} {q : PortState} {chain : ChainState}
    (configured : s.config.configured = true) (continuous : s.chain.sweepContinuous s.config.sweepPeriod = chain) :
    answerSweepContinuous [] q s = takenBy (Change.quiet (s.withChain chain)) := by
  rw [answerSweepContinuous, if_pos configured, continuous]

theorem answerSweepStop_taken {s : State} {q : PortState} {chain : ChainState}
    (disconnected : s.conn.connection.disconnected = true) (stop : s.chain.sweepStop = chain) :
    answerSweepStop [] q s = takenBy (Change.quiet (s.withChain chain)) := by
  rw [answerSweepStop, if_pos disconnected, stop]

theorem answerSweepOnce_unconfigured {s : State} {q : PortState} (unconfigured : s.config.configured = false) :
    answerSweepOnce [] q s = refuse .unconfigured q := if_neg (by simp [unconfigured])

theorem answerSweepContinuous_unconfigured {s : State} {q : PortState} (unconfigured : s.config.configured = false) :
    answerSweepContinuous [] q s = refuse .unconfigured q := if_neg (by simp [unconfigured])

/-- Settles O41, by what each mode and activity makes of the request. -/
theorem sweepRequestsSetTheMode : Obligations.SweepRequestsSetTheMode := by
  refine ⟨fun s p => ?starts, fun s p taken => ?stops⟩
  case starts =>
    refine ⟨fun taken => ⟨fun unconfigured => ?_,
        fun configured => ⟨fun mode => ⟨_, rfl, ?_⟩, fun mode => ⟨_, rfl, ?_⟩⟩⟩,
      fun taken => ⟨fun unconfigured => ?_,
        fun configured => ⟨fun mode => ⟨_, rfl, ?_⟩, fun mode => ⟨_, rfl, ?_⟩, fun mode => ⟨_, rfl, ?_⟩⟩⟩⟩
    · exact congrArg Host.Outcome.next
        (taken.refused (answerSweepOnce_unconfigured (s := s.setPort p (s.ports.get p).taken) unconfigured))
    · exact taken.chainTaken
        (answerSweepOnce_taken (s := s.setPort p (s.ports.get p).taken) configured (if_pos mode))
    · exact taken.chainTaken
        (answerSweepOnce_taken (s := s.setPort p (s.ports.get p).taken) configured (if_neg mode))
    · exact congrArg Host.Outcome.next
        (taken.refused (answerSweepContinuous_unconfigured (s := s.setPort p (s.ports.get p).taken) unconfigured))
    all_goals
      refine taken.chainTaken
        (answerSweepContinuous_taken (s := s.setPort p (s.ports.get p).taken) configured ?_)
      change s.chain.sweepContinuous s.config.sweepPeriod = _
      simp [ChainState.sweepContinuous, mode, ChainState.startContinuous, ChainState.startPeriod]
  case stops =>
    have stopped : ∀ {chain : ChainState}, s.conn.connection = .opened ∨ s.conn.connection.isLocked = true →
        s.chain.sweepStop = chain → ∃ t, exec (.sweepStop p) s = .next t ∧
          EventLeaves ((s.withChain chain).answered p 0x42 .ok []) [] t := fun disconnected stop =>
      ⟨_, rfl, taken.chainTaken (answerSweepStop_taken (s := s.setPort p (s.ports.get p).taken)
        ((Connection.disconnected_iff _).2 disconnected) stop)⟩
    refine ⟨fun unopened unlocked => ?_, fun disconnected => ⟨fun mode => ⟨fun busy => ?_, fun idle => ?_⟩,
      fun mode => ⟨fun clearing => ?_, fun aborting => ?_, fun idle => ?_, fun e sweeping exchange begun => ?_,
        fun e sweeping exchange begun => ?_⟩⟩⟩
    · refine congrArg Host.Outcome.next (taken.refused (if_neg ?_))
      change ¬ s.conn.connection.disconnected = true
      rw [Connection.disconnected_iff]
      simp [unopened, unlocked]
    · exact stopped disconnected ((if_pos mode).trans (if_pos busy))
    · refine stopped disconnected ((if_pos mode).trans ((if_neg (by simp [idle])).trans ?_))
      exact ChainState.serveBleedOff_idle (c := { s.chain with bleedOffRequest := true }) rfl idle
    · exact stopped disconnected ((if_neg mode).trans (ChainState.stop_clearing mode clearing))
    · exact stopped disconnected ((if_neg mode).trans (ChainState.stop_aborting mode aborting))
    · exact stopped disconnected ((if_neg mode).trans (ChainState.stop_idle mode idle))
    · exact stopped disconnected ((if_neg mode).trans (ChainState.stop_inside mode sweeping
        (by rw [ChainState.betweenExchanges_some exchange, begun]; rfl)))
    · exact stopped disconnected ((if_neg mode).trans (ChainState.stop_between mode sweeping
        (by rw [ChainState.betweenExchanges_some exchange, begun]; rfl)))

/-! ### Periods, sweeps and age (R11, R13, R33) -/

/-- Settles O42: each command is its function, once its guard is decided. -/
theorem periodsSweepsAndAge : Obligations.PeriodsSweepsAndAge := by
  intro s running
  refine ⟨fun left timer => ?boundary, fun due mode idle => ?begins, fun none_ => ?stays, fun left timer => ?age⟩
  case boundary =>
    change Host.Outcome.next (s.running _) = _
    rw [State.running_of s running, timer, Timer.due_running, State.after_some]
    rfl
  case begins =>
    change Host.Outcome.next (s.running _) = _
    rw [State.running_of s running, if_pos ((ChainState.mayBegin_iff _).2 ⟨due, mode, idle⟩)]
    rfl
  case stays =>
    change Host.Outcome.next (s.running _) = _
    rw [State.running_of s running, if_neg]
    rw [ChainState.mayBegin_iff]
    rcases none_ with undue | stopped | busy
    · simp [undue]
    · simp [stopped]
    · simp [busy]
  case age =>
    refine ⟨_, ?_, State.settle_quiet (s.advance left) .always
      { s.advance left with table := (s.advance left).table.aged }, ?_, ?_⟩
    · change Host.Outcome.next (s.running _) = _
      rw [State.running_of s running, timer, Timer.due_running, State.after_some]
    · exact (State.settle_always _ _).1
    · rw [State.settle_envelope]
      rfl

/-! ### The frames of the line (R1, R2, R4, R5, R7, R19, R20) -/

theorem charSum_eq (bytes : List Byte) : charSum bytes = (bytes.map BitVec.toNat).sum := by
  have from_ : ∀ (l : List Byte) (n : Nat), l.foldl (fun n b => n + b.toNat) n = n + (l.map BitVec.toNat).sum := by
    intro l
    induction l with
    | nil => exact fun n => rfl
    | cons b l ih =>
      intro n
      rw [List.foldl_cons, ih, List.map_cons, List.sum_cons, Nat.add_assoc]
  rw [charSum, from_, Nat.zero_add]

/-- The characters of a frame and their check character sum to 0 mod 256 (R5). -/
theorem charSum_check (bytes : List Byte) : (charSum bytes + (checkChar bytes).toNat) % 256 = 0 := by
  rw [checkChar, BitVec.toNat_ofNat]
  omega

/-- A command frame: five characters with the ninth bit on the address alone and a sum of 0 mod 256 (R4, R5). -/
theorem commandFrame_eq (address : Nat) (command : ChainCommand) (mask : Mask) :
    ∃ check, commandFrame address command mask =
      [⟨BitVec.ofNat 8 address, true, true⟩, ⟨command.code, false, true⟩, ⟨mask.setWidth 8, false, true⟩,
        ⟨(mask >>> 8).setWidth 8, false, true⟩, ⟨check, false, true⟩] ∧
      (((commandFrame address command mask).map fun x => x.value.toNat).sum) % 256 = 0 := by
  have low : BitVec.ofNat 8 mask.toNat = mask.setWidth 8 := BitVec.ofNat_toNat 8 mask
  have high : BitVec.ofNat 8 (mask.toNat / 256) = (mask >>> 8).setWidth 8 := by
    apply BitVec.eq_of_toNat_eq
    simp [BitVec.toNat_ushiftRight, Nat.shiftRight_eq_div_pow]
  refine ⟨checkChar [BitVec.ofNat 8 address, command.code, mask.setWidth 8, (mask >>> 8).setWidth 8], ?_, ?_⟩
  · rw [commandFrame, low, high]
    rfl
  · have sum := charSum_check
      [BitVec.ofNat 8 address, command.code, BitVec.ofNat 8 mask.toNat, BitVec.ofNat 8 (mask.toNat / 256)]
    rw [charSum_eq] at sum
    simpa [commandFrame, Nat.add_assoc] using sum

theorem exec_chainFrameSend {s : State} (running : s.resetHeld = false) (due : s.chain.link = .frameDue)
    (free : s.chain.lineFree = true) :
    exec .chainFrameSend s = .next (s.withChain s.sendDueFrame) := by
  change Host.Outcome.next (s.running _) = _
  rw [State.running_of s running, if_pos ((ChainState.mayBeginFrame_iff _).2 ⟨due, free⟩)]

theorem ChainState.isSending_of_link {c : ChainState} {chars : List ChainChar} (link : c.link = .sending chars) :
    c.isSending = true := by
  rw [ChainState.isSending, link]

/-- The broadcast frame of a CLEARING chain (R4, R19). -/
theorem State.sendDueFrame_clearing {s : State} (clearing : s.chain.activity = .clearing) :
    s.sendDueFrame = s.chain.sendFrame (commandFrame broadcastAddress .bleedOff 0) 0 none := by
  cases exchange : s.chain.exchange with
  | none => rw [State.sendDueFrame, clearing, exchange]
  | some e => rw [State.sendDueFrame, clearing, exchange]

/-- The frame of an exchange, in a sweep or an abort: READ, or READ_BALANCE with a mask (R4, R20). -/
theorem State.sendDueFrame_exchange {s : State} {e : Exchange} (exchange : s.chain.exchange = some e)
    (working : s.chain.activity = .sweeping ∨ s.chain.activity = .aborting) {mask : Mask}
    (masked : (if e.address = 0 then 0 else s.balanceMask e.address) = mask) :
    s.sendDueFrame =
      s.chain.sendFrame (commandFrame e.address (if mask = 0 then .read else .readBalance) mask) mask
        (some { e with begun := true, mask := mask }) := by
  subst masked
  rcases working with sweeping | aborting
  · rw [State.sendDueFrame, sweeping, exchange]
  · rw [State.sendDueFrame, aborting, exchange]

/-- The end of the frame that is being sent, for an exchange and for BLEED_OFF (R7, R19). -/
theorem exec_commandFrameEnd {s : State} (running : s.resetHeld = false) {chars : List ChainChar}
    (link : s.chain.link = .sending chars) {left : Nat} (timer : s.chain.linkTimer = .running left)
    (other : s.chain.activity ≠ .clearing) :
    exec .commandFrameEnd s = .next ((s.advance left).withChain (s.advance left).chain.awaitReply) := by
  change Host.Outcome.next (s.running _) = _
  rw [State.running_of s running, if_pos (by simp [ChainState.isSending_of_link link, other]), timer,
    Timer.due_running, State.after_some]

theorem exec_bleedOffSent {s : State} (running : s.resetHeld = false) {chars : List ChainChar}
    (link : s.chain.link = .sending chars) {left : Nat} (timer : s.chain.linkTimer = .running left)
    (clearing : s.chain.activity = .clearing) :
    exec .bleedOffSent s = .next ((s.advance left).withChain (s.advance left).chain.bleedOffDone) := by
  change Host.Outcome.next (s.running _) = _
  rw [State.running_of s running, if_pos (by simp [ChainState.isSending_of_link link, clearing]), timer,
    Timer.due_running, State.after_some]

theorem ChainState.bleedOffDone_eq {c : ChainState} (unset : c.bleedOffRequest = false) :
    c.bleedOffDone =
      { c with
        activity := .idle, link := .rest, linkTimer := .stopped, lineFree := true, pendingMask := 0,
        exchange := none, divisor := c.deferredDivisor.getD c.divisor, deferredDivisor := none } := by
  rw [ChainState.bleedOffDone, ChainState.becomeIdle, ChainState.applyDivisor_eq]
  exact ChainState.serveBleedOff_unset unset

theorem ChainState.driving_iff (c : ChainState) : c.driving = true ↔ ∃ chars, c.link = .sending chars := by
  unfold ChainState.driving
  cases c.link <;> simp

/-- Settles O43, frame by frame. -/
theorem chainFramesAndTheLine : Obligations.ChainFramesAndTheLine := by
  intro s running
  refine ⟨fun waits => ?waits, fun due free clearing => ?clears, fun e due free working exchange _ => ?exchanges,
    fun chars left link timer => ⟨fun other => ?ends, fun clearing unset => ?bleeds⟩,
    fun left busy link timer => ?frees, ?drives⟩
  case waits =>
    change Host.Outcome.next (s.running _) = _
    rw [State.running_of s running, if_neg]
    rw [ChainState.mayBeginFrame_iff]
    rcases waits with other | busy
    · simp [other]
    · simp [busy]
  case clears =>
    obtain ⟨check, shape, sum⟩ := commandFrame_eq broadcastAddress .bleedOff 0
    refine ⟨_, ⟨check, shape, sum⟩, ?_⟩
    rw [exec_chainFrameSend running due free, State.sendDueFrame_clearing clearing]
    rfl
  case exchanges =>
    obtain ⟨check, shape, sum⟩ := commandFrame_eq e.address
      (if (if e.address = 0 then 0 else s.balanceMask e.address) = 0 then .read else .readBalance)
      (if e.address = 0 then 0 else s.balanceMask e.address)
    rw [apply_ite ChainCommand.code] at shape
    refine ⟨_, ⟨check, shape, sum⟩, ?_⟩
    rw [exec_chainFrameSend running due free, State.sendDueFrame_exchange exchange working rfl]
    rfl
  case ends => exact exec_commandFrameEnd running link timer other
  case bleeds =>
    exact (exec_bleedOffSent running link timer clearing).trans
      (congrArg (fun c => Host.Outcome.next ((s.advance left).withChain c))
        (ChainState.bleedOffDone_eq (c := (s.advance left).chain) unset))
  case frees =>
    change Host.Outcome.next (s.running _) = _
    rw [State.running_of s running, if_pos ((ChainState.isQuieting_iff _).2 ⟨busy, link⟩), timer, Timer.due_running,
      State.after_some]
    rfl
  case drives => exact s.chain.driving_iff

/-! ### The verdict on a reply (R5, R6, R8) -/

/-- A character of a reply that shows no error (R5, R6). -/
def SoundChar (address : Nat) (first : Bool) (c : ChainChar) : Prop :=
  c.stopAtMark = true ∧ c.ninth = first ∧ (first = true → c.value = BitVec.ofNat 8 address)

theorem SoundChar.no_error {address : Nat} {first : Bool} {c : ChainChar} (sound : SoundChar address first c) :
    charError address first c = none := by
  obtain ⟨mark, ninth, value⟩ := sound
  cases first with
  | true => simp [charError, mark, ninth, value rfl]
  | false => simp [charError, mark, ninth]

/-- Sound characters before an error: the first error is that of the character after them. -/
theorem firstCharError_append {address : Nat} {rest : List ChainChar} {c : ChainChar} :
    ∀ {before : List ChainChar} {first : Bool},
      (∀ i x, before[i]? = some x → SoundChar address (first && decide (i = 0)) x) →
      ∀ e, charError address (first && before.isEmpty) c = some e →
      firstCharError address first (before ++ c :: rest) = some e
  | [], first, _, e, error => by
    rw [List.isEmpty_nil, Bool.and_true] at error
    rw [List.nil_append, firstCharError, error]
  | b :: before, first, sound, e, error => by
    have here : charError address first b = none := by simpa using (sound 0 b rfl).no_error
    have later : firstCharError address false (before ++ c :: rest) = some e :=
      firstCharError_append (fun i x at_ => by simpa using sound (i + 1) x at_) e (by simpa using error)
    rw [List.cons_append, firstCharError, here]
    exact later

theorem firstCharError_sound {address : Nat} :
    ∀ {chars : List ChainChar} {first : Bool},
      (∀ i x, chars[i]? = some x → SoundChar address (first && decide (i = 0)) x) →
      firstCharError address first chars = none
  | [], _, _ => rfl
  | c :: chars, first, sound => by
    have here : charError address first c = none := by simpa using (sound 0 c rfl).no_error
    have later : firstCharError address false chars = none :=
      firstCharError_sound fun i x at_ => by simpa using sound (i + 1) x at_
    rw [firstCharError, here]
    exact later

/-- An error after sound characters, within the expected number, decides (R8). -/
theorem replyVerdict_error {address : Nat} {before after : List ChainChar} {c : ChainChar}
    (within : before.length < replyLength address)
    (sound : ∀ i x, before[i]? = some x → SoundChar address (decide (i = 0)) x) {e : ErrorKind}
    (error : charError address before.isEmpty c = some e) :
    replyVerdict address (before ++ c :: after) = .failed e := by
  obtain ⟨k, rest⟩ := Nat.exists_eq_add_of_lt within
  have taken : (before ++ c :: after).take (replyLength address) = before ++ c :: after.take k := by
    rw [rest, Nat.add_assoc, List.take_length_add_append, List.take_succ_cons]
  have first : firstCharError address true (before ++ c :: after.take k) = some e :=
    firstCharError_append (fun i x at_ => by simpa using sound i x at_) e (by simpa using error)
  simp only [replyVerdict, taken, first]

/-- The characters of a reply without an error, up to its length: what follows from the check and the status. -/
theorem replyVerdict_sound {address : Nat} {chars : List ChainChar} (within : chars.length ≤ replyLength address)
    (sound : ∀ i x, chars[i]? = some x → SoundChar address (decide (i = 0)) x) :
    replyVerdict address chars =
      if chars.length < replyLength address then .incomplete
      else if ¬ (chars.map fun x => x.value.toNat).sum % 256 = 0 then .failed .check
      else if (chars.map ChainChar.value).getD (replyLength address - 2) 0 ≠ 0 then .failed .monitorFault
      else .accepted (chars.map ChainChar.value) := by
  have first : firstCharError address true chars = none :=
    firstCharError_sound fun i x at_ => by simpa using sound i x at_
  have sum : (chars.map fun x => x.value.toNat).sum = charSum (chars.map ChainChar.value) := by
    rw [charSum_eq, List.map_map]
    rfl
  have status : replyStatus address (chars.map ChainChar.value) ≠ 0 ↔
      (chars.map ChainChar.value).getD (replyLength address - 2) 0 ≠ 0 := by
    rw [replyStatus, u8, ne_eq, ne_eq, ← BitVec.toNat_inj]
    rfl
  simp only [replyVerdict, List.take_of_length_le within, first, replyChecks, sum, status, Bool.not_eq_true',
    decide_eq_false_iff_not]

/-- Settles O44: the first character that is not sound decides, and then the check and the status. -/
theorem repliesAreJudgedInOrder : Obligations.RepliesAreJudgedInOrder := by
  intro address _
  refine ⟨fun before c after within sound => ?errors, fun chars sound => ?complete⟩
  case errors =>
    refine ⟨fun space => replyVerdict_error within sound ?_, fun mark later ninth => replyVerdict_error within sound ?_,
      fun mark first wrong => replyVerdict_error within sound ?_⟩
    · simp [charError, space]
    · simp [charError, mark, ninth, later]
    · subst first
      rcases wrong with ninth | value
      · simp [charError, mark, ninth]
      · simp [charError, mark, value]
  case complete =>
    refine ⟨fun short => ?_, fun length unchecked => ?_, fun length checked status => ?_,
      fun length checked status => ?_⟩
    · exact (replyVerdict_sound (Nat.le_of_lt short) sound).trans (if_pos short)
    all_goals
      have verdict := (replyVerdict_sound (Nat.le_of_eq length) sound).trans
        (if_neg (Nat.not_lt.2 (Nat.le_of_eq length.symm)))
    · exact verdict.trans (if_pos unchecked)
    · exact verdict.trans ((if_neg (not_not.2 checked)).trans (if_pos status))
    · exact verdict.trans ((if_neg (not_not.2 checked)).trans (if_neg (not_not.2 status)))

/-! ### The end of an attempt (R7 to R9) -/

theorem exec_reply {s : State} (running : s.resetHeld = false) {e : Exchange} (awaited : s.chain.awaited = some e)
    (chars : List ChainChar) :
    exec (.chainReplyEnd chars) s = .next (s.endReply e chars) ∧
    exec (.chainReplyError chars) s = .next (s.breakReply e chars) := by
  refine ⟨?_, ?_⟩
  · change Host.Outcome.next (s.running _) = _
    rw [State.running_of s running, awaited]
  · change Host.Outcome.next (s.running _) = _
    rw [State.running_of s running, awaited]

theorem exec_unawaited {s : State} (running : s.resetHeld = false) (unawaited : s.chain.awaited = none)
    (chars : List ChainChar) (received : Bool) :
    exec (.chainReplyEnd chars) s = .next s ∧ exec (.chainReplyError chars) s = .next s ∧
    exec (.chainReplyTimeout received) s = .next s := by
  refine ⟨?_, ?_, ?_⟩
  all_goals
    change Host.Outcome.next (s.running _) = _
    rw [State.running_of s running, unawaited]

theorem ChainState.awaited_some {c : ChainState} {e : Exchange} (link : c.link = .awaitingReply)
    (exchange : c.exchange = some e) : c.awaited = some e := by
  rw [ChainState.awaited, link, exchange]

theorem quietLeft_timeout (divisor : Nat) :
    quietLeft divisor .timeout false = 2 * (11 * (divisor + 1)) - 1000 := by
  change (if false = true then 0 else quietTime divisor - Length.replyTimeout) = _
  rw [if_neg (by decide)]
  unfold quietTime charTime Length.replyTimeout
  rfl

/-- A failed attempt: the line after the quiet that is left, and the retry or the miss (R8, R9). -/
theorem State.failAttempt_eq (s : State) (e : Exchange) (error : ErrorKind) (quiet : Nat) :
    s.failAttempt e error quiet =
      if e.retry = false ∧ error ≠ .monitorFault then
        s.withChain { s.chain.lineBusy quiet with exchange := some { e with retry := true }, link := .frameDue }
      else (s.withChain (s.chain.lineBusy quiet)).endExchange e (.missed error) := rfl

/-- The reply timeout passes without a character (R7). -/
theorem exec_replyLimit {s : State} (running : s.resetHeld = false) {e : Exchange}
    (awaited : s.chain.awaited = some e) {left : Nat} (timer : s.chain.linkTimer = .running left) :
    exec (.chainReplyTimeout false) s =
      .next ((s.advance left).failAttempt e .timeout (quietLeft s.chain.divisor .timeout false)) := by
  change Host.Outcome.next (s.running _) = _
  rw [State.running_of s running, awaited]
  simp only [timer, Timer.due_running, State.after_some, Bool.false_eq_true, if_false]
  rfl

/-- Settles O45, error by error. -/
theorem attemptsEndOrAreRetried : Obligations.AttemptsEndOrAreRetried := by
  intro s running
  refine ⟨fun idle chars received =>
      exec_unawaited running (ChainState.awaited_eq_none (.inl idle)) chars received,
    fun e link exchange => ?_⟩
  have awaited := ChainState.awaited_some link exchange
  refine ⟨fun chars reply accepted => ?accepts, fun chars error failed => ⟨fun kind => ?ends, fun kind => ?breaks⟩,
    ?gap, fun left timer => ?limit⟩
  case accepts =>
    rw [(exec_reply running awaited chars).1, State.endReply, accepted]
    rfl
  case ends =>
    rw [(exec_reply running awaited chars).1, State.endReply, failed]
    rcases kind with rfl | rfl
    · rfl
    · rfl
  case breaks =>
    rw [(exec_reply running awaited chars).2, State.breakReply, failed]
    rcases kind with rfl | rfl
    · rfl
    · rfl
  case gap =>
    change Host.Outcome.next (s.running _) = _
    rw [State.running_of s running, awaited]
    rfl
  case limit =>
    rw [exec_replyLimit running awaited timer, quietLeft_timeout, State.failAttempt_eq]
    rfl

end Sys2Proof.Machine
end

section
/-! The balance mask (R37, R38) and the snapshot that a sweep leaves (R22 to R33, R35). -/

namespace Sys2Proof.Machine

/-! ### The balance mask (R37, R38) -/

theorem setCode_testBit (l : List Bool) (p : Nat) : (setCode l).testBit p = l.getD p false := by
  induction l generalizing p with
  | nil => simp [setCode]
  | cons b rest ih =>
    cases p with
    | zero => cases b <;> simp [setCode, boolCode, Nat.testBit_zero]
    | succ p =>
      have half : (boolCode b + 2 * setCode rest) / 2 = setCode rest := by
        have bit : boolCode b < 2 := by cases b <;> decide
        omega
      rw [setCode, Nat.testBit_succ, half, ih, List.getD_cons_succ]

theorem maskOf_getLsbD (f : Nat → Bool) {p : Nat} (within : p < 12) : (maskOf f).getLsbD p = f p := by
  rw [maskOf, BitVec.getLsbD_ofNat, setCode_testBit]
  simp [within]

theorem State.balancingVmin_some {s : State} {t v : Int} {i j : Nat} (tmax : s.table.aggregates.tmax = some (t, i))
    (vmin : s.table.aggregates.vmin = some (v, j)) :
    s.balancingVmin =
      if s.config.configured = true ∧ s.config.balancing = true ∧ s.fire.status = .quiet ∧
          t < s.config.balanceTemperature ∧ s.table.dataLoss.holds = false then some v
      else none := by
  simp [State.balancingVmin, tmax, vmin, and_assoc]

/-- Balancing may name a cell only while its five conditions hold (R37). -/
theorem State.may_of_balancingVmin {s : State} {v : Int} (balancing : s.balancingVmin = some v) :
    s.config.configured = true ∧ s.config.balancing = true ∧ s.fire.status = .quiet ∧
    (∃ t i, s.table.aggregates.tmax = some (t, i) ∧ t < s.config.balanceTemperature) ∧
    s.table.dataLoss.holds = false := by
  cases tmax : s.table.aggregates.tmax with
  | none => simp [State.balancingVmin, tmax] at balancing
  | some top =>
    cases vmin : s.table.aggregates.vmin with
    | none => simp [State.balancingVmin, tmax, vmin] at balancing
    | some least =>
      rw [State.balancingVmin_some tmax vmin] at balancing
      obtain ⟨configured, on, quiet, cool, lossless⟩ := of_not_not fun none_ => by
        rw [if_neg none_] at balancing
        exact nomatch balancing
      exact ⟨configured, on, quiet, ⟨top.1, top.2, rfl, cool⟩, lossless⟩

/-- The place of a position in the order of choice: a higher one is chosen first (R38). -/
def choiceRank (t : CellTable) (m p : Nat) : Nat :=
  (t.cells.getD ((m - 1) * 12 + p) blankCell).voltage * 12 + (11 - p)

theorem choiceRank_lt {t : CellTable} {m p q : Nat} (p_ : p < 12) (q_ : q < 12) :
    choiceRank t m p < choiceRank t m q ↔
      (t.cells.getD ((m - 1) * 12 + p) blankCell).voltage < (t.cells.getD ((m - 1) * 12 + q) blankCell).voltage ∨
      ((t.cells.getD ((m - 1) * 12 + q) blankCell).voltage = (t.cells.getD ((m - 1) * 12 + p) blankCell).voltage ∧
        q < p) := by
  unfold choiceRank
  omega

theorem choiceRank_injective {t : CellTable} {m p q : Nat} (p_ : p < 12) (q_ : q < 12)
    (same : choiceRank t m p = choiceRank t m q) : p = q := by
  unfold choiceRank at same
  omega

/-- The candidates of a monitor that a position comes after. -/
def preceding (c : ConfigSet) (t : CellTable) (vmin : Int) (m p : Nat) : List Nat :=
  (List.range 12).filter fun q =>
    candidate c t vmin ((m - 1) * 12 + q) && decide (choiceRank t m p < choiceRank t m q)

theorem mem_preceding {c : ConfigSet} {t : CellTable} {vmin : Int} {m p q : Nat} :
    q ∈ preceding c t vmin m p ↔
      q < 12 ∧ candidate c t vmin ((m - 1) * 12 + q) = true ∧ choiceRank t m p < choiceRank t m q := by
  simp [preceding]

theorem preceding_nodup (c : ConfigSet) (t : CellTable) (vmin : Int) (m p : Nat) :
    (preceding c t vmin m p).Nodup := List.nodup_range.filter _

theorem candidatesBefore_eq {c : ConfigSet} {t : CellTable} {vmin : Int} {m p : Nat} (p_ : p < 12) :
    candidatesBefore c t vmin m p = (preceding c t vmin m p).length := by
  refine congrArg List.length (List.filter_congr fun q mem => ?_)
  rw [Bool.eq_iff_iff]
  simp [choiceRank_lt p_ (List.mem_range.1 mem)]

theorem chosen_iff {c : ConfigSet} {t : CellTable} {vmin : Int} {m p : Nat} (p_ : p < 12) :
    chosen c t vmin m p = true ↔
      candidate c t vmin ((m - 1) * 12 + p) = true ∧ (preceding c t vmin m p).length < 4 := by
  simp [chosen, candidatesBefore_eq p_]

/-- At most four positions are chosen: all the others precede the last of them. -/
theorem chosen_at_most_four (c : ConfigSet) (t : CellTable) (vmin : Int) (m : Nat) :
    ((List.range 12).filter (chosen c t vmin m)).length ≤ 4 := by
  have nodup : ((List.range 12).filter (chosen c t vmin m)).Nodup := List.nodup_range.filter _
  rw [← List.toFinset_card_of_nodup nodup]
  rcases ((List.range 12).filter (chosen c t vmin m)).toFinset.eq_empty_or_nonempty with none_ | some_
  · simp [none_]
  · obtain ⟨last, mem, least⟩ := Finset.exists_min_image _ (choiceRank t m) some_
    have within : ∀ p ∈ ((List.range 12).filter (chosen c t vmin m)).toFinset,
        p < 12 ∧ chosen c t vmin m p = true := fun p at_ => by simpa using at_
    have others : ((List.range 12).filter (chosen c t vmin m)).toFinset.erase last ⊆
        (preceding c t vmin m last).toFinset := by
      intro q at_
      obtain ⟨other, among⟩ := Finset.mem_erase.1 at_
      obtain ⟨q_, chosen_⟩ := within q among
      refine List.mem_toFinset.2 (mem_preceding.2 ⟨q_, ((chosen_iff q_).1 chosen_).1, ?_⟩)
      exact Nat.lt_of_le_of_ne (least q among) fun same =>
        other (choiceRank_injective q_ (within last mem).1 same.symm)
    have few := Finset.card_le_card others
    rw [Finset.card_erase_of_mem mem, List.toFinset_card_of_nodup (preceding_nodup c t vmin m last)] at few
    have bound := ((chosen_iff (within last mem).1).1 (within last mem).2).2
    omega

theorem candidate_iff {c : ConfigSet} {t : CellTable} {vmin : Int} {m p : Nat} (m_ : 1 ≤ m) (p_ : p < 12) :
    candidate c t vmin ((m - 1) * 12 + p) = true ↔
      m ≤ t.shapeMonitors ∧ p < t.shapeCells ∧ (t.cells.getD ((m - 1) * 12 + p) blankCell).state = .known ∧
      vmin + c.balanceWindow ≤ ((t.cells.getD ((m - 1) * 12 + p) blankCell).voltage : Int) ∧
      c.balanceFloor ≤ ((t.cells.getD ((m - 1) * 12 + p) blankCell).voltage : Int) := by
  have monitor : cellMonitor ((m - 1) * 12 + p) = m := by
    unfold cellMonitor
    omega
  have position : cellPosition ((m - 1) * 12 + p) = p := by
    unfold cellPosition
    omega
  simp [candidate, cellConfigured, monitor, position, and_assoc]

/-- The length of a list without repetition is that of every other with its members. -/
theorem length_lt_iff_of_mem_iff {P : Nat → Prop} {l : List Nat} (nodup : l.Nodup) (mem : ∀ q, q ∈ l ↔ P q) {n : Nat} :
    l.length < n ↔ ∃ before : List Nat, before.Nodup ∧ (∀ q, q ∈ before ↔ P q) ∧ before.length < n := by
  refine ⟨fun few => ⟨l, nodup, mem, few⟩, fun ⟨before, distinct, same, few⟩ => ?_⟩
  rwa [((List.perm_ext_iff_of_nodup nodup distinct).2 fun q => (mem q).trans (same q).symm).length_eq]

/-- Settles O48: positions are chosen by rank, and all that are chosen precede the last of them. -/
theorem balanceMaskNamesTheHighestFour : Obligations.BalanceMaskNamesTheHighestFour := by
  intro s m m_
  refine ⟨fun barred => ?empty, ?atMost, fun vmin i may least p p_ => ?named⟩
  case empty =>
    cases balancing : s.balancingVmin with
    | none => rw [State.balanceMask, balancing]
    | some v => exact absurd (State.may_of_balancingVmin balancing) barred
  case atMost =>
    cases balancing : s.balancingVmin with
    | none => simp [State.balanceMask, balancing]
    | some v =>
      rw [State.balanceMask, balancing]
      refine Nat.le_trans (Nat.le_of_eq (congrArg List.length (List.filter_congr fun p mem => ?_)))
        (chosen_at_most_four s.config s.table v m)
      exact maskOf_getLsbD _ (List.mem_range.1 mem)
  case named =>
    obtain ⟨configured, on, quiet, ⟨t, j, tmax, cool⟩, lossless⟩ := may
    have balancing : s.balancingVmin = some vmin := by
      rw [State.balancingVmin_some tmax least, if_pos ⟨configured, on, quiet, cool, lossless⟩]
    rw [State.balanceMask, balancing]
    change (maskOf _).getLsbD p = true ↔ _
    rw [maskOf_getLsbD _ p_, chosen_iff p_]
    refine and_congr ((candidate_iff m_ p_).trans ⟨fun rest => ⟨p_, rest⟩, fun all => all.2⟩)
      (length_lt_iff_of_mem_iff (preceding_nodup _ _ _ _ _) fun q => ?_)
    rw [mem_preceding]
    constructor
    · exact fun ⟨q_, is, first⟩ => ⟨⟨q_, (candidate_iff m_ q_).1 is⟩, (choiceRank_lt p_ q_).1 first⟩
    · exact fun ⟨⟨q_, is⟩, first⟩ => ⟨q_, (candidate_iff m_ q_).2 is, (choiceRank_lt p_ q_).2 first⟩

/-! ### Extremes (R29, R30) -/

/-- A list, read from a first index on, holds a value at an index. -/
def HeldAt (l : List (Option Int)) (first i : Nat) (v : Int) : Prop := first ≤ i ∧ l[i - first]? = some (some v)

/-- No value that is held beats this one, and none that equals it stands at a lower index. -/
def IsBest (beats : Int → Int → Bool) (holds : Nat → Int → Prop) (v : Int) (i : Nat) : Prop :=
  holds i v ∧ ∀ j w, holds j w → ¬ beats w v = true ∧ (w = v → i ≤ j)

theorem not_heldAt_nil (first i : Nat) (v : Int) : ¬ HeldAt [] first i v := fun held => nomatch held.2

theorem heldAt_cons (x : Option Int) (l : List (Option Int)) (first i : Nat) (v : Int) :
    HeldAt (x :: l) first i v ↔ (i = first ∧ x = some v) ∨ HeldAt l (first + 1) i v := by
  unfold HeldAt
  rcases Nat.lt_trichotomy i first with before | rfl | after
  · constructor
    · exact fun held => absurd held.1 (by omega)
    · rintro (⟨rfl, _⟩ | ⟨held, _⟩)
      · exact absurd before (Nat.lt_irrefl _)
      · omega
  · simp
  · obtain ⟨k, rfl⟩ := Nat.exists_eq_add_of_lt after
    have shift : first + k + 1 - first = k + 1 := by omega
    have rest : first + k + 1 - (first + 1) = k := by omega
    rw [shift, rest, List.getElem?_cons_succ]
    constructor
    · exact fun held => .inr ⟨by omega, held.2⟩
    · rintro (⟨same, _⟩ | held)
      · omega
      · exact ⟨by omega, held.2⟩

/-- An order of values by which the extreme is taken: one of two different values beats the other. -/
structure Beating (beats : Int → Int → Bool) : Prop where
  irrefl : ∀ a, ¬ beats a a = true
  trans : ∀ a b c, beats a b = true → beats b c = true → beats a c = true
  total : ∀ a b, ¬ beats a b = true → ¬ beats b a = true → a = b

theorem higher_beating : Beating higher := by
  refine ⟨fun a => ?_, fun a b c => ?_, fun a b => ?_⟩ <;> simp only [higher, decide_eq_true_iff] <;> omega

theorem lower_beating : Beating lower := by
  refine ⟨fun a => ?_, fun a b c => ?_, fun a b => ?_⟩ <;> simp only [lower, decide_eq_true_iff] <;> omega

section
variable {beats : Int → Int → Bool} (order : Beating beats)
include order

theorem IsBest.unique {holds : Nat → Int → Prop} {v w : Int} {i j : Nat} (one : IsBest beats holds v i)
    (other : IsBest beats holds w j) : v = w ∧ i = j := by
  obtain ⟨held, best⟩ := one
  obtain ⟨held', best'⟩ := other
  have same : v = w := order.total v w (best' i v held).1 (best j w held').1
  exact ⟨same, Nat.le_antisymm ((best j w held').2 same.symm) ((best' i v held).2 same)⟩

/-- A first value before the best of the rest: the better of the two is the best, the first one at a tie. -/
theorem IsBest.cons {l : List (Option Int)} {first : Nat} {v w : Int} {j : Nat}
    (best : IsBest beats (HeldAt l (first + 1)) w j) :
    if beats w v = true then IsBest beats (HeldAt (some v :: l) first) w j
    else IsBest beats (HeldAt (some v :: l) first) v first := by
  obtain ⟨held, most⟩ := best
  split
  next beaten =>
    refine ⟨(heldAt_cons _ _ _ _ _).2 (.inr held), fun k u holds => ?_⟩
    rcases (heldAt_cons _ _ _ _ _).1 holds with ⟨rfl, value⟩ | rest
    · obtain rfl := Option.some.inj value
      exact ⟨fun back => order.irrefl w (order.trans w v w beaten back),
        fun same => absurd (same ▸ beaten) (order.irrefl w)⟩
    · exact most k u rest
  next unbeaten =>
    refine ⟨(heldAt_cons _ _ _ _ _).2 (.inl ⟨rfl, rfl⟩), fun k u holds => ?_⟩
    rcases (heldAt_cons _ _ _ _ _).1 holds with ⟨rfl, value⟩ | rest
    · obtain rfl := Option.some.inj value
      exact ⟨order.irrefl v, fun _ => Nat.le_refl k⟩
    · refine ⟨fun beat => unbeaten ?_, fun _ => Nat.le_trans (Nat.le_succ first) rest.1⟩
      by_cases ahead : beats w u = true
      · exact order.trans w u v ahead beat
      · rwa [order.total w u ahead (most k u rest).1]

/-- What the search for the extreme finds (R29, R30). -/
theorem extreme_finds : ∀ (l : List (Option Int)) (first : Nat),
    (extreme beats l first = none ∧ ∀ i v, ¬ HeldAt l first i v) ∨
    ∃ v i, extreme beats l first = some (v, i) ∧ IsBest beats (HeldAt l first) v i
  | [], first => .inl ⟨rfl, fun i v => not_heldAt_nil first i v⟩
  | none :: l, first => by
    have same : HeldAt (none :: l) first = HeldAt l (first + 1) := by
      funext i v
      simp [heldAt_cons]
    rw [same]
    exact extreme_finds l (first + 1)
  | some v :: l, first => by
    right
    rw [extreme]
    rcases extreme_finds l (first + 1) with ⟨none_, unheld⟩ | ⟨w, j, some_, best⟩
    · rw [none_]
      refine ⟨v, first, rfl, (heldAt_cons _ _ _ _ _).2 (.inl ⟨rfl, rfl⟩), fun k u holds => ?_⟩
      rcases (heldAt_cons _ _ _ _ _).1 holds with ⟨rfl, value⟩ | rest
      · obtain rfl := Option.some.inj value
        exact ⟨order.irrefl v, fun _ => Nat.le_refl k⟩
      · exact absurd rest (unheld k u)
    · rw [some_]
      have first_or := IsBest.cons order (v := v) best
      by_cases beaten : beats w v = true
      · exact ⟨w, j, if_pos beaten, (if_pos beaten ▸ first_or :)⟩
      · exact ⟨v, first, if_neg beaten, (if_neg beaten ▸ first_or :)⟩

theorem extreme_eq_none_iff (l : List (Option Int)) (first : Nat) :
    extreme beats l first = none ↔ ∀ i v, ¬ HeldAt l first i v := by
  rcases extreme_finds order l first with ⟨none_, unheld⟩ | ⟨v, i, some_, held, _⟩
  · exact iff_of_true none_ unheld
  · exact iff_of_false (by simp [some_]) fun unheld => unheld i v held

theorem extreme_eq_some_iff (l : List (Option Int)) (first : Nat) (v : Int) (i : Nat) :
    extreme beats l first = some (v, i) ↔ IsBest beats (HeldAt l first) v i := by
  rcases extreme_finds order l first with ⟨none_, unheld⟩ | ⟨w, j, some_, best⟩
  · exact iff_of_false (by simp [none_]) fun best => unheld i v best.1
  · rw [some_]
    constructor
    · intro same
      obtain ⟨rfl, rfl⟩ := Prod.mk.inj (Option.some.inj same)
      exact best
    · intro other
      obtain ⟨rfl, rfl⟩ := IsBest.unique order best other
      rfl

end

/-! ### The records of a snapshot (R24 to R28) -/

theorem ItemState.usable_iff (x : ItemState) : x.usable = true ↔ x = .known ∨ x = .stale := by
  cases x <;> simp [ItemState.usable]

theorem ItemState.unusable_iff (x : ItemState) : x.usable = false ↔ x = .openSensor ∨ x = .unknown := by
  cases x <;> simp [ItemState.usable]

theorem heldAt_map {α : Type} (l : List α) (f : α → Option Int) (i : Nat) (v : Int) :
    HeldAt (l.map f) 0 i v ↔ ∃ r, l[i]? = some r ∧ f r = some v := by
  simp [HeldAt, List.getElem?_map, Option.map_eq_some_iff]

theorem usableVoltage_held (cells : List CellRecord) (i : Nat) (v : Int) :
    HeldAt (cells.map usableVoltage) 0 i v ↔
      ∃ r, cells[i]? = some r ∧ (r.state = .known ∨ r.state = .stale) ∧ v = r.voltage := by
  simp [heldAt_map, usableVoltage, ItemState.usable_iff, eq_comm (a := v)]

theorem usableTemperature_held (points : List PointRecord) (i : Nat) (v : Int) :
    HeldAt (points.map usableTemperature) 0 i v ↔
      ∃ r, points[i]? = some r ∧ (r.state = .known ∨ r.state = .stale) ∧ v = r.temperature := by
  simp [heldAt_map, usableTemperature, ItemState.usable_iff, eq_comm (a := v)]

theorem sum_usable_voltages (cells : List CellRecord) :
    (cells.map fun c => if c.state.usable then c.voltage else 0).sum =
      ((cells.filter fun r => decide (r.state = .known ∨ r.state = .stale)).map CellRecord.voltage).sum := by
  induction cells with
  | nil => rfl
  | cons c rest ih =>
    rw [List.map_cons, List.sum_cons, ih, List.filter_cons]
    by_cases usable : c.state = .known ∨ c.state = .stale
    · rw [if_pos ((ItemState.usable_iff _).2 usable), if_pos (by simpa using usable), List.map_cons, List.sum_cons]
    · rw [if_neg (mt (ItemState.usable_iff _).1 usable), if_neg (by simpa using usable), Nat.zero_add]

theorem cellConfigured_iff (monitors cells i : Nat) :
    cellConfigured monitors cells i = true ↔ i / 12 + 1 ≤ monitors ∧ i % 12 < cells := by
  rw [cellConfigured, Bool.and_eq_true, decide_eq_true_iff, decide_eq_true_iff]
  rfl

theorem pointConfigured_iff (monitors i : Nat) : pointConfigured monitors i = true ↔ i / 4 + 1 ≤ monitors := by
  simp [pointConfigured, pointMonitor]

theorem countCells_eq (monitors cells : Nat) (records : List CellRecord) (length : records.length = 384)
    (x : ItemState) :
    countCells monitors cells records x =
      ((List.range 384).filter fun i =>
        decide (i / 12 + 1 ≤ monitors ∧ i % 12 < cells ∧ (records[i]?).map CellRecord.state = some x)).length := by
  refine congrArg List.length (List.filter_congr fun i mem => ?_)
  have within : i < records.length := length ▸ List.mem_range.1 mem
  rw [Bool.eq_iff_iff]
  simp only [Bool.and_eq_true, cellConfigured_iff, List.getD_eq_getElem _ _ within,
    List.getElem?_eq_getElem within, Option.map_some, Option.some.injEq, decide_eq_true_iff, and_assoc]

theorem bufferMask_getLsbD (buffer : List (Option BufferEntry)) (m p : Nat) :
    (bufferMask buffer m).getLsbD p =
      match buffer.getD m none with
      | some e => e.mask.getLsbD p
      | none => false := by
  unfold bufferMask
  cases buffer.getD m none with
  | none => simp
  | some e => rfl

theorem newCell_unconfigured {states : List MonitorState} {buffer : List (Option BufferEntry)} {monitors cells i : Nat}
    {old : CellRecord} (outside : monitors < i / 12 + 1 ∨ cells ≤ i % 12) :
    newCell states buffer monitors cells old i = ⟨0, .unknown, false, false⟩ := by
  refine if_neg ?_
  rw [cellConfigured_iff]
  omega

section
variable {states : List MonitorState} {buffer : List (Option BufferEntry)} {monitors cells i : Nat} {old : CellRecord}
  (monitor : i / 12 + 1 ≤ monitors) (position : i % 12 < cells)
include monitor position

theorem newCell_present (present : states.getD (i / 12 + 1) .unconfigured = .present) :
    newCell states buffer monitors cells old i =
      ⟨(storedVoltage (bufferCode buffer (i / 12 + 1) (i % 12))).1, .known,
        (storedVoltage (bufferCode buffer (i / 12 + 1) (i % 12))).2,
        (bufferMask buffer (i / 12 + 1)).getLsbD (i % 12)⟩ := by
  simp only [newCell, (cellConfigured_iff _ _ _).2 ⟨monitor, position⟩, if_true, monitorStateAt, cellMonitor,
    cellPosition, present]

theorem newCell_missing (missing : states.getD (i / 12 + 1) .unconfigured = .missing) :
    newCell states buffer monitors cells old i =
      ⟨old.voltage, .stale, old.saturated, (bufferMask buffer (i / 12 + 1)).getLsbD (i % 12)⟩ := by
  simp only [newCell, (cellConfigured_iff _ _ _).2 ⟨monitor, position⟩, if_true, monitorStateAt, cellMonitor,
    cellPosition, missing]

theorem newCell_absent (absent : states.getD (i / 12 + 1) .unconfigured = .absent) :
    newCell states buffer monitors cells old i =
      ⟨0, .unknown, false, (bufferMask buffer (i / 12 + 1)).getLsbD (i % 12)⟩ := by
  simp only [newCell, (cellConfigured_iff _ _ _).2 ⟨monitor, position⟩, if_true, monitorStateAt, cellMonitor,
    cellPosition, absent]

end

theorem newPoint_unconfigured {states : List MonitorState} {buffer : List (Option BufferEntry)} {monitors i : Nat}
    {old : PointRecord} (outside : monitors < i / 4 + 1) :
    newPoint states buffer monitors old i = ⟨0, .unknown, false⟩ := by
  refine if_neg ?_
  rw [pointConfigured_iff]
  omega

section
variable {states : List MonitorState} {buffer : List (Option BufferEntry)} {monitors i : Nat} {old : PointRecord}
  (monitor : i / 4 + 1 ≤ monitors)
include monitor

theorem newPoint_present (present : states.getD (i / 4 + 1) .unconfigured = .present) :
    newPoint states buffer monitors old i = storedPoint (bufferTemperature buffer (i / 4 + 1) (i % 4)) := by
  rw [newPoint, if_pos ((pointConfigured_iff _ _).2 monitor), monitorStateAt, pointMonitor, present]
  rfl

theorem newPoint_missing (missing : states.getD (i / 4 + 1) .unconfigured = .missing) :
    newPoint states buffer monitors old i =
      if old.state = .openSensor then old else { old with state := .stale } := by
  rw [newPoint, if_pos ((pointConfigured_iff _ _).2 monitor), monitorStateAt, pointMonitor, missing]

theorem newPoint_absent (absent : states.getD (i / 4 + 1) .unconfigured = .absent) :
    newPoint states buffer monitors old i = ⟨0, .unknown, false⟩ := by
  rw [newPoint, if_pos ((pointConfigured_iff _ _).2 monitor), monitorStateAt, pointMonitor, absent]
  rfl

end

section
variable {states : List MonitorState} {buffer : List (Option BufferEntry)} {old : StringReadings}

theorem newString_present (present : states.getD 0 .unconfigured = .present) {current : Int} {dcLink : Nat}
    {mask : Mask}
    (entry : buffer.getD 0 none = some ⟨.good (.stringMonitor current dcLink), mask⟩) :
    newString states buffer old = ⟨max (-2000) (min 2000 current), min dcLink 20000, .known⟩ := by
  rw [newString, monitorStateAt, present, bufferValues, entry]
  rfl

theorem newString_missing (missing : states.getD 0 .unconfigured = .missing) :
    newString states buffer old = ⟨old.current, old.dcLink, .stale⟩ := by
  rw [newString, monitorStateAt, missing]

theorem newString_absent (absent : states.getD 0 .unconfigured = .absent) :
    newString states buffer old = ⟨0, 0, .unknown⟩ := by
  rw [newString, monitorStateAt, absent]

end

theorem storedVoltage_eq (code : Nat) : storedVoltage code = (min 5000 code, decide (5000 < code)) := by
  unfold storedVoltage
  split
  next within => simp [within]
  next above => simp [Nat.lt_of_not_le above, Nat.le_of_lt (Nat.lt_of_not_le above)]

theorem bufferCode_good {buffer : List (Option BufferEntry)} {m p code : Nat} {codes temperatures : List Nat}
    {mask : Mask} (entry : buffer.getD m none = some ⟨.good (.cellMonitor codes temperatures), mask⟩)
    (at_ : codes[p]? = some code) : bufferCode buffer m p = code := by
  simp only [bufferCode, bufferValues, entry, List.getD_eq_getElem?_getD, at_, Option.getD_some]

theorem bufferTemperature_good {buffer : List (Option BufferEntry)} {m p x : Nat} {codes temperatures : List Nat}
    {mask : Mask} (entry : buffer.getD m none = some ⟨.good (.cellMonitor codes temperatures), mask⟩)
    (at_ : temperatures[p]? = some x) : bufferTemperature buffer m p = x := by
  simp only [bufferTemperature, bufferValues, entry, List.getD_eq_getElem?_getD, at_, Option.getD_some]

theorem getElem?_map_range {α : Type} {n i : Nat} (within : i < n) (f : Nat → α) :
    ((List.range n).map f)[i]? = some (f i) := by
  rw [List.getElem?_map, List.getElem?_range within, Option.map_some]

theorem absentMonitorIn_iff (states : List MonitorState) (monitors : Nat) :
    absentMonitorIn states monitors = true ↔ ∃ a ≤ monitors, states.getD a .unconfigured = .absent := by
  simp only [absentMonitorIn, List.any_eq_true, List.mem_range, Nat.lt_succ_iff, decide_eq_true_iff]
  rfl

theorem noTemperatureIn_iff (monitors : Nat) (points : List PointRecord) (length : points.length = 128) :
    noTemperatureIn monitors points = true ↔
      ∀ i < 128, i / 4 + 1 ≤ monitors → ∀ r, points[i]? = some r → r.state = .openSensor ∨ r.state = .unknown := by
  simp only [noTemperatureIn, List.all_eq_true, List.mem_range, Bool.or_eq_true, Bool.not_eq_true']
  refine forall₂_congr fun i within => ?_
  have here : points[i]? = some (points.getD i blankPoint) := by
    rw [List.getD_eq_getElem _ _ (length ▸ within), List.getElem?_eq_getElem]
  rw [here, ItemState.unusable_iff, ← Bool.not_eq_true, pointConfigured_iff, ← imp_iff_not_or]
  exact imp_congr_right fun _ => ⟨fun unusable r same => Option.some.inj same ▸ unusable, fun all => all _ rfl⟩

section
variable (t : CellTable) (c : ConfigSet) (sweep : Serial) (records : List MonitorRecord)
  (buffer : List (Option BufferEntry))

theorem takeSnapshot_cell {i : Nat} (within : i < 384) :
    (t.takeSnapshot c sweep records buffer).cells[i]? =
      some (newCell (records.map MonitorRecord.state) buffer c.monitorCount c.cellsPerMonitor
        (t.cells.getD i blankCell) i) :=
  getElem?_map_range within fun i => newCell (records.map MonitorRecord.state) buffer c.monitorCount c.cellsPerMonitor
    (t.cells.getD i blankCell) i

theorem takeSnapshot_point {i : Nat} (within : i < 128) :
    (t.takeSnapshot c sweep records buffer).points[i]? =
      some (newPoint (records.map MonitorRecord.state) buffer c.monitorCount (t.points.getD i blankPoint) i) :=
  getElem?_map_range within fun i =>
    newPoint (records.map MonitorRecord.state) buffer c.monitorCount (t.points.getD i blankPoint) i

end

/-- An extreme of a list's values, by what the list holds. -/
theorem extreme_of_held {beats : Int → Int → Bool} (order : Beating beats) {l : List (Option Int)}
    {holds : Nat → Int → Prop} (held : ∀ i v, HeldAt l 0 i v ↔ holds i v) {better : Int → Int → Prop}
    (beating : ∀ a b, beats a b = true ↔ better a b) :
    (extreme beats l 0 = none ↔ ∀ i v, ¬ holds i v) ∧
    ∀ v i, extreme beats l 0 = some (v, i) ↔
      holds i v ∧ ∀ j w, holds j w → ¬ better w v ∧ (w = v → i ≤ j) := by
  obtain rfl : HeldAt l 0 = holds := funext fun i => funext fun v => propext (held i v)
  obtain rfl : (fun a b => beats a b = true) = better := funext fun a => funext fun b => propext (beating a b)
  exact ⟨extreme_eq_none_iff order l 0, extreme_eq_some_iff order l 0⟩

theorem higher_iff (a b : Int) : higher a b = true ↔ b < a := decide_eq_true_iff

theorem lower_iff (a b : Int) : lower a b = true ↔ a < b := decide_eq_true_iff

/-- Settles O47, item by item and aggregate by aggregate. -/
theorem snapshotTakesTheSweep : Obligations.SnapshotTakesTheSweep := by
  intro t c sweep records buffer
  refine ⟨rfl, rfl, rfl, rfl, rfl, rfl, fun i within => ?cells, fun i within => ?points,
    fun current dcLink mask present entry => newString_present present entry, newString_missing, newString_absent,
    ?high, ?low, ?hot, ?vmax, ?vmin, ?tmax, ?tmin, sum_usable_voltages _, countCells_eq _ _ _ (by simp) _,
    countCells_eq _ _ _ (by simp) _, countCells_eq _ _ _ (by simp) _, absentMonitorIn_iff _ _,
    noTemperatureIn_iff _ _ (by simp)⟩
  case cells =>
    refine ⟨fun outside => (takeSnapshot_cell t c sweep records buffer within).trans
        (congrArg some (newCell_unconfigured outside)), fun monitor position => ?_⟩
    have cell := takeSnapshot_cell t c sweep records buffer within
    have bleeding := bufferMask_getLsbD buffer (i / 12 + 1) (i % 12)
    refine ⟨fun codes temperatures mask code present entry at_ => cell.trans (congrArg some ?_),
      fun missing => cell.trans (congrArg some
        ((newCell_missing monitor position missing).trans (congrArg (CellRecord.mk _ _ _) bleeding))),
      fun absent => cell.trans (congrArg some
        ((newCell_absent monitor position absent).trans (congrArg (CellRecord.mk _ _ _) bleeding)))⟩
    refine (newCell_present monitor position present).trans ?_
    rw [bufferCode_good entry at_, storedVoltage_eq]
    exact congrArg (CellRecord.mk _ _ _) bleeding
  case points =>
    refine ⟨fun outside => (takeSnapshot_point t c sweep records buffer within).trans
        (congrArg some (newPoint_unconfigured outside)), fun monitor => ?_⟩
    have point := takeSnapshot_point t c sweep records buffer within
    refine ⟨fun codes temperatures mask x present entry at_ => point.trans (congrArg some ?_),
      fun missing closed => point.trans (congrArg some ((newPoint_missing monitor missing).trans (if_neg closed))),
      fun missing open_ => point.trans (congrArg some ((newPoint_missing monitor missing).trans (if_pos open_))),
      fun absent => point.trans (congrArg some (newPoint_absent monitor absent))⟩
    exact (newPoint_present monitor present).trans (congrArg storedPoint (bufferTemperature_good entry at_))
  case high | low | hot =>
    simp only [CellTable.takeSnapshot, hardLimitsOf, List.any_eq_true, Bool.and_eq_true, decide_eq_true_iff]
  case vmax => exact extreme_of_held higher_beating (usableVoltage_held _) higher_iff
  case vmin => exact extreme_of_held lower_beating (usableVoltage_held _) lower_iff
  case tmax => exact extreme_of_held higher_beating (usableTemperature_held _) higher_iff
  case tmin => exact extreme_of_held lower_beating (usableTemperature_held _) lower_iff

end Sys2Proof.Machine
end

section
/-! The evaluation of the watch table and the end of an exchange (R9 to R14, R18, R44, R85 to R91). -/

namespace Sys2Proof.Machine

/-! ### The condition of a slot (R85, R86) -/

theorem usableVoltage_eq_some (c : CellRecord) (v : Int) :
    usableVoltage c = some v ↔ (c.state = .known ∨ c.state = .stale) ∧ v = c.voltage := by
  simp [usableVoltage, ItemState.usable_iff, eq_comm (a := v)]

theorem usableTemperature_eq_some (p : PointRecord) (v : Int) :
    usableTemperature p = some v ↔ (p.state = .known ∨ p.state = .stale) ∧ v = p.temperature := by
  simp [usableTemperature, ItemState.usable_iff, eq_comm (a := v)]

/-- A list read with a default that has no value: the value is that of the item that stands there. -/
theorem getD_eq_some_iff {α : Type} {l : List α} {i : Nat} {default : α} {f : α → Option Int} {v : Int}
    (unusable : f default = none) : f (l.getD i default) = some v ↔ ∃ r, l[i]? = some r ∧ f r = some v := by
  rw [List.getD_eq_getElem?_getD]
  cases l[i]? with
  | none => simp [unusable]
  | some r => simp

theorem inService_iff (k : DetectorKind) (d : Detector) :
    inService k d = true ↔ k ≠ .none ∧ (d.state = .normal ∨ d.state = .pre ∨ d.state = .alarm) := by
  cases state : d.state <;> simp [inService, state]

theorem State.watchValue_iff (s : State) (q : Quantity) (i : Nat) (v : Int) :
    s.watchValue q i = some v ↔ ItemUsableAt s q i v := by
  cases q with
  | cellV =>
    refine (getD_eq_some_iff (f := usableVoltage) rfl).trans ?_
    simp only [usableVoltage_eq_some, ItemUsableAt]
  | cellT =>
    refine (getD_eq_some_iff (f := usableTemperature) rfl).trans ?_
    simp only [usableTemperature_eq_some, ItemUsableAt]
  | stringI => simp [State.watchValue, ItemUsableAt, ItemState.usable_iff, eq_comm (a := v)]
  | dcLinkV => simp [State.watchValue, ItemUsableAt, ItemState.usable_iff, eq_comm (a := v)]
  | detector => simp [State.watchValue, ItemUsableAt, inService_iff, and_assoc, eq_comm (a := v)]

theorem itemSatisfies_iff (s : State) (w : WatchSpec) (i : Nat) :
    ItemSatisfies s w i ↔ w.first ≤ i ∧ i ≤ w.last ∧ s.itemSatisfies w i = true := by
  refine and_congr_right fun _ => and_congr_right fun _ => ?_
  simp only [← State.watchValue_iff, State.itemSatisfies]
  cases s.watchValue w.quantity i with
  | none => simp
  | some v => cases w.comparison <;> simp [Comparison.satisfied]

/-- The lowest index of the range that satisfies the comparison (R88). -/
theorem State.firstHit_eq_some_iff (s : State) (w : WatchSpec) (i : Nat) :
    s.firstHit w = some i ↔ ItemSatisfies s w i ∧ ∀ j < i, ¬ ItemSatisfies s w j := by
  simp only [State.firstHit, List.find?_map, Option.map_eq_some_iff, List.find?_range_eq_some, itemSatisfies_iff,
    Function.comp, List.mem_range]
  constructor
  · rintro ⟨k, ⟨hit, within, first⟩, rfl⟩
    refine ⟨⟨by omega, by omega, hit⟩, fun j below ⟨low, _, other⟩ => ?_⟩
    have unhit := first (j - w.first) (by omega)
    rw [Nat.add_sub_cancel' low, other] at unhit
    exact nomatch unhit
  · rintro ⟨⟨low, high, hit⟩, first⟩
    refine ⟨i - w.first, ⟨by rwa [Nat.add_sub_cancel' low], by omega, fun j below => ?_⟩, Nat.add_sub_cancel' low⟩
    rw [Bool.not_eq_true', Bool.eq_false_iff]
    exact fun other => first (w.first + j) (by omega) ⟨by omega, by omega, other⟩

theorem State.firstHit_isSome_iff (s : State) (w : WatchSpec) :
    (s.firstHit w).isSome = true ↔ ∃ i, ItemSatisfies s w i := by
  constructor
  · intro some_
    obtain ⟨i, hit⟩ := Option.isSome_iff_exists.1 some_
    exact ⟨i, ((s.firstHit_eq_some_iff w i).1 hit).1⟩
  · rintro ⟨i, satisfies⟩
    rw [itemSatisfies_iff] at satisfies
    obtain ⟨low, high, hit⟩ := satisfies
    rw [State.firstHit, List.find?_isSome]
    exact ⟨i, List.mem_map.2 ⟨i - w.first, List.mem_range.2 (by omega), by omega⟩, hit⟩

theorem State.ownCondition_iff (s : State) (k : Nat) :
    s.ownCondition k = true ↔ ∃ c, s.claim k = some c ∧ ∃ i, ItemSatisfies s c.spec i := by
  unfold State.ownCondition
  cases s.claim k with
  | none => simp
  | some c => simp [State.firstHit_isSome_iff]

theorem chainFlag_claim {s : State} {k : Nat} {c : Claim} (claimed : s.claim k = some c) :
    chainFlag s.slots k = c.spec.chain := by
  rw [chainFlag, show s.slots.getD k none = some c from claimed]

theorem State.effectiveCondition_iff {s : State} {k : Nat} {c : Claim} (claimed : s.claim k = some c) :
    s.effectiveCondition k = true ↔ EffectiveCondition s k c := by
  rw [State.effectiveCondition, Bool.and_eq_true, State.ownCondition_iff, chainFlag_claim claimed, Bool.or_eq_true,
    State.ownCondition_iff, claimed]
  refine and_congr (by simp) ?_
  cases c.spec.chain <;> simp

theorem State.acts_iff (s : State) (k : Nat) :
    s.acts k = true ↔ (∃ c, s.claim k = some c) ∧ ¬ ChainedFromAbove s k := by
  rw [State.acts, Bool.and_eq_true, Option.isSome_iff_exists, Bool.not_eq_true', Bool.eq_false_iff, ne_eq,
    chainedFromAbove_claim]
  rfl

theorem State.curtails_iff (s : State) (k : Nat) :
    s.curtails k = true ↔ ¬ ChainedFromAbove s k ∧ ∃ c, s.claim k = some c ∧ c.spec.action = .curtail := by
  rw [State.curtails, Bool.and_eq_true, State.acts_iff]
  cases s.claim k <;> simp

/-! ### An evaluation, slot by slot (R87 to R89) -/

section
variable {s : State} (length : s.slots.length = 8) {now curtails : Nat → Bool}
  (conditions : ∀ k c, s.claim k = some c → (now k = true ↔ EffectiveCondition s k c))
  (acting : ∀ k, curtails k = true ↔ ¬ ChainedFromAbove s k ∧ ∃ c, s.claim k = some c ∧ c.spec.action = .curtail)

include conditions in
theorem effectiveCondition_eq {k : Nat} {c : Claim} (claimed : s.claim k = some c) :
    s.effectiveCondition k = now k :=
  Bool.eq_iff_iff.2 ((State.effectiveCondition_iff claimed).trans (conditions k c claimed).symm)

include acting in
theorem curtails_eq (k : Nat) : s.curtails k = curtails k :=
  Bool.eq_iff_iff.2 ((s.curtails_iff k).trans (acting k).symm)

include acting in
theorem claimed_of_curtails {k : Nat} (curtail : curtails k = true) : ∃ c, s.claim k = some c := by
  obtain ⟨-, c, claimed, -⟩ := (acting k).1 curtail
  exact ⟨c, claimed⟩

include conditions in
/-- What an acting NOTIFY slot raises (R88). -/
theorem mem_notifyEvents_of_claim {k : Nat} {c : Claim} (claimed : s.claim k = some c) (r : Raised) :
    r ∈ s.notifyEvents k ↔
      ¬ ChainedFromAbove s k ∧
        ((now k = true ∧ c.condition = false ∧ (c.spec.action = .notifyRise ∨ c.spec.action = .notifyBoth) ∧
            ∃ i, ItemSatisfies s c.spec i ∧ (∀ j < i, ¬ ItemSatisfies s c.spec j) ∧
              r = directed c.owner (.watchHit k i)) ∨
          (now k = false ∧ c.condition = true ∧ c.spec.action = .notifyBoth ∧
            r = directed c.owner (.watchCleared k))) := by
  have hit : now k = true → ∃ i, s.firstHit c.spec = some i := fun is =>
    Option.isSome_iff_exists.1 ((s.firstHit_isSome_iff _).2 ((conditions k c claimed).1 is).1)
  have first : now k = true → ((∃ i, ItemSatisfies s c.spec i ∧ (∀ j < i, ¬ ItemSatisfies s c.spec j) ∧
      r = directed c.owner (.watchHit k i)) ↔
      r = directed c.owner (.watchHit k ((s.firstHit c.spec).getD 0))) := by
    intro is
    obtain ⟨i, found⟩ := hit is
    simp only [← and_assoc, ← s.firstHit_eq_some_iff, found, Option.some.injEq, Option.getD_some,
      exists_eq_left']
  simp only [State.notifyEvents, claimed, effectiveCondition_eq conditions claimed]
  by_cases acts : s.acts k = true
  · have unchained := ((s.acts_iff k).1 acts).2
    cases is : now k with
    | true => cases action : c.spec.action <;> simp [acts, unchained, first is]
    | false => cases action : c.spec.action <;> simp [acts, unchained]
  · have chained : ChainedFromAbove s k :=
      not_not.1 fun unchained => acts ((s.acts_iff k).2 ⟨⟨c, claimed⟩, unchained⟩)
    simp [acts, chained]

include length conditions in
theorem mem_notifyEvents (r : Raised) :
    r ∈ (List.range 8).flatMap s.notifyEvents ↔
      ∃ k c, s.claim k = some c ∧ ¬ ChainedFromAbove s k ∧
        ((now k = true ∧ c.condition = false ∧ (c.spec.action = .notifyRise ∨ c.spec.action = .notifyBoth) ∧
            ∃ i, ItemSatisfies s c.spec i ∧ (∀ j < i, ¬ ItemSatisfies s c.spec j) ∧
              r = directed c.owner (.watchHit k i)) ∨
          (now k = false ∧ c.condition = true ∧ c.spec.action = .notifyBoth ∧
            r = directed c.owner (.watchCleared k))) := by
  rw [List.mem_flatMap]
  refine ⟨fun ⟨k, _, mem⟩ => ⟨k, ?_⟩, fun ⟨k, c, claimed, rest⟩ =>
    ⟨k, List.mem_range.2 (length ▸ inside_of_claimed claimed), ?_⟩⟩
  · cases claimed : s.claim k with
    | none => simp [State.notifyEvents, claimed] at mem
    | some c => exact ⟨c, rfl, (mem_notifyEvents_of_claim conditions claimed r).1 mem⟩
  · exact (mem_notifyEvents_of_claim conditions claimed r).2 rest

include conditions acting

theorem evaluatedSlot_eq (k : Nat) :
    s.evaluatedSlot k = (s.claim k).map fun c =>
      if curtails k = true ∧ now k = false then { c with condition := false, entry := none, starved := false }
      else { c with condition := now k } := by
  unfold State.evaluatedSlot
  cases claimed : s.claim k with
  | none => rfl
  | some c =>
    simp only [effectiveCondition_eq conditions claimed, curtails_eq acting, Bool.and_eq_true, Bool.not_eq_true',
      Option.map_some]
    split <;> rfl

theorem drops_iff (k : Nat) : s.drops k = true ↔ curtails k = true ∧ now k = false := by
  rw [State.drops, Bool.and_eq_true, curtails_eq acting, Bool.not_eq_true']
  refine and_congr_right fun curtail => ?_
  obtain ⟨c, claimed⟩ := claimed_of_curtails acting curtail
  rw [effectiveCondition_eq conditions claimed]

theorem pushers_eq :
    s.pushers = (List.range 8).filter fun k =>
      decide (curtails k = true ∧ now k = true ∧ (s.claim k).bind Claim.entry = none) := by
  refine List.filter_congr fun k _ => ?_
  rw [Bool.eq_iff_iff, Bool.and_eq_true, Bool.and_eq_true, curtails_eq acting, decide_eq_true_iff, and_assoc,
    slotEntry_eq_bind]
  refine and_congr_right fun curtail => ?_
  obtain ⟨c, claimed⟩ := claimed_of_curtails acting curtail
  rw [effectiveCondition_eq conditions claimed, Option.isNone_iff_eq_none]
  rfl

include length

theorem removedHandles_filter (e : Entry) :
    (!(s.removedHandles.contains e.handle)) = (List.range 8).all fun k =>
      decide ¬ (curtails k = true ∧ now k = false ∧ (s.claim k).bind Claim.entry = some e.handle) := by
  rw [Bool.eq_iff_iff, Bool.not_eq_true', Bool.eq_false_iff, ne_eq, List.contains_iff_mem,
    State.mem_removedHandles length, List.all_eq_true]
  constructor
  · intro kept k _
    rw [decide_eq_true_iff]
    rintro ⟨curtail, over_, held⟩
    exact kept ⟨k, (drops_iff conditions acting k).2 ⟨curtail, over_⟩, (slotEntry_eq_bind _ _).trans held⟩
  · rintro kept ⟨k, drops, held⟩
    obtain ⟨c, claimed, -⟩ := (slotEntry_iff _ _ _).1 held
    obtain ⟨curtail, over_⟩ := (drops_iff conditions acting k).1 drops
    exact of_decide_eq_true (kept k (List.mem_range.2 (length ▸ inside_of_claimed claimed)))
      ⟨curtail, over_, (slotEntry_eq_bind _ _).symm.trans held⟩

/-- The slots and the stack before the pushes. -/
theorem evaluated_eq :
    s.evaluated =
      { s with
        slots := (List.range 8).map fun k => (s.claim k).map fun c =>
          if curtails k = true ∧ now k = false then { c with condition := false, entry := none, starved := false }
          else { c with condition := now k },
        stack := { s.stack with
          entries := s.stack.entries.filter fun e => (List.range 8).all fun k =>
            decide ¬ (curtails k = true ∧ now k = false ∧ (s.claim k).bind Claim.entry = some e.handle) } } := by
  have slots : s.evaluatedSlot = fun k => (s.claim k).map fun c =>
      if curtails k = true ∧ now k = false then { c with condition := false, entry := none, starved := false }
      else { c with condition := now k } := funext (evaluatedSlot_eq conditions acting)
  rw [State.evaluated, slots, funext (removedHandles_filter length conditions acting)]

end

/-! ### One slot's push (R73, R89 to R91) -/

/-- A push of a claimed slot, once the stack has answered. -/
theorem State.pushSlot_of_claim {s : State} {k : Nat} {c : Claim} (claimed : s.claim k = some c) :
    s.pushSlot k =
      match s.stack.push s.slots c.owner
        ⟨.slot k, .watch, c.spec.chargeCap.map fun x => min x s.config.ratedCurrent,
          c.spec.dischargeCap.map fun x => min x s.config.ratedCurrent, none⟩ with
      | .pushed st h displaced =>
        ⟨{ (s.afterPush st h displaced).st with
            slots := holdEntry (s.afterPush st h displaced).st.slots k h }, (s.afterPush st h displaced).raised⟩
      | .full =>
        ⟨{ s with slots := s.slots.set k (some { c with starved := true }) },
          if c.starved then [] else [directed c.owner (.watchStarved k)]⟩ := by
  rw [State.pushSlot, claimed]
  rfl

theorem holdEntry_of_claim {slots : List (Option Claim)} {k h : Nat} {c : Claim}
    (claimed : slots.getD k none = some c) :
    holdEntry slots k h = slots.set k (some { c with entry := some h, starved := false }) := by
  rw [holdEntry, claimed]

theorem getD_set_ne {α : Type} {l : List α} {j k : Nat} (other : j ≠ k) (x default : α) :
    (l.set j x).getD k default = l.getD k default := by
  rw [List.getD_eq_getElem?_getD, List.getElem?_set_ne other, List.getD_eq_getElem?_getD]

section
variable {s : State} {k : Nat} {c : Claim} (claimed : s.claim k = some c)
include claimed

theorem pushSlot_room (room : s.stack.entries.length < 8) :
    s.pushSlot k =
      ⟨{ s with
          stack := s.stack.add
            ⟨.slot k, .watch, c.spec.chargeCap.map fun x => min x s.config.ratedCurrent,
              c.spec.dischargeCap.map fun x => min x s.config.ratedCurrent, none⟩,
          slots := s.slots.set k (some { c with entry := some s.stack.freeHandle, starved := false }) }, []⟩ := by
  rw [State.pushSlot_of_claim claimed, StackState.push_of_room room]
  exact congrArg (fun slots => (⟨{ s with stack := s.stack.add _, slots := slots }, []⟩ : Change))
    (holdEntry_of_claim claimed)

theorem pushSlot_refused (full : 8 ≤ s.stack.entries.length)
    (kept : c.owner ≠ .util ∨ ∀ e ∈ s.stack.entries, utilityOwned s.slots e = true) :
    s.pushSlot k =
      ⟨{ s with slots := s.slots.set k (some { c with starved := true }) },
        if c.starved = true then [] else [directed c.owner (.watchStarved k)]⟩ := by
  rw [State.pushSlot_of_claim claimed, StackState.push_full full _ (kept.imp_right displaceable_none)]

/-- The utility's push at a full stack: what follows the displacement, with the slot holding its entry. -/
theorem pushSlot_displaces (full : 8 ≤ s.stack.entries.length) (util : c.owner = .util)
    (distinct : (s.stack.entries.map Entry.handle).Nodup) {below above : List Entry} {e : Entry}
    (split : s.stack.entries = below ++ e :: above) (utilities : ∀ x ∈ below, utilityOwned s.slots x = true)
    (other : utilityOwned s.slots e = false) {after : Change}
    (displaced : s.afterPush (({ s.stack with entries := below ++ above } : StackState).add
        ⟨.slot k, .watch, c.spec.chargeCap.map fun x => min x s.config.ratedCurrent,
          c.spec.dischargeCap.map fun x => min x s.config.ratedCurrent, none⟩)
      ({ s.stack with entries := below ++ above } : StackState).freeHandle (some e) = after) :
    s.pushSlot k =
      ⟨{ after.st with
          slots := holdEntry after.st.slots k ({ s.stack with entries := below ++ above } : StackState).freeHandle },
        after.raised⟩ := by
  have found : displaceable s.slots s.stack.entries = some e := by
    rw [split]
    exact displaceable_some utilities other
  rw [State.pushSlot_of_claim claimed, util, StackState.push_displaces full found,
    s.stack.remove_eq_of_split below above e distinct split]
  simp only [displaced]

end

end Sys2Proof.Machine
end

section
/-! The end of an exchange, and the completion of a sweep with all its blocks (R9 to R14, R18, R22, R44). -/

namespace Sys2Proof.Machine

/-! ### The chain controller at a completion (R12, R14) -/

/-- The chain IDLE after a sweep, with its records and its number (R12, R14). -/
def ChainState.swept (c : ChainState) (count : Nat) : ChainState :=
  { c with
    sweepNumber := c.sweepNumber + 1, records := updateRecords c.records count (c.sweepNumber + 1) c.buffer,
    activity := .idle, link := .rest, exchange := none, divisor := c.deferredDivisor.getD c.divisor,
    deferredDivisor := none }

theorem State.takeSweep_chain (s : State) :
    s.takeSweep.st.chain =
      if s.chain.mode = .single then
        { s.chain.swept s.config.monitorCount with
          mode := .stopped, periodTimer := .stopped, due := false, bleedOffRequest := false,
          activity := .clearing, link := .frameDue }
      else s.chain.swept s.config.monitorCount := by
  have swept : ({ s.chain with
      sweepNumber := s.chain.sweepNumber + 1,
      records := updateRecords s.chain.records s.config.monitorCount (s.chain.sweepNumber + 1) s.chain.buffer } :
        ChainState).becomeIdle = s.chain.swept s.config.monitorCount := by
    rw [ChainState.becomeIdle, ChainState.applyDivisor_eq]
    rfl
  change (if ChainState.mode (ChainState.becomeIdle _) = .single then _ else _) = _
  rw [swept]
  by_cases single : s.chain.mode = .single
  · have running : (s.chain.swept s.config.monitorCount).mode ≠ .stopped := by simp [ChainState.swept, single]
    rw [if_pos single, if_pos (show (s.chain.swept s.config.monitorCount).mode = .single from single),
      ChainState.stopMode_eq running (by simp [ChainState.swept])]
    exact ChainState.serveBleedOff_idle rfl rfl
  · rw [if_neg single, if_neg (show (s.chain.swept s.config.monitorCount).mode ≠ .single from single)]

theorem updateRecords_get (records : List MonitorRecord) (count : Nat) (sweep : Serial)
    (buffer : List (Option BufferEntry)) {a : Nat} (within : a ≤ 32) :
    (updateRecords records count sweep buffer)[a]? =
      some (if a ≤ count then (recordAt records a).update sweep (buffer.getD a none) else recordAt records a) :=
  getElem?_map_range (Nat.lt_succ_of_le within) _

/-- What the update of one record tells (R14). -/
theorem MonitorRecord.events_eq (r : MonitorRecord) (a : Nat) (entry : Option BufferEntry) :
    r.events a entry =
      match entry with
      | some ⟨.good _, _⟩ =>
        if r.state = .missing ∨ r.state = .absent then [broadcast (.monitorReturned a r.missCount)] else []
      | some ⟨.missed error, _⟩ =>
        if r.missCount = 0 ∧ r.state = .present then [broadcast (.monitorMissing a error)]
        else if r.missCount = 2 then [broadcast (.monitorAbsent a error)]
        else []
      | none => [] := by
  unfold MonitorRecord.events
  split
  next => rfl
  next error mask =>
    by_cases zero : r.missCount = 0
    · simp [zero]
    · simp [zero]
  next => rfl

/-! ### The connection controller at a completion (R145, R149, R152) -/

section
variable {m : State}

theorem sweepConn_flag (flag : m.table.hardLimits.flag = true) :
    m.sweepConn = m.conn.emergency .hardLimit .hardLimit := if_pos flag

/-- The precharge test passes in CHARGING (R145). -/
structure Charged (m : State) : Prop where
  charging : m.conn.connection = .precharging .charging
  known : m.table.string.state = .known
  lossless : m.table.dataLoss.holds = false
  reached : m.table.aggregates.vsum * m.config.prechargeRatio / 1000 ≤ m.table.string.dcLink * 100

/-- The current test passes in the wait of a NORMAL opening (R149). -/
structure AtRest (m : State) : Prop where
  waits : m.conn.connection = .opening .normal .wait
  usable : m.table.string.state = .known ∨ m.table.string.state = .stale
  low : (m.table.string.current.natAbs : Int) ≤ m.config.openCurrent

theorem prechargeTest_iff (unset : m.table.hardLimits.flag = false)
    (charging : m.conn.connection = .precharging .charging) :
    prechargeTest m.config m.table = true ↔ Charged m := by
  simp only [prechargeTest, unset, Bool.and_eq_true, decide_eq_true_iff, Bool.not_eq_true', Bool.not_false, and_true]
  exact ⟨fun ⟨⟨known, lossless⟩, reached⟩ => ⟨charging, known, lossless, reached⟩,
    fun ⟨_, known, lossless, reached⟩ => ⟨⟨known, lossless⟩, reached⟩⟩

theorem sweepConn_charged (unset : m.table.hardLimits.flag = false) (charged : Charged m) :
    m.sweepConn =
      ⟨{ m.conn with
          contactors := { m.conn.contactors with pos := m.conn.contactors.pos.withCommand .closed },
          connection := .closing, precharge := .stopped, openWait := .stopped },
        [.connectionState .closing .precharged]⟩ := by
  rw [State.sweepConn, if_neg (by simp [unset]), charged.charging]
  exact (if_pos ((prechargeTest_iff unset charged.charging).2 charged)).trans
    (ConnectionControl.toStateFor_eq _ (by simp) (by simp) _)

theorem sweepConn_atRest (unset : m.table.hardLimits.flag = false) (rest : AtRest m) :
    m.sweepConn = (m.conn.mainsBegun .normal).goOnOpening := by
  rw [State.sweepConn, if_neg (by simp [unset]), rest.waits]
  refine (if_pos ((currentTest_iff _ _).2 ⟨rest.usable, rest.low⟩)).trans ?_
  rw [ConnectionControl.endWait, ConnectionControl.beginMains_eq]

theorem sweepConn_still (unset : m.table.hardLimits.flag = false) (uncharged : ¬ Charged m) (moving : ¬ AtRest m) :
    m.sweepConn = ⟨m.conn, []⟩ := by
  rw [State.sweepConn, if_neg (by simp [unset])]
  split
  next charging => exact if_neg fun test => uncharged ((prechargeTest_iff unset charging).1 test)
  next waits =>
    refine if_neg fun test => ?_
    obtain ⟨usable, low⟩ := (currentTest_iff _ _).1 test
    exact moving ⟨waits, usable, low⟩
  all_goals rfl

/-- The connection controller at a completion, by the first of its tests that passes. -/
theorem sweepConn_eq {c : ConnectionControl} {table : CellTable} {config : ConfigSet} (conn_ : m.conn = c)
    (table_ : m.table = table) (config_ : m.config = config) {conn : ConnectionControl} {raised : List Event}
    (flagged : table.hardLimits.flag = true → (⟨conn, raised⟩ : ConnChange) = c.emergency .hardLimit .hardLimit)
    (charges : table.hardLimits.flag = false →
      (c.connection = .precharging .charging ∧ table.string.state = .known ∧ table.dataLoss.holds = false ∧
        table.aggregates.vsum * config.prechargeRatio / 1000 ≤ table.string.dcLink * 100) →
      conn = { c with
        contactors := { c.contactors with pos := c.contactors.pos.withCommand .closed },
        connection := .closing, precharge := .stopped, openWait := .stopped } ∧
      raised = [.connectionState .closing .precharged])
    (rests : table.hardLimits.flag = false →
      (c.connection = .opening .normal .wait ∧ (table.string.state = .known ∨ table.string.state = .stale) ∧
        (table.string.current.natAbs : Int) ≤ config.openCurrent) →
      (⟨conn, raised⟩ : ConnChange) = (c.mainsBegun .normal).goOnOpening)
    (still : table.hardLimits.flag = false →
      ¬ (c.connection = .precharging .charging ∧ table.string.state = .known ∧ table.dataLoss.holds = false ∧
        table.aggregates.vsum * config.prechargeRatio / 1000 ≤ table.string.dcLink * 100) →
      ¬ (c.connection = .opening .normal .wait ∧ (table.string.state = .known ∨ table.string.state = .stale) ∧
        (table.string.current.natAbs : Int) ≤ config.openCurrent) →
      conn = c ∧ raised = []) :
    m.sweepConn = ⟨conn, raised⟩ := by
  subst conn_ table_ config_
  cases flag : m.table.hardLimits.flag with
  | true => exact (sweepConn_flag flag).trans (flagged flag).symm
  | false =>
    by_cases charged : Charged m
    · obtain ⟨rfl, rfl⟩ := charges flag ⟨charged.charging, charged.known, charged.lossless, charged.reached⟩
      exact sweepConn_charged flag charged
    · by_cases rest : AtRest m
      · exact (sweepConn_atRest flag rest).trans (rests flag ⟨rest.waits, rest.usable, rest.low⟩).symm
      · obtain ⟨rfl, rfl⟩ := still flag (fun ⟨charging, known, lossless, reached⟩ =>
            charged ⟨charging, known, lossless, reached⟩)
          fun ⟨waits, usable, low⟩ => rest ⟨waits, usable, low⟩
        exact sweepConn_still flag charged rest

end

/-! ### The whole completion (R12, R22, R44) -/

theorem State.evaluateWatch_st (s : State) :
    s.evaluateWatch.st = { s with slots := s.evaluateWatch.st.slots, stack := s.evaluateWatch.st.stack } := by
  obtain ⟨chain, table, envelope, thermal, fire, conn, ports, config, clock, resetHeld, freeReads, pending⟩ :=
    s.evaluateWatch_keeps
  generalize s.evaluateWatch.st = t at *
  cases t
  simp_all

theorem State.measured_eq (s : State) :
    s.measured =
      { s.takeSweep.st with
        slots := s.takeSweep.st.evaluateWatch.st.slots, stack := s.takeSweep.st.evaluateWatch.st.stack,
        thermal := { s.thermal with
          fanDemand := s.measured.thermal.fanDemand, heaterOn := s.measured.thermal.heaterOn } } := by
  rw [State.measured, State.evaluateWatch_st]
  rfl

theorem State.measured_thermal (s : State) :
    s.measured.thermal.fanDemand = fanDemandOf s.config.fanCurve s.takeSweep.st.table.aggregates.tmax ∧
    s.measured.thermal.heaterOn =
      heaterAfter s.config s.takeSweep.st.table.aggregates.tmin s.thermal.heaterOn := by
  simp only [State.measured, State.measureThermal, State.evaluateWatch_keeps, State.takeSweep_keeps, and_self]

theorem State.completion_leaves (s : State) {conn : ConnectionControl} {raised : List Event}
    (does : s.measured.sweepConn = ⟨conn, raised⟩) :
    s.completion.st = { s.measured with conn := conn } ∧
    s.completion.raised =
      updateEvents s.chain.records s.config.monitorCount s.chain.buffer ++ s.takeSweep.st.evaluateWatch.raised ++
        raised.map broadcast := by
  refine ⟨?_, ?_⟩
  · rw [State.completion_st, does]
    rfl
  · change s.takeSweep.raised ++ _ ++ (s.measured.sweepConn.raised.map broadcast) = _
    rw [does]
    rfl

theorem State.sweep_record (b : State) (x : Change) :
    (State.settle b .sweep x).envelope.record.kind = .sweep ∧
    (State.settle b .sweep x).envelope.record.sweepNumber = x.st.table.sweepNumber ∧
    (State.settle b .sweep x).envelope.publicationNumber = x.st.envelope.publicationNumber + 1 := by
  rw [State.settle_envelope]
  refine ⟨rfl, ?_, rfl⟩
  exact congrArg CellTable.sweepNumber (State.settle_table b .sweep x)

/-! ### The end of an exchange (R9, R11, R18) -/

section
variable {s : State} (e : Exchange) (o : ExchangeOutcome)

theorem endExchange_aborting (aborting : s.chain.activity = .aborting) :
    s.endExchange e o =
      s.withChain
        { s.chain with
          buffer := List.replicate 33 none, divisor := s.chain.deferredDivisor.getD s.chain.divisor,
          deferredDivisor := none, bleedOffRequest := false,
          activity := if s.chain.bleedOffRequest = true then .clearing else .idle,
          link := if s.chain.bleedOffRequest = true then .frameDue else .rest, exchange := none } := by
  rw [State.endExchange, if_pos aborting, ChainState.endAbort_eq]
  refine congrArg s.withChain ?_
  cases request : s.chain.bleedOffRequest with
  | true => exact ChainState.serveBleedOff_idle (c := s.chain.aborted) request rfl
  | false =>
    rw [ChainState.serveBleedOff_unset (c := s.chain.aborted) request, ChainState.aborted, request]
    rfl

theorem endExchange_next (sweeping : s.chain.activity = .sweeping) (more : e.address < s.config.monitorCount) :
    s.endExchange e o = s.withChain ((s.chain.fillEntry e o).exchangeDue (e.address + 1)) := by
  rw [State.endExchange, if_neg (by simp [sweeping])]
  exact if_pos more

theorem endExchange_last (sweeping : s.chain.activity = .sweeping) (last : s.config.monitorCount ≤ e.address) :
    s.endExchange e o = State.settle s .sweep (s.withChain (s.chain.fillEntry e o)).completion := by
  rw [State.endExchange, if_neg (by simp [sweeping])]
  exact if_neg (Nat.not_lt.2 last)

end

theorem updateEvents_eq (records : List MonitorRecord) (count : Nat) (buffer : List (Option BufferEntry)) :
    updateEvents records count buffer =
      (List.range 33).flatMap fun a =>
        if count < a then [] else (recordAt records a).events a (buffer.getD a none) := by
  refine congrArg (fun f => (List.range 33).flatMap f) (funext fun a => ?_)
  by_cases configured : a ≤ count
  · rw [if_pos configured, if_neg (Nat.not_lt.2 configured)]
  · rw [if_neg configured, if_pos (Nat.lt_of_not_le configured)]

/-! ### The statement -/

/-- Settles O46: the exchange by activity and address, the completion by its blocks, the evaluation by its slots, and
each push by what the stack answers. -/
theorem exchangeEndGoesOnOrCompletes : Obligations.ExchangeEndGoesOnOrCompletes := by
  refine ⟨fun s e o => ⟨endExchange_aborting e o, endExchange_next e o, fun sweeping last _ => ?completes⟩,
    fun s now curtails length conditions acting => ?evaluates,
    fun s => ⟨rfl, fun k rest => rfl, fun k c claimed => ?pushes⟩⟩
  case completes =>
    rw [endExchange_last e o sweeping last]
    intro t number old done table watched flag charged atRest mains monitorTold
    obtain ⟨x, filled⟩ : ∃ x, x = s.withChain (s.chain.fillEntry e o) := ⟨_, rfl⟩
    have chain : t.chain = x.takeSweep.st.chain := by
      rw [filled, ← State.completion_chain]
      exact State.settle_chain _ _ _
    have swept := chain.trans x.takeSweep_chain
    have records : t.chain.records =
        updateRecords s.chain.records s.config.monitorCount number
          (s.chain.buffer.set e.address (some ⟨o, e.mask⟩)) := by
      rw [swept, filled]
      split <;> rfl
    have taken : x.takeSweep.st = { s with chain := t.chain, table := table } := by
      rw [show table = s.table.takeSnapshot _ _ t.chain.records _ from rfl, records, chain, filled]
      rfl
    obtain ⟨-, measuredTable, -, -, -, -, measuredConn, measuredConfig, -⟩ := x.measured_keeps
    rw [taken] at measuredTable
    obtain ⟨fan, heater⟩ := x.measured_thermal
    have leaves := State.settle_leaves s .sweep x.completion
    have thermal : t.thermal.fanDemand = x.measured.thermal.fanDemand ∧
        t.thermal.heaterOn = x.measured.thermal.heaterOn := by
      have followed := leaves.thermal
      rw [State.completion_thermal, filled] at followed
      have fanDemand := congrArg ThermalState.fanDemand followed
      have heaterOn := congrArg ThermalState.heaterOn followed
      rw [filled]
      exact ⟨fanDemand, heaterOn⟩
    refine ⟨?chain, ?length, fun a within => ?records, fun conn raised flagged charges rests still => ?leaves,
      ?measured, ?record⟩
    case chain =>
      have done_ : x.chain.swept x.config.monitorCount = done := by
        rw [filled]
        exact congrArg (fun r => ({ done with records := r } : ChainState)) records.symm
      rw [swept, done_, filled]
      rfl
    case length =>
      rw [records]
      simp [updateRecords]
    case records =>
      rw [records, updateRecords_get _ _ _ _ within]
      refine ⟨fun outside => ?_, fun configured values mask entry => ?_, fun configured error mask entry => ?_⟩
      · rw [if_neg (Nat.not_le.2 outside)]
        rfl
      · rw [if_pos configured, entry]
        rfl
      · rw [if_pos configured, entry]
        rfl
    case leaves =>
      have does := sweepConn_eq (m := x.measured) (c := s.conn) (table := table) (config := s.config)
        (measuredConn.trans (by rw [filled]; rfl)) measuredTable (measuredConfig.trans (by rw [filled]; rfl))
        flagged charges rests still
      obtain ⟨st, raised_⟩ := x.completion_leaves does
      have told : updateEvents x.chain.records x.config.monitorCount x.chain.buffer =
          (List.range 33).flatMap monitorTold := by
        rw [updateEvents_eq, filled]
        refine congrArg (fun f => (List.range 33).flatMap f) (funext fun a => ?_)
        exact if_congr Iff.rfl rfl (MonitorRecord.events_eq _ _ _)
      rw [st, raised_, told, x.measured_eq, taken, ← thermal.1, ← thermal.2] at leaves
      subst filled
      exact leaves
    case measured =>
      rw [taken] at fan heater
      refine .of_measured (thermal.1.trans (fan.trans ?_)) (thermal.2.trans (heater.trans ?_))
      · rw [filled]
        rfl
      · rw [filled]
        rfl
    case record =>
      obtain ⟨kind, sweepNumber, published⟩ := State.sweep_record s x.completion
      rw [State.completion_table, taken] at sweepNumber
      simp only [State.completion_keeps] at published
      rw [filled] at kind sweepNumber published
      exact ⟨kind, sweepNumber, published⟩
  case evaluates =>
    refine ⟨?_, fun r => ?_⟩
    · rw [State.evaluateWatch_eq, Change.raise_st, evaluated_eq length conditions acting,
        pushers_eq conditions acting]
    · rw [State.evaluateWatch_eq, evaluated_eq length conditions acting, pushers_eq conditions acting]
      exact List.mem_append.trans (or_congr Iff.rfl (mem_notifyEvents length conditions r))
  case pushes =>
    refine ⟨pushSlot_room claimed, fun full kept => pushSlot_refused claimed full (kept.imp_right fun all x mem =>
        (utilityOwned_iff s x).2 (all x mem)), fun full util distinct below d above split utilities other =>
      ⟨fun q owner => ?_, fun j held owner claim => ?_⟩⟩
    all_goals
      have lower : ∀ x ∈ below, utilityOwned s.slots x = true := fun x mem => (utilityOwned_iff s x).2 (utilities x mem)
      have foreign : utilityOwned s.slots d = false :=
        Bool.eq_false_iff.2 fun owned => other ((utilityOwned_iff s d).1 owned)
    · rw [pushSlot_displaces claimed full util distinct split lower foreign (State.afterPush_of_port owner _ _)]
      exact congrArg (fun slots => (⟨{ s with stack := StackState.add _ _, slots := slots }, _⟩ : Change))
        (holdEntry_of_claim claimed)
    · rw [pushSlot_displaces claimed full util distinct split lower foreign (State.afterPush_of_slot owner claim _ _)]
      have apart : j ≠ k := by
        rintro rfl
        obtain rfl := Option.some.inj (claim.symm.trans claimed)
        exact other (.inr ⟨j, held, owner, claim, util⟩)
      exact congrArg (fun slots => (⟨{ s with stack := StackState.add _ _, slots := slots }, _⟩ : Change))
        (holdEntry_of_claim ((getD_set_ne apart _ _).trans claimed))

end Sys2Proof.Machine
end

section
/-! The requests of the configuration set (R181 to R185). -/

namespace Sys2Proof.Machine

/-! ### The chain when the part leaves CONFIGURED (R18, R19, R182) -/

namespace ChainState

/-- In STOPPED the stop aborts a sweep, and serves a request that is set (R18, R19). -/
theorem stop_stopped {c : ChainState} (mode : c.mode = .stopped) :
    c.stop =
      match c.activity with
      | .idle => if c.bleedOffRequest then c.clearing else c
      | .sweeping =>
        if c.betweenExchanges then (if c.bleedOffRequest then c.aborted.clearing else c.aborted)
        else { c with activity := .aborting }
      | .aborting | .clearing => c := by
  have kept : c.stopMode = c := if_pos mode
  rw [stop, kept]
  cases activity : c.activity with
  | idle =>
    rw [abortSweep_of_ne (by simp [activity])]
    cases request : c.bleedOffRequest with
    | true => exact serveBleedOff_idle request activity
    | false => exact serveBleedOff_unset request
  | sweeping =>
    cases between : c.betweenExchanges with
    | true =>
      rw [abortSweep_between activity between, endAbort_eq]
      cases request : c.bleedOffRequest with
      | true => exact serveBleedOff_idle (c := c.aborted) request rfl
      | false => exact serveBleedOff_unset (c := c.aborted) request
    | false =>
      rw [abortSweep_inside activity between, serveBleedOff_busy (by simp)]
      rfl
  | aborting | clearing => rw [abortSweep_of_ne (by simp [activity]), serveBleedOff_busy (by simp [activity])]

/-- In another mode the mode becomes STOPPED besides (R19). -/
theorem stop_running {c : ChainState} (mode : c.mode ≠ .stopped) :
    c.stop =
      match c.activity with
      | .idle => c.halted.clearing
      | .sweeping =>
        if c.betweenExchanges then
          c.halted.aborted.clearing
        else { c.stopped with activity := .aborting }
      | .aborting => c.stopped
      | .clearing => c.halted := by
  cases activity : c.activity with
  | idle => exact stop_idle mode activity
  | sweeping =>
    cases between : c.betweenExchanges with
    | true => exact stop_between mode activity between
    | false => exact stop_inside mode activity between
  | aborting => exact stop_aborting mode activity
  | clearing => exact stop_clearing mode activity

end ChainState

/-! ### A taken write (R181, R182) -/

/-- What a taken write makes of the state. -/
def State.written (s : State) (n : Nat) (v : ItemValue) : State := (s.leaveConfigured n).st.storeItem n v

theorem State.written_config (s : State) (n : Nat) (v : ItemValue) :
    (s.written n v).config = { items := s.config.items.set (n - 1) v, configured := false } := by
  rw [State.written, State.storeItem_config, State.leaveConfigured_config]
  rfl

theorem State.written_chain (s : State) (n : Nat) (v : ItemValue) :
    (s.written n v).chain =
      if n = 1 then
        { (if s.config.configured then s.chain.stop else s.chain) with
          records := recordsAfterCount (if s.config.configured then s.chain.stop else s.chain).records
            (s.written n v).config.monitorCount }
      else if n = 3 then
        (if s.config.configured then s.chain.stop else s.chain).writeDivisor (s.written n v).config.chainDivisor
      else if s.config.configured then s.chain.stop else s.chain := by
  rw [State.written, State.storeItem_chain, State.storeItem_config, State.leaveConfigured_chain]

theorem State.written_thermal (s : State) (n : Nat) (v : ItemValue) :
    (s.written n v).thermal = if s.config.configured then s.thermal.allAuto else s.thermal := by
  rw [← s.leaveConfigured_thermal n, State.written]
  simp only [State.storeItem_keeps]

theorem Detector.kindWritten_eq (d : Detector) :
    d.kindWritten = ⟨d.disablement, d.level, if d.disablement = none then .normal else d.state, 0, 0, 0, 0, 0⟩ := by
  obtain ⟨disablement, _⟩ := d
  cases disablement <;> rfl

/-- The fire controller after a write: the detectors by the item, and a fire state that follows them (R120, R127). -/
theorem State.written_fire (s : State) (n : Nat) (v : ItemValue) :
    (s.written n v).fire =
      { s.fire with
        detectors :=
          if 58 ≤ n ∧ n ≤ 73 then s.fire.detectors.set (n - 58) (s.fire.detector (n - 58)).kindWritten
          else if 74 ≤ n ∧ n ≤ 79 then
            (List.range 16).map fun i =>
              if (s.written n v).config.detectorKind i = thresholdKind n then (s.fire.detector i).clearRuns
              else s.fire.detector i
          else s.fire.detectors,
        status := (s.written n v).fire.status, causes := (s.written n v).fire.causes } ∧
    (n < 58 ∨ 73 < n →
      (s.written n v).fire.status = s.fire.status ∧ (s.written n v).fire.causes = s.fire.causes) ∧
    (58 ≤ n ∧ n ≤ 73 → s.fire.status.confirmed = false →
      WatchFollows (s.written n v).config (s.written n v).fire) := by
  have left : (s.leaveConfigured n).st.fire = s.fire := by simp only [State.leaveConfigured_keeps]
  have fire : (s.written n v).fire =
      if 58 ≤ n ∧ n ≤ 73 then
        (s.fire.setDetector (n - 58) (s.fire.detector (n - 58)).kindWritten).reassess (s.written n v).config
      else if 74 ≤ n ∧ n ≤ 79 then s.fire.thresholdWritten (s.written n v).config (thresholdKind n)
      else s.fire := by
    have stored := (s.leaveConfigured n).st.storeItem_fire n v
    rw [left, ← State.storeItem_config] at stored
    exact stored
  by_cases kind : 58 ≤ n ∧ n ≤ 73
  · rw [if_pos kind] at fire
    refine ⟨?_, fun outside => by omega, fun _ calm => ?_⟩
    · rw [if_pos kind]
      have kept := (s.fire.setDetector (n - 58) (s.fire.detector (n - 58)).kindWritten).reassess_eq
        (s.written n v).config
      rw [← fire] at kept
      exact kept
    · have unconfirmed :
          ¬ (s.fire.setDetector (n - 58) (s.fire.detector (n - 58)).kindWritten).status.confirmed = true :=
        Bool.eq_false_iff.1 calm
      rw [FireControl.reassess, if_neg unconfirmed] at fire
      rw [fire]
      exact FireControl.watchOrQuiet_follows _ _
  · rw [if_neg kind] at fire
    by_cases threshold : 74 ≤ n ∧ n ≤ 79
    · rw [if_pos threshold] at fire
      rw [if_neg kind, if_pos threshold, fire]
      exact ⟨rfl, fun _ => ⟨rfl, rfl⟩, fun within => absurd within kind⟩
    · rw [if_neg threshold] at fire
      rw [if_neg kind, if_neg threshold, fire]
      exact ⟨rfl, fun _ => ⟨rfl, rfl⟩, fun within => absurd within kind⟩

theorem State.leaveConfigured_eq (s : State) (n : Nat) :
    (s.leaveConfigured n).st =
      { s with
        config := (s.leaveConfigured n).st.config, chain := (s.leaveConfigured n).st.chain,
        thermal := (s.leaveConfigured n).st.thermal } := by
  unfold State.leaveConfigured
  split <;> rfl

theorem State.storeItem_eq (s : State) (n : Nat) (v : ItemValue) :
    s.storeItem n v =
      { s with
        config := (s.storeItem n v).config, chain := (s.storeItem n v).chain, fire := (s.storeItem n v).fire } := by
  unfold State.storeItem State.itemEffect
  split
  · rfl
  · split
    · rfl
    · split
      · rfl
      · split <;> rfl

/-- A write changes configuration, chain, duty channels and detectors alone (R181, R182). -/
theorem State.written_eq (s : State) (n : Nat) (v : ItemValue) :
    s.written n v =
      { s with
        config := (s.written n v).config, chain := (s.written n v).chain, thermal := (s.written n v).thermal,
        fire := (s.written n v).fire } := by
  have stored : s.written n v =
      { (s.leaveConfigured n).st with
        config := (s.written n v).config, chain := (s.written n v).chain, fire := (s.written n v).fire } :=
    (s.leaveConfigured n).st.storeItem_eq n v
  have thermal := congrArg State.thermal stored
  refine stored.trans ?_
  rw [thermal, s.leaveConfigured_eq n]

theorem State.leaveConfigured_configured {s : State} {n : Nat} (configured : s.config.configured = true) :
    s.leaveConfigured n =
      ⟨{ s with
          config := { s.config with configured := false }, chain := s.chain.stop, thermal := s.thermal.allAuto },
        [broadcast (.configLeft n)]⟩ := if_pos configured

theorem State.leaveConfigured_unconfigured {s : State} {n : Nat} (unconfigured : s.config.configured = false) :
    s.leaveConfigured n = Change.quiet s := if_neg (Bool.eq_false_iff.1 unconfigured)

theorem State.leaveConfigured_setPort (s : State) (p : Port) (q : PortState) (n : Nat) :
    ((s.setPort p q).leaveConfigured n).st = (s.leaveConfigured n).st.setPort p q := by
  cases configured : s.config.configured with
  | true =>
    rw [State.leaveConfigured_configured configured, State.leaveConfigured_configured (s := s.setPort p q) configured]
    rfl
  | false =>
    rw [State.leaveConfigured_unconfigured configured,
      State.leaveConfigured_unconfigured (s := s.setPort p q) configured]
    rfl

theorem State.storeItem_setPort (s : State) (p : Port) (q : PortState) (n : Nat) (v : ItemValue) :
    (s.setPort p q).storeItem n v = (s.storeItem n v).setPort p q := by
  unfold State.storeItem State.itemEffect
  by_cases first : n = 1
  · rw [if_pos first, if_pos first]
    rfl
  · rw [if_neg first, if_neg first]
    by_cases third : n = 3
    · rw [if_pos third, if_pos third]
      rfl
    · rw [if_neg third, if_neg third]
      by_cases kind : 58 ≤ n ∧ n ≤ 73
      · rw [if_pos kind, if_pos kind]
        rfl
      · rw [if_neg kind, if_neg kind]
        by_cases threshold : 74 ≤ n ∧ n ≤ 79
        · rw [if_pos threshold, if_pos threshold]
          rfl
        · rw [if_neg threshold, if_neg threshold]
          rfl

theorem State.written_setPort (s : State) (p : Port) (q : PortState) (n : Nat) (v : ItemValue) :
    (s.setPort p q).written n v = (s.written n v).setPort p q := by
  rw [State.written, State.leaveConfigured_setPort, State.storeItem_setPort, State.written]

/-! ### The statements -/

/-- The answer to CONFIG_WRITE, check by check (R181). -/
theorem answerConfigWrite_unnamed {body : List Byte} {q : PortState} {s : State} (item : itemRange (u8 body 0) = none) :
    answerConfigWrite body q s = refuse .range q := by
  rw [answerConfigWrite, item]

section
variable {body : List Byte} {q : PortState} {s : State} {range : ItemRange} (item : itemRange (u8 body 0) = some range)
include item

theorem answerConfigWrite_refused {reason : RefusalReason} (refusal : s.writeRefusal = some reason) :
    answerConfigWrite body q s = refuseFor reason q := by
  simp only [answerConfigWrite, item, refusal]

theorem answerConfigWrite_outside (refusal : s.writeRefusal = none)
    (outside : range.admits (itemField range body 1) = false) : answerConfigWrite body q s = refuse .range q := by
  simp only [answerConfigWrite, item, refusal, outside, Bool.false_eq_true, if_false]

theorem answerConfigWrite_taken (refusal : s.writeRefusal = none)
    (admitted : range.admits (itemField range body 1) = true) :
    answerConfigWrite body q s =
      .event .ok [] (writePublication s.config.configured)
        ⟨s.written (u8 body 0) (itemField range body 1),
          if s.config.configured then [broadcast (.configLeft (u8 body 0))] else []⟩ := by
  simp only [answerConfigWrite, item, refusal, admitted, if_true]
  refine congrArg (fun x => Answer.event .ok [] (writePublication s.config.configured) x) ?_
  change (⟨s.written _ _, (s.leaveConfigured _).raised ++ []⟩ : Change) = _
  rw [List.append_nil, State.leaveConfigured, apply_ite Change.raised]
  rfl

end

theorem State.writeRefusal_connected {s : State} (connected : s.conn.connection.disconnected = false) :
    s.writeRefusal = some .state := by
  rw [State.writeRefusal, connected]
  rfl

theorem State.writeRefusal_fire {s : State} (disconnected : s.conn.connection.disconnected = true)
    (fire : s.fire.status ≠ .quiet) : s.writeRefusal = some .fire := by
  rw [State.writeRefusal, disconnected, if_neg (by decide), if_pos fire]

theorem State.writeRefusal_none {s : State} (disconnected : s.conn.connection.disconnected = true)
    (quiet : s.fire.status = .quiet) : s.writeRefusal = none := by
  rw [State.writeRefusal, disconnected, if_neg (by decide), if_neg (not_not.2 quiet)]

theorem itemRange_none {n : Nat} (unnamed : n = 0 ∨ 89 < n) : itemRange n = none := if_neg (by omega)

theorem itemRange_some {n : Nat} (low : 1 ≤ n) (high : n ≤ 89) : ∃ range, itemRange n = some range := by
  have within : n - 1 < itemTable.length := Nat.lt_of_lt_of_eq (by omega : n - 1 < 89) (by decide)
  exact ⟨_, (if_pos ⟨low, high⟩).trans (by rw [List.getElem?_eq_getElem within, Option.map_some])⟩

/-- The answer to CONFIG_READ (R183). -/
theorem answerConfigRead_named {item : Byte} {q : PortState} {s : State} (low : 1 ≤ item.toNat)
    (high : item.toNat ≤ 89) :
    answerConfigRead [item] q s = .atPort .ok (item :: itemBytes (s.config.value item.toNat)) q := by
  obtain ⟨range, named⟩ := itemRange_some low high
  have byte : byte1 item.toNat = [item] := by rw [byte1, BitVec.ofNat_toNat, BitVec.setWidth_eq]
  rw [answerConfigRead, show itemRange (u8 [item] 0) = some range from named]
  exact congrArg (fun b => Answer.atPort .ok (b ++ itemBytes (s.config.value item.toNat)) q) byte

/-- An event that may publish nothing keeps the envelope record. -/
theorem State.settle_never (b : State) (x : Change) : (State.settle b .never x).envelope = x.st.envelope := by
  rw [State.settle_envelope]
  rfl

/-- An event keeps what its work leaves of the fire state, the causes and the detectors. -/
theorem EventLeaves.fire_kept {u t : State} {told : List Raised} (leaves : EventLeaves u told t) :
    t.fire.status = u.fire.status ∧ t.fire.causes = u.fire.causes ∧ t.fire.detectors = u.fire.detectors := by
  rw [leaves.fire]
  exact ⟨rfl, rfl, rfl⟩

/-- Settles O52: the checks of a write in order, and what a taken one makes of each block (`State.written_eq`). -/
theorem configWriteAndRead : Obligations.ConfigWriteAndRead := by
  intro s p item
  refine ⟨fun rest taken => ⟨fun unnamed => ?unnamed, fun range named => ?writes⟩,
    fun taken => ⟨fun unnamed => ?unread, fun low high => ⟨fun v held => ?scalar, fun temperature v held => ?point⟩⟩⟩
  case unnamed =>
    exact congrArg Host.Outcome.next (taken.refused (answerConfigWrite_unnamed (itemRange_none unnamed)))
  case writes =>
    have free := Connection.disconnected_iff s.conn.connection
    refine ⟨fun connected => ?_, fun disconnected fire => ?_, fun disconnected quiet outside => ?_,
      fun disconnected quiet admitted => ?_⟩
    · exact congrArg Host.Outcome.next (taken.refused (answerConfigWrite_refused (body := item :: rest) named
        (State.writeRefusal_connected (s := s.setPort p _) (Bool.eq_false_iff.2 (mt free.1 connected)))))
    · exact congrArg Host.Outcome.next (taken.refused (answerConfigWrite_refused (body := item :: rest) named
        (State.writeRefusal_fire (s := s.setPort p _) (free.2 disconnected) fire)))
    · exact congrArg Host.Outcome.next (taken.refused (answerConfigWrite_outside named
        (State.writeRefusal_none (s := s.setPort p _) (free.2 disconnected) quiet) outside))
    · intro config old stopped clearing between aborted left chain channels d written detectors
      have leaving : (if s.config.configured = true then s.chain.stop else s.chain) = left := by
        cases configured : s.config.configured with
        | false => exact (if_pos configured).symm
        | true =>
          refine (if_pos rfl).trans (Eq.trans ?_ (if_neg (by simp [configured])).symm)
          by_cases mode : old.mode = .stopped
          · exact (ChainState.stop_stopped mode).trans (if_pos mode).symm
          · exact (ChainState.stop_running mode).trans (if_neg mode).symm
      obtain ⟨v, value⟩ : ∃ v, v = itemField range (item :: rest) 1 := ⟨_, rfl⟩
      have config_ : (s.written item.toNat v).config = config := by
        rw [State.written_config, value]
      have chain_ : (s.written item.toNat v).chain = chain := by
        rw [State.written_chain, config_, leaving]
        rfl
      have channels_ : (s.written item.toNat v).thermal = { s.thermal with channels := channels } := by
        rw [State.written_thermal]
        cases configured : s.config.configured with
        | true =>
          exact congrArg (fun c => ({ s.thermal with channels := c } : ThermalState)) (if_pos configured).symm
        | false =>
          exact congrArg (fun c => ({ s.thermal with channels := c } : ThermalState))
            (if_neg (Bool.eq_false_iff.1 configured)).symm
      obtain ⟨fire, unmoved, follows⟩ := s.written_fire item.toNat v
      rw [Detector.kindWritten_eq, config_] at fire
      have admission := answerConfigWrite_taken (body := item :: rest) (s := s.setPort p (s.ports.get p).taken)
        (q := (s.ports.get p).taken) named (State.writeRefusal_none (free.2 disconnected) quiet) admitted
      rw [State.written_setPort] at admission
      have leaves := taken.eventAnswered (u := s.written item.toNat v)
        (by rw [State.written_eq]) (value ▸ admission)
      obtain ⟨t, ran⟩ : ∃ t, t = s.running fun s => s.serve p .configWrite answerConfigWrite := ⟨_, rfl⟩
      rw [← ran] at leaves
      obtain ⟨status, causes, detected⟩ : t.fire.status = (s.written item.toNat v).fire.status ∧
          t.fire.causes = (s.written item.toNat v).fire.causes ∧
          t.fire.detectors = (s.written item.toNat v).fire.detectors := leaves.fire_kept
      have state : s.written item.toNat v =
          { s with
            config := config, chain := chain, thermal := { s.thermal with channels := channels },
            fire := { s.fire with
              detectors := detectors, status := (s.written item.toNat v).fire.status,
              causes := (s.written item.toNat v).fire.causes } } := by
        refine (s.written_eq _ _).trans ?_
        rw [config_, chain_, channels_]
        exact congrArg (fun f => ({ s with
          config := config, chain := chain, thermal := { s.thermal with channels := channels },
          fire := f } : State)) fire
      refine ⟨t, congrArg Host.Outcome.next ran.symm, ?_, fun outside => ?_, fun kind => ?_, fun unconfigured => ?_⟩
      · rw [state] at leaves
        rw [status, causes]
        exact leaves
      · obtain ⟨same, old_⟩ := unmoved outside
        exact ⟨status.trans (same.trans quiet), causes.trans old_⟩
      · have watch := follows kind (by rw [quiet]; rfl)
        rw [config_] at watch
        refine WatchFollows.congr (f := (s.written item.toNat v).fire)
          (KindAlerted.congr (fun _ _ => rfl) fun i => ?_) status causes watch
        rw [FireControl.detector, detected]
        rfl
      · have published : writePublication s.config.configured = .never := by
          rw [unconfigured]
          rfl
        rw [ran, taken.settles (value ▸ admission)]
        change (State.settle _ (writePublication s.config.configured) _).envelope = _
        rw [published, State.settle_never]
        change (s.written _ v).envelope = _
        rw [State.written_eq]
  case unread =>
    refine congrArg Host.Outcome.next (taken.refused ?_)
    rw [answerConfigRead, show itemRange (u8 [item] 0) = none from itemRange_none unnamed]
    rfl
  case scalar =>
    refine congrArg Host.Outcome.next (taken.refused ((answerConfigRead_named low high).trans ?_))
    change Answer.atPort .ok (item :: itemBytes (s.config.value item.toNat)) _ = _
    rw [held]
    rfl
  case point =>
    refine congrArg Host.Outcome.next (taken.refused ((answerConfigRead_named low high).trans ?_))
    change Answer.atPort .ok (item :: itemBytes (s.config.value item.toNat)) _ = _
    rw [held]
    rfl

end Sys2Proof.Machine
end

section
/-! CONFIG_ACCEPT: the checks of acceptance, and what its taking starts (R184, R185). -/

namespace Sys2Proof.Machine

/-! ### The checks (R184) -/

theorem increasing_iff : ∀ points : List (Int × Int),
    increasing points = true ↔ points.Pairwise fun a b => a.1 < b.1
  | [] => by simp [increasing]
  | [_] => by simp [increasing]
  | a :: b :: rest => by
    rw [increasing, Bool.and_eq_true, decide_eq_true_iff, increasing_iff (b :: rest), List.pairwise_cons (a := a),
      List.pairwise_cons]
    constructor
    · rintro ⟨first, others, rising⟩
      refine ⟨fun x mem => ?_, others, rising⟩
      rcases List.mem_cons.1 mem with rfl | later
      · exact first
      · exact lt_trans first (others x later)
    · exact fun ⟨above, rest⟩ => ⟨above b List.mem_cons_self, rest⟩

/-- The rows of a table of checks: the first that fails gives its number and detail. -/
def firstFailing : List (Nat × Nat × Bool) → Option (Nat × Nat)
  | [] => none
  | (check, detail, passes) :: rest => if passes then firstFailing rest else some (check, detail)

theorem firstFailing_eq_none_iff : ∀ rows : List (Nat × Nat × Bool),
    firstFailing rows = none ↔ ∀ r ∈ rows, r.2.2 = true
  | [] => by simp [firstFailing]
  | (check, detail, passes) :: rest => by
    cases passes with
    | true => simpa [firstFailing] using firstFailing_eq_none_iff rest
    | false => simp [firstFailing]

theorem firstFailing_append {row : Nat × Nat × Bool} {after : List (Nat × Nat × Bool)} (fails : row.2.2 = false) :
    ∀ before : List (Nat × Nat × Bool), (∀ r ∈ before, r.2.2 = true) →
      firstFailing (before ++ row :: after) = some (row.1, row.2.1)
  | [], _ => by
    obtain ⟨check, detail, passes⟩ := row
    obtain rfl : passes = false := fails
    rfl
  | (check, detail, passes) :: before, pass => by
    obtain rfl : passes = true := pass _ List.mem_cons_self
    exact firstFailing_append fails before fun r mem => pass r (List.mem_cons_of_mem _ mem)

/-- The table of R184. -/
def ConfigSet.checks (c : ConfigSet) : List (Nat × Nat × Bool) :=
  [(1, 0, decide (1 ≤ c.monitorCount)), (2, 0, decide (c.dischargeFloor < c.dischargeTaper)),
    (3, 0, decide (c.chargeTaper < c.chargeCeiling)), (4, 1, decide (c.chargeCeiling ≤ c.hardMax)),
    (4, 2, decide (c.hardMin ≤ c.dischargeFloor)), (5, 0, increasing c.chargeCurve),
    (5, 1, increasing c.dischargeCurve), (5, 2, increasing c.fanCurve),
    (6, 1, decide (c.preThreshold .offgas < c.alarmThreshold .offgas)),
    (6, 2, decide (c.preThreshold .smoke < c.alarmThreshold .smoke)),
    (6, 3, decide (c.preThreshold .heat < c.alarmThreshold .heat)),
    (7, 0, (List.range 16).any fun i => decide (c.detectorKind i = .offgas) || decide (c.detectorKind i = .smoke)),
    (8, 0, decide (c.heatOn < c.heatOff))]

/-- One check of the chain: a failing condition is that its row does not pass. -/
theorem check_step {fails : Prop} [Decidable fails] {passes : Bool} (same : fails ↔ passes = false)
    {x rest rest' : Option (Nat × Nat)} (others : rest = rest') :
    (if fails then x else rest) = if passes = true then rest' else x := by
  subst others
  cases passes with
  | true => rw [if_neg (mt same.1 (by decide)), if_pos rfl]
  | false => rw [if_pos (same.2 rfl), if_neg (by decide)]

theorem ConfigSet.firstFailure_eq (c : ConfigSet) : c.firstFailure = firstFailing c.checks := by
  have below {a b : Nat} : b ≤ a ↔ decide (a < b) = false := by simp
  have under {a b : Int} : b ≤ a ↔ decide (a < b) = false := by simp
  have over_ {a b : Int} : b < a ↔ decide (a ≤ b) = false := by simp
  have denied {b : Bool} : (!b) = true ↔ b = false := by simp
  exact check_step (by simp) (check_step under (check_step under (check_step over_ (check_step over_
    (check_step denied (check_step denied (check_step denied (check_step below (check_step below (check_step below
      (check_step denied (check_step under rfl))))))))))))

/-- The rows of R184 as conditions. -/
def ConfigSet.conditions (c : ConfigSet) : List (Nat × Nat × Prop) :=
  c.checks.map fun r => (r.1, r.2.1, r.2.2 = true)

/-- The first condition that fails gives its number and detail. -/
theorem ConfigSet.firstFailure_of_split {c : ConfigSet} {before after : List (Nat × Nat × Prop)}
    {row : Nat × Nat × Prop} (split : c.conditions = before ++ row :: after) (pass : ∀ r ∈ before, r.2.2)
    (fails : ¬ row.2.2) : c.firstFailure = some (row.1, row.2.1) := by
  obtain ⟨first, last, checks, rfl, tail⟩ := List.map_eq_append_iff.1 split
  obtain ⟨here, later, rfl, rfl, -⟩ := List.map_eq_cons_iff.1 tail
  rw [c.firstFailure_eq, checks]
  exact firstFailing_append (Bool.eq_false_iff.2 fails) first fun r mem => pass _ (List.mem_map_of_mem mem)

/-! ### A taken acceptance (R185) -/

/-- An event that changes an input of R45 makes one CHANGE publication of the state that it leaves. -/
theorem State.settle_changed {b : State} {x : Change} (changed : b.inputs ≠ (State.settle b .ifChanged x).inputs) :
    (State.settle b .ifChanged x).envelope =
      (({ State.settle b .ifChanged x with envelope := x.st.envelope } : State).publish .change).envelope := by
  have due : State.settledPublication b .ifChanged x = some .change := by
    rw [State.settle_inputs] at changed
    exact if_neg changed
  rw [State.settle_envelope, due]

/-- The publication of a state with data loss gives both limits 0 (R56). -/
theorem State.publish_dataLoss {s : State} (lost : s.table.dataLoss.holds = true) (kind : PublicationKind) :
    (s.publish kind).envelope.record.chargeLimit = 0 ∧ (s.publish kind).envelope.record.dischargeLimit = 0 ∧
    (s.publish kind).envelope.record.kind = kind ∧
    (s.publish kind).envelope.publicationNumber = s.envelope.publicationNumber + 1 := by
  have gated : ∀ d, s.gated d = true := fun d => by simp [State.gated, State.gates, lost]
  exact ⟨State.newLimit_of_gated (gated .charge) _ _, State.newLimit_of_gated (gated .discharge) _ _, rfl, rfl⟩

theorem answerConfigAccept_taken {body : List Byte} {q : PortState} {s : State}
    (unconfigured : s.config.configured = false)
    (passes : s.config.firstFailure = none) : answerConfigAccept body q s = takenBy s.accept := by
  rw [answerConfigAccept, unconfigured, passes]
  rfl

/-- Settles O53: the chain of checks is the search for the first row that fails, and an acceptance is one event. -/
theorem configAcceptStartsThePart : Obligations.ConfigAcceptStartsThePart := by
  intro s p taken
  refine ⟨?all, fun before row after split pass fails => ?first, fun configured => ?again,
    fun unconfigured check detail failure => ?refused, fun unconfigured passes => ?taken⟩
  case all =>
    rw [ConfigSet.firstFailure_eq, firstFailing_eq_none_iff]
    simp only [ConfigSet.checks, List.forall_mem_cons, decide_eq_true_iff, increasing_iff, List.any_eq_true,
      List.mem_range, Bool.or_eq_true, List.not_mem_nil, false_imp_iff, implies_true, and_true]
  case first =>
    refine ConfigSet.firstFailure_of_split (c := s.config) (Eq.trans ?_ split) pass fails
    simp only [ConfigSet.conditions, ConfigSet.checks, List.map_cons, List.map_nil, decide_eq_true_iff,
      increasing_iff, List.any_eq_true, List.mem_range, Bool.or_eq_true]
  case again => exact congrArg Host.Outcome.next (taken.refused (if_pos configured))
  case refused =>
    refine congrArg Host.Outcome.next (taken.refused ?_)
    refine (if_neg (Bool.eq_false_iff.1 unconfigured)).trans ?_
    change (match s.config.firstFailure with | some (check, detail) => _ | none => _) = _
    rw [failure]
  case taken =>
    have answer := answerConfigAccept_taken (body := []) (q := (s.ports.get p).taken)
      (s := s.setPort p (s.ports.get p).taken) unconfigured passes
    refine ⟨_, rfl, taken.eventAnswered (u := s.accept.st) rfl answer, ?_⟩
    obtain ⟨b, base⟩ : ∃ b, b = s.setPort p (s.ports.get p).taken := ⟨_, rfl⟩
    have changed : b.inputs ≠ (State.settle b .ifChanged b.accept).inputs := by
      intro same
      have configured : b.config.configured = (State.settle b .ifChanged b.accept).config.configured :=
        congrArg Inputs.configured same
      rw [State.settle_config, base, show (s.setPort p _).config.configured = false from unconfigured] at configured
      exact nomatch configured
    have lost : (State.settle b .ifChanged b.accept).table.dataLoss.holds = true := by
      rw [State.settle_table]
      rfl
    have envelope := State.settle_changed changed
    have published := State.publish_dataLoss
      (s := { State.settle b .ifChanged b.accept with envelope := b.accept.st.envelope }) lost .change
    rw [← envelope] at published
    rw [taken.settles answer, ← base]
    subst base
    exact published

end Sys2Proof.Machine
end

section
/-! PORT_RESET (R178): the whole state that it leaves, and its publication. -/

namespace Sys2Proof.Machine

theorem releasedSlot_eq (p : Port) (o : Option Claim) :
    (match o with
      | some c => if c.owner = p then none else some c
      | none => none) = o.filter fun c => decide (c.owner ≠ p) := by
  cases o with
  | none => rfl
  | some c => by_cases own : c.owner = p <;> simp [own, Option.filter]

theorem claimedBy_eq (s : State) (p : Port) (k : Nat) :
    (!claimedBy s.slots p k) = decide ((s.claim k).map Claim.owner ≠ some p) := by
  unfold claimedBy State.claim
  cases s.slots.getD k none <;> simp

/-- The slots and the entries that the release of a port leaves (R83). -/
theorem State.releasePort_eq (s : State) (p : Port) :
    s.releasePort p =
      { s with
        slots := s.slots.map fun o => o.filter fun c => decide (c.owner ≠ p),
        stack := { s.stack with
          entries := s.stack.entries.filter fun e =>
            match e.owner with
            | .slot k => decide ((s.claim k).map Claim.owner ≠ some p)
            | .port _ => true } } := by
  have slots : s.slots.map (fun o => match o with
      | some c => if c.owner = p then none else some c
      | none => none) = s.slots.map fun o => o.filter fun c => decide (c.owner ≠ p) :=
    List.map_congr_left fun o _ => releasedSlot_eq p o
  have entries : (s.stack.entries.filter fun e => match e.owner with
      | .slot k => !claimedBy s.slots p k
      | .port _ => true) = s.stack.entries.filter fun e =>
        match e.owner with
        | .slot k => decide ((s.claim k).map Claim.owner ≠ some p)
        | .port _ => true := by
    refine List.filter_congr fun e _ => ?_
    cases e.owner with
    | slot k => exact claimedBy_eq s p k
    | port q => rfl
  exact congrArg₂
    (fun (es : List Entry) os => ({ s with slots := os, stack := { s.stack with entries := es } } : State))
    entries slots

/-- The fire controller after a port reset: for SITE the hold request is gone (R130, R131). -/
theorem State.portReset_fire_eq {s : State} {p : Port} (sound : s.fire.status = .countdown → s.fire.hold = false) :
    (s.portReset p).fire =
      if p = .site ∧ s.fire.siteHold = true then
        if s.fire.status = .held ∧ s.fire.holdSample = false then
          { s.fire with
            siteHold := false, status := .countdown, countdown := .running s.config.releaseDelay }
        else { s.fire with siteHold := false }
      else s.fire := by
  rw [State.portReset_fire, FireControl.dropSiteHold_eq _ _ sound]
  by_cases site : p = .site
  · cases held : s.fire.siteHold <;> simp [site]
  · simp [site]

theorem State.portReset_eq {s : State} {p : Port} (sound : s.fire.status = .countdown → s.fire.hold = false) :
    s.portReset p =
      { s with
        ports := s.ports.set p (s.ports.get p).portReset,
        slots := (s.releasePort p).slots, stack := (s.releasePort p).stack,
        fire :=
          if p = .site ∧ s.fire.siteHold = true then
            if s.fire.status = .held ∧ s.fire.holdSample = false then
              { s.fire with
                siteHold := false, status := .countdown, countdown := .running s.config.releaseDelay }
            else { s.fire with siteHold := false }
          else s.fire } := by
  have shape : s.portReset p =
      { s with
        ports := s.ports.set p (s.ports.get p).portReset,
        slots := (s.releasePort p).slots, stack := (s.releasePort p).stack, fire := (s.portReset p).fire } := by
    unfold State.portReset
    split <;> rfl
  exact shape.trans (congrArg (fun f => ({ s with
    ports := s.ports.set p (s.ports.get p).portReset,
    slots := (s.releasePort p).slots, stack := (s.releasePort p).stack, fire := f } : State))
      (State.portReset_fire_eq sound))

/-- A port reset that is taken is one event of the part. -/
theorem exec_portReset_taken {s : State} {p : Port} (running : s.resetHeld = false)
    (mark : (s.ports.get p).lineDetector ≠ .waitingForMark) :
    exec (.portReset p) s = .next (State.settle s .ifChanged (Change.quiet (s.portReset p))) := by
  change Host.Outcome.next (s.running _) = _
  rw [State.running_of s running, if_neg mark]
  rfl

/-- Settles O11: the eight steps are one event (`State.portReset_eq`), and an entry that goes is published. -/
theorem portResetClearsThePort : Obligations.PortResetClearsThePort := by
  refine fun s p running => ⟨fun waits => ?waits, fun mark sound => ?resets⟩
  case waits =>
    change Host.Outcome.next (s.running _) = _
    rw [State.running_of s running, if_pos waits]
  case resets =>
    have leaves := State.settle_quiet s .ifChanged (s.portReset p)
    refine ⟨_, exec_portReset_taken running mark, ?_, fun gone => ?_⟩
    · have shape := State.portReset_eq (p := p) sound
      rw [s.releasePort_eq p] at shape
      exact shape ▸ leaves
    · have changed : s.inputs ≠ (State.settle s .ifChanged (Change.quiet (s.portReset p))).inputs :=
        fun same => gone (congrArg Inputs.entries same).symm
      rw [State.settle_changed changed]
      refine ⟨rfl, ?_⟩
      change (s.portReset p).envelope.publicationNumber + 1 = _
      simp only [State.portReset_keeps]

end Sys2Proof.Machine
end

section
/-! The records that the masters read, byte by byte, and the requests that read them (section 9.3, R188, R190, R192). -/

namespace Sys2Proof.Machine

/-! ### Fields (R188) -/

theorem byte4_eq (n : Nat) :
    byte4 n =
      [BitVec.ofNat 8 (n / 16777216), BitVec.ofNat 8 (n / 65536), BitVec.ofNat 8 (n / 256), BitVec.ofNat 8 n] := by
  have high : n / 65536 / 256 = n / 16777216 := Nat.div_div_eq_div_mul n 65536 256
  have third : BitVec.ofNat 8 (n % 65536 / 256) = BitVec.ofNat 8 (n / 256) := by
    apply BitVec.eq_of_toNat_eq
    rw [BitVec.toNat_ofNat, BitVec.toNat_ofNat]
    omega
  have last : BitVec.ofNat 8 (n % 65536) = BitVec.ofNat 8 n := by
    apply BitVec.eq_of_toNat_eq
    rw [BitVec.toNat_ofNat, BitVec.toNat_ofNat]
    omega
  rw [byte4, byte2, byte2, high, third, last]
  rfl

@[simp] theorem byte1_length (n : Nat) : (byte1 n).length = 1 := rfl

@[simp] theorem byte2_length (n : Nat) : (byte2 n).length = 2 := rfl

@[simp] theorem byte4_length (n : Nat) : (byte4 n).length = 4 := rfl

@[simp] theorem opt1_length (x : Option Nat) : (opt1 x).length = 1 := by cases x <;> rfl

@[simp] theorem opt2_length (x : Option Nat) : (opt2 x).length = 2 := by cases x <;> rfl

@[simp] theorem opt4_length (x : Option Nat) : (opt4 x).length = 4 := by cases x <;> rfl

theorem byte1_setCode (members : List Bool) : byte1 (setCode members) = [BitVec.ofNat 8 (maskIn members)] := by
  rw [setCode_eq_maskIn]
  rfl

theorem byte1_boolCode (b : Bool) : byte1 (boolCode b) = [if b then 1 else 0] := by cases b <;> rfl

theorem byte1_twos (i : Int) : byte1 (twos 8 i) = [BitVec.ofInt 8 i] := by
  rw [twos_eq_toNat, byte1, BitVec.ofNat_toNat, BitVec.setWidth_eq]

theorem byte1_of_position {α : Type} [DecidableEq α] {members : List α} {x : α} {code : Nat}
    (position : code = members.idxOf x) : byte1 code = [codeIn members x] := position ▸ byte1_idxOf members x

/-! ### Codes by position (R190) -/

theorem portCode_eq_idxOf (x : Port) : portCode x = [Port.conv, .site, .util].idxOf x := by cases x <;> rfl

theorem sweepModeCode_eq_idxOf (x : SweepMode) :
    sweepModeCode x = [SweepMode.stopped, .continuous, .single].idxOf x := by cases x <;> rfl

theorem itemStateCode_eq_idxOf (x : ItemState) :
    itemStateCode x = [ItemState.known, .stale, .unknown, .openSensor].idxOf x := by cases x <;> rfl

theorem monitorStateCode_eq_idxOf (x : MonitorState) :
    monitorStateCode x = [MonitorState.unconfigured, .present, .missing, .absent].idxOf x := by cases x <;> rfl

theorem detectorKindCode_eq_idxOf (x : DetectorKind) :
    detectorKindCode x = [DetectorKind.none, .offgas, .smoke, .heat, .manual].idxOf x := by cases x <;> rfl

theorem dutyCode_eq_idxOf (x : DutyChannel) :
    dutyCode x = [DutyChannel.fanA, .fanB, .pump, .exhaust, .heater].idxOf x := by cases x <;> rfl

theorem modeCode_eq_idxOf (x : ChannelMode) : modeCode x = [ChannelMode.auto, .manual].idxOf x := by cases x <;> rfl

theorem originCode_eq_idxOf (x : Origin) : originCode x = [Origin.direct, .watch, .fallback].idxOf x := by
  cases x <;> rfl

theorem quantityCode_eq_idxOf (x : Quantity) :
    quantityCode x = [Quantity.cellV, .cellT, .stringI, .dcLinkV, .detector].idxOf x := by cases x <;> rfl

theorem comparisonCode_eq_idxOf (x : Comparison) : comparisonCode x = [Comparison.ge, .lt].idxOf x := by
  cases x <;> rfl

theorem actionCode_eq_idxOf (x : WatchAction) :
    actionCode x = [WatchAction.notifyRise, .notifyBoth, .curtail].idxOf x := by cases x <;> rfl

theorem publicationCode_eq_idxOf (x : PublicationKind) :
    publicationCode x = [PublicationKind.sweep, .change].idxOf x := by cases x <;> rfl

theorem byte1_ownerCode (o : Owner) : byte1 (ownerCode o) = [ownerByte o] := by
  cases o with
  | port p => exact byte1_of_position (portCode_eq_idxOf p)
  | slot k => rfl

/-- The four bytes of a connection state (R155, R190). -/
theorem statusConnection_eq (c : Connection) :
    byte1 (connectionCode c) ++ (opt1 c.kindCode ++ (opt1 c.phaseCode ++ opt1 (c.lockCause.map lockCauseCode))) =
      [(connectionBytes c).state, (connectionBytes c).kind, (connectionBytes c).phase, (connectionBytes c).cause] := by
  cases c with
  | opened | closing | closed => rfl
  | precharging phase => cases phase <;> rfl
  | lockedOut cause => cases cause <;> rfl
  | opening kind phase =>
    cases kind with
    | normal | abort => cases phase <;> rfl
    | emergency cause _ => cases cause <;> cases phase <;> rfl

/-! ### The status and envelope records (R171, R192) -/

theorem State.statusRecord_length (s : State) : s.statusRecord.length = 25 := by
  unfold State.statusRecord
  simp only [List.length_append, byte1_length, byte2_length, byte4_length, opt1_length]

theorem governingBytes_length (g : Option Governing) : (governingBytes g).length = 2 := by cases g <;> rfl

theorem EnvelopeRecord.bytes_length (r : EnvelopeRecord) : r.bytes.length = 25 := by
  simp [EnvelopeRecord.bytes, governingBytes_length]

theorem reconnectSeconds_eq (config : ConfigSet) (t : Timer) :
    reconnectSeconds config t =
      match t with
      | .stopped => config.reconnectDelay / 1000000
      | .running n | .paused n => (n + 999999) / 1000000
      | .runOut => 0 := by
  cases t with
  | stopped => exact (Nat.mul_div_cancel _ (by decide)).symm
  | running n | paused n | runOut => rfl

theorem State.uptime_toNat (s : State) : s.uptime.toNat = s.clock / 1000000 % 4294967296 := by
  rw [State.uptime, BitVec.toNat_ofNat]
  rfl

theorem State.statusRecord_eq (s : State) :
    s.statusRecord =
      [if s.config.configured then 1 else 0, codeIn [.stopped, .continuous, .single] s.chain.mode] ++
      byte2 s.table.sweepNumber.toNat ++
      [BitVec.ofNat 8
         (maskIn [s.table.dataLoss.absentMonitor, s.table.dataLoss.noTemperature, s.table.dataLoss.aged]),
        (connectionBytes s.conn.connection).state, (connectionBytes s.conn.connection).kind,
        (connectionBytes s.conn.connection).phase, (connectionBytes s.conn.connection).cause,
        codeIn [.granted, .lapsed, .withdrawn] s.conn.permit,
        BitVec.ofNat 8
          (maskIn [s.conn.linePresent && !s.conn.convNotice && !s.conn.utilNotice, s.conn.linePresent,
            s.conn.convNotice, s.conn.utilNotice])] ++
      byte2 (reconnectSeconds s.config s.conn.reconnect) ++
      [if s.conn.acPermission then 1 else 0,
        codeIn [.quiet, .watch, .alarm, .countdown, .held, .released] s.fire.status,
        BitVec.ofNat 8
          (maskIn [s.fire.causes.offgas, s.fire.causes.smoke, s.fire.causes.heat, s.fire.causes.manual,
            s.fire.causes.panel]),
        if s.fire.holdSample || s.fire.siteHold then 1 else 0, if s.fire.impaired then 1 else 0,
        codeIn [.normal, .degraded, .lost] s.thermal.cooling, if s.thermal.damperOpen then 1 else 0,
        BitVec.ofNat 8 s.stack.entries.length] ++
      byte4 (s.clock / 1000000 % 4294967296) := by
  have connection (rest : List Byte) := congrArg (· ++ rest) (statusConnection_eq s.conn.connection)
  simp only [List.append_assoc, List.cons_append, List.nil_append] at connection
  unfold State.statusRecord
  rw [State.uptime_toNat]
  simp only [ConnectionControl.gridFlags, byte1_boolCode, byte1_setCode, connection,
    byte1_of_position (sweepModeCode_eq_idxOf _), byte1_of_position (permitCode_eq_idxOf _),
    byte1_of_position (fireCode_eq_idxOf _), byte1_of_position (coolingCode_eq_idxOf _), List.append_assoc,
    List.cons_append, List.nil_append]
  rfl

end Sys2Proof.Machine
end

section
/-! READ_STATUS, READ_ENVELOPE and SET_CURSOR, with their two records (R169, R171, R192). -/

namespace Sys2Proof.Machine

theorem governingBytes_eq (g : Option Governing) :
    governingBytes g =
      match g with
      | none => [0x00, 0xFF]
      | some e => [BitVec.ofNat 8 e.handle, ownerByte e.owner] := by
  cases g with
  | none => rfl
  | some e =>
    rw [governingBytes, byte1_ownerCode]
    rfl

theorem EnvelopeRecord.bytes_eq (r : EnvelopeRecord) :
    r.bytes =
      byte2 r.chargeLimit ++ byte2 r.dischargeLimit ++ byte2 r.chargePower ++ byte2 r.dischargePower ++
      byte4 r.vsum ++ byte2 (maskIn r.chargeSet.members) ++ byte2 (maskIn r.dischargeSet.members) ++
      governingBytes r.chargeGoverning ++ governingBytes r.dischargeGoverning ++ byte2 r.number.toNat ++
      [codeIn [.sweep, .change] r.kind] ++ byte2 r.sweepNumber.toNat := by
  rw [EnvelopeRecord.bytes, setCode_eq_maskIn, setCode_eq_maskIn, byte1_of_position (publicationCode_eq_idxOf _)]

/-- The cursor may stand below the number of records of a bank that there is (R169). -/
theorem cursorValid_iff (bank index : Nat) :
    cursorValid bank index = true ↔ ∃ size, [3, 384, 128, 33, 16, 8, 8, 6][bank]? = some size ∧ index < size := by
  rw [cursorValid, Bool.and_eq_true, decide_eq_true_iff, decide_eq_true_iff, bankSize]
  constructor
  · rintro ⟨within, below⟩
    have found : bank < [3, 384, 128, 33, 16, 8, 8, 6].length := Nat.lt_succ_of_le within
    refine ⟨_, List.getElem?_eq_getElem found, ?_⟩
    rwa [List.getD_eq_getElem _ _ found] at below
  · rintro ⟨size, found, below⟩
    refine ⟨Nat.le_of_lt_succ (List.getElem?_eq_some_iff.1 found).1, ?_⟩
    rwa [List.getD_eq_getElem?_getD, found]

theorem answerSetCursor_refuses {bank high low : Byte}
    (outside : ∀ size, [3, 384, 128, 33, 16, 8, 8, 6][bank.toNat]? = some size → size ≤ high.toNat * 256 + low.toNat)
    (q : PortState) (s : State) : answerSetCursor [bank, high, low] q s = refuse .range q :=
  if_neg fun valid => by
    obtain ⟨size, found, below⟩ := (cursorValid_iff bank.toNat (high.toNat * 256 + low.toNat)).1 valid
    exact (outside size found).not_gt below

theorem answerSetCursor_moves {bank high low : Byte} {size : Nat}
    (found : [3, 384, 128, 33, 16, 8, 8, 6][bank.toNat]? = some size) (below : high.toNat * 256 + low.toNat < size)
    (q : PortState) (s : State) :
    answerSetCursor [bank, high, low] q s =
      .atPort .ok [] { q with cursorBank := bank.toNat, cursorIndex := high.toNat * 256 + low.toNat } :=
  if_pos ((cursorValid_iff bank.toNat (high.toNat * 256 + low.toNat)).2 ⟨size, found, below⟩)

/-- Settles O12: each request is answered at its port alone, and each record is rewritten field by field to the layout
of R192. -/
theorem readRequestsAndTheCursor : Obligations.ReadRequestsAndTheCursor := by
  refine ⟨fun s p => ⟨fun taken => ⟨?status, s.statusRecord_length⟩,
      fun taken => ⟨?envelope, s.envelope.record.bytes_length⟩⟩,
    fun s p bank high low taken => ⟨fun outside => ?refused, fun size found below => ?moved⟩,
    fun n => ⟨rfl, rfl, byte4_eq n, rfl, rfl, rfl, rfl, rfl, rfl⟩, fun s => ?statusBytes, fun r => ?envelopeBytes⟩
  case status =>
    exact congrArg Host.Outcome.next
      (taken.refused (act := fun _ q s => .atPort .ok s.statusRecord q) rfl)
  case envelope =>
    exact congrArg Host.Outcome.next
      (taken.refused (act := fun _ q s => .atPort .ok s.envelope.record.bytes q) rfl)
  case refused => exact congrArg Host.Outcome.next (taken.refused (answerSetCursor_refuses outside _ _))
  case moved => exact congrArg Host.Outcome.next (taken.atPort (answerSetCursor_moves found below _ _))
  case statusBytes =>
    exact s.statusRecord_eq.trans (congrArg (fun seconds => _ ++ byte2 seconds ++ _ ++ _)
      (reconnectSeconds_eq s.config s.conn.reconnect))
  case envelopeBytes =>
    exact r.bytes_eq.trans (congrArg₂ (fun charge discharge => _ ++ charge ++ discharge ++ _ ++ _ ++ _)
      (governingBytes_eq r.chargeGoverning) (governingBytes_eq r.dischargeGoverning))

end Sys2Proof.Machine
end

section
/-! READ_NEXT, and the records of every bank (R84, R112, R138, R170, R192). -/

namespace Sys2Proof.Machine

/-! ### The answer (R170) -/

theorem answerReadNext_refuses {count : Byte} (outside : count.toNat = 0 ∨ 16 < count.toNat) (p : Port)
    (q : PortState) (s : State) : answerReadNext p [count] q s = refuse .range q :=
  if_neg (Bool.eq_false_iff.1 (oneToSixteen_eq_false outside))

theorem answerReadNext_reads {count : Byte} (lower : 1 ≤ count.toNat) (upper : count.toNat ≤ 16) (p : Port)
    (q : PortState) (s : State) :
    answerReadNext p [count] q s =
      .records (s.readBody p q.cursorBank q.cursorIndex count.toNat)
        { q with cursorIndex := indexAfter q.cursorBank q.cursorIndex count.toNat } :=
  if_pos ((oneToSixteen_iff _).2 ⟨lower, upper⟩)

/-- An answer with records counts the read and is placed at its port (R170; log entry 4). -/
theorem State.answer_records (s : State) (p : Port) (kind : Byte) (b : List Byte) (q : PortState) :
    (s.setPort p (s.ports.get p).taken).answer p kind (.records b q) =
      { s with freeReads := s.freeReads + 1 }.setPort p (q.place (responseFrame (responseKind kind) .ok b)) := by
  have last : ∀ (x : Ports PortState) (a c d : PortState), (((x.set p a).set p c).set p d) = x.set p d := by
    intro x a c d
    cases p <;> rfl
  simp only [State.answer, State.respond, State.setPort, Ports.get_set, if_true, last]

/-- A read that takes a count from 1 to 16 returns the records from the cursor, and moves it. -/
theorem Takes.readNext {s : State} {p : Port} {count : Byte} (taken : Takes s p .readNext [count])
    (lower : 1 ≤ count.toNat) (upper : count.toNat ≤ 16) :
    exec (.readNext p) s =
      .next ({ s with freeReads := s.freeReads + 1 }.setPort p
        (PortState.place
          { (s.ports.get p).taken with
            cursorIndex := indexAfter (s.ports.get p).cursorBank (s.ports.get p).cursorIndex count.toNat }
          (responseFrame 0x93 .ok
            (s.readBody p (s.ports.get p).cursorBank (s.ports.get p).cursorIndex count.toNat)))) := by
  refine congrArg Host.Outcome.next ?_
  rw [State.serve_takes taken, answerReadNext_reads lower upper]
  exact State.answer_records s p _ _ _

/-- Short of the bank's end the count asked for is returned, and the index advances by it. -/
theorem readBody_within {bank index n : Nat} (within : index + n < bankSize bank) (s : State) (p : Port) :
    indexAfter bank index n = index + n ∧
      s.readBody p bank index n =
        byte1 bank ++ byte2 index ++ byte1 n ++ [0x00] ++ byte2 s.table.sweepNumber.toNat ++
          (List.range n).flatMap fun k => s.recordBytes p bank (index + k) := by
  have returned : returnedCount bank index n = n := Nat.min_eq_left (by omega)
  have inside : reachesEnd bank index n = false := decide_eq_false (by omega)
  rw [indexAfter, State.readBody, inside, returned]
  exact ⟨rfl, rfl⟩

/-- At the bank's end the records that remain are returned with the END flag, and the index becomes 0. -/
theorem readBody_end {bank index n : Nat} (end_ : bankSize bank ≤ index + n) (s : State) (p : Port) :
    indexAfter bank index n = 0 ∧
      s.readBody p bank index n =
        byte1 bank ++ byte2 index ++ byte1 (bankSize bank - index) ++ [0x01] ++ byte2 s.table.sweepNumber.toNat ++
          (List.range (bankSize bank - index)).flatMap fun k => s.recordBytes p bank (index + k) := by
  have returned : returnedCount bank index n = bankSize bank - index := Nat.min_eq_right (by omega)
  have reached : reachesEnd bank index n = true := decide_eq_true end_
  rw [indexAfter, State.readBody, reached, returned]
  exact ⟨rfl, rfl⟩

/-! ### Lengths of the records (section 11.4) -/

@[simp] theorem voltageExtremeBytes_length (x : Option (Int × Nat)) : (voltageExtremeBytes x).length = 4 := by
  simp [voltageExtremeBytes]

@[simp] theorem temperatureExtremeBytes_length (x : Option (Int × Nat)) :
    (temperatureExtremeBytes x).length = 2 := by cases x <;> rfl

theorem CellTable.aggregatesRecord_length (t : CellTable) : t.aggregatesRecord.length = 26 := by
  unfold CellTable.aggregatesRecord
  simp only [List.length_append, voltageExtremeBytes_length, temperatureExtremeBytes_length, byte1_length,
    byte2_length, byte4_length]

theorem CellRecord.bytes_length (r : CellRecord) : r.bytes.length = 4 := rfl

theorem PointRecord.bytes_length (r : PointRecord) : r.bytes.length = 3 := rfl

theorem monitorBytes_length (reads address : Nat) (r : MonitorRecord) : (monitorBytes reads address r).length = 6 := by
  simp [monitorBytes]

theorem detectorBytes_length (kind : DetectorKind) (d : Detector) : (detectorBytes kind d).length = 6 := by
  simp [detectorBytes]

theorem StackState.positionBytes_length (st : StackState) (i : Nat) : (st.positionBytes i).length = 11 := by
  unfold StackState.positionBytes
  cases st.entries[i]? with
  | none => rfl
  | some e => simp [Entry.bytes]

theorem slotBytes_length (slots : List (Option Claim)) (reader : Port) (k : Nat) :
    (slotBytes slots reader k).length = 16 := by
  unfold slotBytes
  cases slots.getD k none with
  | none => rfl
  | some c =>
    by_cases owned : c.owner = reader
    · simp [owned, claimBytes]
    · simp [owned]

theorem tachBytes_length (t : Option TachRecord) : (tachBytes t).length = 6 := by simp [tachBytes]

theorem ThermalState.outputBytes_length (t : ThermalState) (i : Nat) : (t.outputBytes i).length = 24 := by
  unfold ThermalState.outputBytes
  cases dutyOfCode i with
  | none => simp [ThermalState.releaseBytes, tachBytes_length]
  | some c => simp [ThermalState.channelBytes, tachBytes_length]

/-- Every record of a bank is as long as section 11.4 lays it out; the aggregates are one byte longer than the two
records before them. -/
theorem State.recordBytes_length (s : State) (p : Port) {bank index : Nat} (known : bank ≤ 7)
    (within : index < bankSize bank) :
    (s.recordBytes p bank index).length =
      [25, 4, 3, 6, 6, 11, 16, 24].getD bank 0 + (if bank = 0 ∧ index = 2 then 1 else 0) := by
  match bank with
  | 0 =>
    match index with
    | 0 => exact s.statusRecord_length
    | 1 => exact s.envelope.record.bytes_length
    | 2 => exact s.table.aggregatesRecord_length
    | n + 3 => exact absurd within (by simp [bankSize])
  | 1 => exact (s.table.cells.getD index blankCell).bytes_length
  | 2 => exact (s.table.points.getD index blankPoint).bytes_length
  | 3 => exact monitorBytes_length _ _ _
  | 4 => exact detectorBytes_length _ _
  | 5 => exact s.stack.positionBytes_length index
  | 6 => exact slotBytes_length _ _ _
  | 7 => exact s.thermal.outputBytes_length index

/-! ### Layouts of the records (R192) -/

theorem voltageExtremeBytes_eq (x : Option (Int × Nat)) :
    voltageExtremeBytes x =
      match x with
      | none => [0xFF, 0xFF, 0xFF, 0xFF]
      | some (v, i) => byte2 v.toNat ++ byte2 i := by cases x <;> rfl

theorem temperatureExtremeBytes_eq (x : Option (Int × Nat)) :
    temperatureExtremeBytes x =
      match x with
      | none => [0x7F, 0xFF]
      | some (v, i) => [BitVec.ofInt 8 v, BitVec.ofNat 8 i] := by
  cases x with
  | none => rfl
  | some y =>
    obtain ⟨v, i⟩ := y
    rw [temperatureExtremeBytes, byte1_twos]
    rfl

theorem CellRecord.bytes_eq (r : CellRecord) :
    r.bytes =
      byte2 r.voltage ++
        [codeIn [.known, .stale, .unknown, .openSensor] r.state,
          BitVec.ofNat 8 (maskIn [r.saturated, r.bleeding])] := by
  rw [CellRecord.bytes, byte1_of_position (itemStateCode_eq_idxOf _), byte1_setCode]
  rfl

theorem PointRecord.bytes_eq (r : PointRecord) :
    r.bytes =
      [BitVec.ofInt 8 r.temperature, codeIn [.known, .stale, .unknown, .openSensor] r.state,
        BitVec.ofNat 8 (maskIn [r.clamped])] := by
  rw [PointRecord.bytes, byte1_twos, byte1_of_position (itemStateCode_eq_idxOf _), byte1_setCode]
  rfl

/-- The error byte of a monitor record: FFh without one (R190). -/
theorem opt1_errorCode (x : Option ErrorKind) :
    opt1 (x.map errorCode) =
      [match x with
        | none => 0xFF
        | some e => codeIn [.timeout, .framing, .check, .address, .monitorFault] e] := by
  cases x with
  | none => rfl
  | some e => exact byte1_of_position (errorCode_eq_idxOf e)

theorem monitorBytes_eq (reads address : Nat) (r : MonitorRecord) :
    monitorBytes reads address r =
      [codeIn [.unconfigured, .present, .missing, .absent] r.state, BitVec.ofNat 8 r.missCount,
        match r.lastError with
        | none => 0xFF
        | some e => codeIn [.timeout, .framing, .check, .address, .monitorFault] e,
        if r.lastGood = none then 0 else 1] ++
      byte2 (r.lastGood.getD (Config.absentSweepBytes reads address)).toNat := by
  have presence : byte1 (setCode [r.lastGood.isSome]) = [if r.lastGood = none then 0 else 1] := by
    cases r.lastGood <;> rfl
  rw [monitorBytes, byte1_of_position (monitorStateCode_eq_idxOf _), opt1_errorCode, presence]
  rfl

theorem detectorBytes_eq (kind : DetectorKind) (d : Detector) :
    detectorBytes kind d =
      [codeIn [.none, .offgas, .smoke, .heat, .manual] kind, if d.disablement = none then 0 else 1] ++
      opt2 (d.disablement.map secondsUp) ++
      [BitVec.ofNat 8 d.level, codeIn [.normal, .pre, .alarm, .fault, .disabled] d.state] := by
  have running : byte1 (setCode [d.disablement.isSome]) = [if d.disablement = none then 0 else 1] := by
    cases d.disablement <;> rfl
  rw [detectorBytes, byte1_of_position (detectorKindCode_eq_idxOf _),
    byte1_of_position (detectorStateCode_eq_idxOf _), running, List.append_assoc (_ ++ _ ++ _)]
  rfl

theorem Entry.bytes_eq (e : Entry) :
    e.bytes =
      [BitVec.ofNat 8 e.handle, ownerByte e.owner, codeIn [.direct, .watch, .fallback] e.origin] ++
      opt2 e.chargeCap ++ opt2 e.dischargeCap ++ opt4 (e.remaining.map secondsUp) := by
  rw [Entry.bytes, byte1_ownerCode, byte1_of_position (originCode_eq_idxOf _)]
  rfl

theorem claimBytes_eq (chained : Bool) (c : Claim) :
    claimBytes chained c =
      [1, codeIn [.cellV, .cellT, .stringI, .dcLinkV, .detector] c.spec.quantity] ++
      byte2 c.spec.first ++ byte2 c.spec.last ++ [codeIn [.ge, .lt] c.spec.comparison] ++
      byte2 (BitVec.ofInt 16 c.spec.threshold).toNat ++
      [codeIn [.notifyRise, .notifyBoth, .curtail] c.spec.action] ++ opt2 c.spec.chargeCap ++
      opt2 c.spec.dischargeCap ++
      [BitVec.ofNat 8 (maskIn [c.spec.chain, c.condition, c.starved, chained]), BitVec.ofNat 8 (c.entry.getD 0)] := by
  rw [claimBytes, byte1_of_position (quantityCode_eq_idxOf _), byte1_of_position (comparisonCode_eq_idxOf _),
    byte1_of_position (actionCode_eq_idxOf _), byte1_setCode, twos_eq_toNat, List.append_assoc _ [_] (byte1 _)]
  rfl

/-- The seconds left to a timer, rounded up; FFh for one that has no time left (R112). -/
theorem opt1_timer (t : Timer) :
    opt1 (t.left.map secondsUp) =
      match t with
      | .running n | .paused n => byte1 ((n + 999999) / 1000000)
      | .stopped | .runOut => [0xFF] := by cases t <;> rfl

theorem tachBytes_some (x : TachRecord) :
    tachBytes (some x) =
      [codeIn [.healthy, .faulted, .trying, .latched] x.check, BitVec.ofNat 8 x.retries] ++ byte2 x.rate ++
        opt1 (x.grace.left.map secondsUp) ++ opt1 (x.retry.left.map secondsUp) := by
  have check : opt1 (some (checkCode x.check)) = [codeIn [.healthy, .faulted, .trying, .latched] x.check] :=
    byte1_of_position (checkCode_eq_idxOf x.check)
  simp only [tachBytes, Option.map_some, Option.bind_some, check]
  rfl

theorem ThermalState.channelBytes_eq (t : ThermalState) (c : DutyChannel) :
    t.channelBytes c =
      [codeIn [.fanA, .fanB, .pump, .exhaust, .heater] c, codeIn [.auto, .manual] (t.channels.get c).mode,
        BitVec.ofNat 8
          (maskIn [t.pwm.centred.get c, t.pwm.activeLow.get c, decide (c = .heater) && t.heaterOn])] ++
      opt2 (t.channels.get c).manual ++ byte2 (t.channels.get c).automatic ++ opt2 (t.forcing.get c) ++
      byte2 (t.channels.get c).selected ++ byte2 (t.channels.get c).shadow ++ byte2 (t.channels.get c).active ++
      tachBytes (t.tachOf c) ++ [0xFF, 0xFF, 0x00] := by
  simp only [ThermalState.channelBytes, byte1_of_position (dutyCode_eq_idxOf _),
    byte1_of_position (modeCode_eq_idxOf _), byte1_setCode, List.append_assoc]
  rfl

theorem ThermalState.outputBytes_duty (t : ThermalState) (c : DutyChannel) :
    t.outputBytes ([DutyChannel.fanA, .fanB, .pump, .exhaust, .heater].idxOf c) = t.channelBytes c := by
  rw [ThermalState.outputBytes, ← dutyCode_eq_idxOf, dutyOfCode_dutyCode]

/-- The milliseconds left to a running pulse (R112; log entry 33). -/
theorem ThermalState.opt2_pulseLeft (t : ThermalState) :
    opt2 t.pulseLeft =
      match t.releasePulse with
      | .running n => byte2 ((n + 999) / 1000)
      | .stopped | .paused _ | .runOut => [0xFF, 0xFF] := by
  unfold ThermalState.pulseLeft
  cases t.releasePulse <;> rfl

theorem ThermalState.releaseBytes_eq (t : ThermalState) :
    t.releaseBytes =
      [0x05, 0xFF, BitVec.ofNat 8 (maskIn [false, t.pwm.releaseActiveLow, false, t.releasePulse.isRunning])] ++
      List.replicate 18 0xFF ++ opt2 t.pulseLeft ++ [0x00] := by
  rw [ThermalState.releaseBytes, byte1_setCode]
  rfl

/-- A reader's own slot is told in full, and another port's as taken (R84). -/
theorem slotBytes_claimed {s : State} {k : Nat} {c : Claim} (claimed : s.claim k = some c) (p : Port) :
    slotBytes s.slots p k =
      if c.owner = p then claimBytes (chainedFromAbove s.slots k) c else 2 :: List.replicate 15 0 := by
  rw [slotBytes, show s.slots.getD k none = some c from claimed]
  rfl

/-- Settles O13: the answer reads the bank from the cursor, within it or to its end, and each bank's record is rewritten
field by field to the layout of R192. -/
theorem readNextReturnsRecords : Obligations.ReadNextReturnsRecords := by
  refine ⟨fun s p count taken => ⟨fun outside => ?refused, fun lower upper within => ?within,
      fun lower upper _ end_ => ?atEnd⟩,
    fun s p bank index known within => s.recordBytes_length p known within,
    fun s p => ⟨rfl, rfl, ?aggregates, fun i r held => ?cell, fun i r held => ?point, fun i r held => ?monitor,
      fun i => ?detector, fun i e held => ?entry, fun i above => ?noEntry, fun k free => ?freeSlot,
      fun k c claimed => ⟨fun other => ?otherSlot, fun own chained chains => ?ownSlot⟩, fun c => ?channel, ?release⟩⟩
  case refused => exact congrArg Host.Outcome.next (taken.refused (answerReadNext_refuses outside _ _ _))
  case within =>
    obtain ⟨index, body⟩ := readBody_within within s p
    rw [taken.readNext lower upper, index, body]
  case atEnd =>
    obtain ⟨index, body⟩ := readBody_end end_ s p
    rw [taken.readNext lower upper, index, body]
  case aggregates =>
    change s.table.aggregatesRecord = _
    rw [CellTable.aggregatesRecord]
    simp only [voltageExtremeBytes_eq, temperatureExtremeBytes_eq, byte1_setCode, List.append_assoc]
    rfl
  case cell =>
    rw [State.recordBytes, List.getD_eq_getElem?_getD, held]
    exact r.bytes_eq
  case point =>
    rw [State.recordBytes, List.getD_eq_getElem?_getD, held]
    exact r.bytes_eq
  case monitor =>
    rw [State.recordBytes, recordAt, List.getD_eq_getElem?_getD, held, Option.getD_some, monitorBytes_eq]
    refine ⟨rfl, fun n good => ?_⟩
    rw [good]
    rfl
  case detector => exact detectorBytes_eq _ _
  case entry =>
    rw [State.recordBytes, StackState.positionBytes, held]
    exact e.bytes_eq
  case noEntry =>
    rw [State.recordBytes, StackState.positionBytes, List.getElem?_eq_none above]
  case freeSlot =>
    rw [State.recordBytes, slotBytes, show s.slots.getD k none = none from free]
    rfl
  case otherSlot => exact (slotBytes_claimed claimed p).trans (if_neg other)
  case ownSlot =>
    have same : chainedFromAbove s.slots k = chained :=
      Bool.eq_iff_iff.2 ((chainedFromAbove_claim s k).trans chains.symm)
    refine ((slotBytes_claimed claimed p).trans (if_pos own)).trans ?_
    rw [same, claimBytes_eq]
  case channel =>
    refine (s.thermal.outputBytes_duty c).trans ((s.thermal.channelBytes_eq c).trans ?_)
    cases c with
    | fanA | fanB | pump =>
      exact congrArg (· ++ [0xFF, 0xFF, 0x00]) (congrArg (_ ++ ·)
        ((tachBytes_some _).trans (congrArg₂ (fun grace retry => _ ++ grace ++ retry) (opt1_timer _) (opt1_timer _))))
    | exhaust | heater => rfl
  case release =>
    exact s.thermal.releaseBytes_eq.trans
      (congrArg (· ++ [0x00]) (congrArg (_ ++ ·) s.thermal.opt2_pulseLeft))

end Sys2Proof.Machine
end

section
/-! The events that report a change are those whose state the event has changed: the membership of each list of such
events, and the settling of an event (R34, R36, R61, R110, R124, R137, R156, R158, R161). -/

namespace Sys2Proof.Machine

/-! ### Each list of events -/

@[simp] theorem broadcast_inj (e f : Event) : broadcast e = broadcast f ↔ e = f := by simp [broadcast]

section
variable (r : Raised)

theorem mem_dataLossEvents (x y : DataLoss) :
    r ∈ dataLossEvents x y ↔
      r = broadcast (.dataLossBegin y) ∧ y.holds = true ∧ x.holds = false ∨
      r = broadcast .dataLossEnd ∧ x.holds = true ∧ y.holds = false := by
  unfold dataLossEvents
  cases x.holds <;> cases y.holds <;> simp

theorem mem_hardLimitEvents (x y : HardLimits) : r ∈ hardLimitEvents x y ↔ r = broadcast (.hardLimit y) ∧ x ≠ y := by
  unfold hardLimitEvents
  split <;> simp_all

theorem mem_detectorEvents (x y : FireControl) :
    r ∈ detectorEvents x y ↔
      ∃ i < 16, r = broadcast (.detectorState i (y.detector i).state) ∧
        (x.detector i).state ≠ (y.detector i).state := by
  unfold detectorEvents
  rw [List.mem_flatMap]
  refine exists_congr fun i => ?_
  rw [List.mem_range]
  split <;> simp_all

theorem mem_fireEvents (x y : FireControl) :
    r ∈ fireEvents x y ↔
      r = broadcast (.fireState y.status y.causes) ∧ (x.status ≠ y.status ∨ x.causes ≠ y.causes) := by
  unfold fireEvents
  rw [← not_and_or]
  split <;> simp_all

theorem mem_coolingEvents (x y : CoolingState) :
    r ∈ coolingEvents x y ↔ r = broadcast (.coolingState y) ∧ x ≠ y := by
  unfold coolingEvents
  split <;> simp_all

theorem mem_permitEvents (x y : PermitState) : r ∈ permitEvents x y ↔ r = broadcast (.permitState y) ∧ x ≠ y := by
  unfold permitEvents
  split <;> simp_all

theorem mem_gridEvents (x y : ConnectionControl) :
    r ∈ gridEvents x y ↔
      r = broadcast (.gridState y.gridPresent y.linePresent y.convNotice y.utilNotice) ∧
        (x.linePresent ≠ y.linePresent ∨ x.convNotice ≠ y.convNotice ∨ x.utilNotice ≠ y.utilNotice) := by
  unfold gridEvents
  rw [← not_and_or, ← not_and_or]
  split <;> simp_all

theorem mem_permissionEvents (x y : Bool) : r ∈ permissionEvents x y ↔ r = broadcast (.acPermission y) ∧ x ≠ y := by
  unfold permissionEvents
  split <;> simp_all

/-- The fall of a charge limit between two records (R61). -/
def EnvelopeRecord.chargeFell (c : ConfigSet) (x y : EnvelopeRecord) : Bool :=
  limitFell c.fallMargin x.chargeLimit y.chargeLimit

/-- The fall of a discharge limit between two records (R61). -/
def EnvelopeRecord.dischargeFell (c : ConfigSet) (x y : EnvelopeRecord) : Bool :=
  limitFell c.fallMargin x.dischargeLimit y.dischargeLimit

theorem mem_fellEvents (c : ConfigSet) (x y : EnvelopeRecord) :
    r ∈ fellEvents c x y ↔
      r = broadcast (.envelopeFell (x.chargeFell c y) (x.dischargeFell c y)) ∧
        (x.chargeFell c y = true ∨ x.dischargeFell c y = true) := by
  unfold fellEvents EnvelopeRecord.chargeFell EnvelopeRecord.dischargeFell
  cases limitFell c.fallMargin x.chargeLimit y.chargeLimit <;>
    cases limitFell c.fallMargin x.dischargeLimit y.dischargeLimit <;> simp

end

/-! ### All of them -/

/-- The events that report a difference between two states. -/
def reportedEvents (before after : State) : List Raised :=
  differenceEvents before after ++ fellEvents after.config before.envelope.record after.envelope.record

theorem limitFell_self (margin n : Nat) : limitFell margin n n = false := by
  rw [Bool.eq_false_iff, Ne, limitFell_iff, LimitFell]
  omega

/-- Without a publication no limit has fallen. -/
theorem publicationEvents_eq_fell {due : Option PublicationKind} {before after : State}
    (kept : due = none → after.envelope = before.envelope) :
    publicationEvents due before after = fellEvents after.config before.envelope.record after.envelope.record := by
  cases due with
  | some kind => rfl
  | none =>
    rw [kept rfl]
    unfold fellEvents
    simp [limitFell_self, publicationEvents]

theorem mem_reportedEvents {before after : State} {r : Raised} :
    r ∈ reportedEvents before after ↔
      r ∈ dataLossEvents before.table.dataLoss after.table.dataLoss ∨
      r ∈ hardLimitEvents before.table.hardLimits after.table.hardLimits ∨
      r ∈ detectorEvents before.fire after.fire ∨ r ∈ fireEvents before.fire after.fire ∨
      r ∈ coolingEvents before.thermal.cooling after.thermal.cooling ∨
      r ∈ permitEvents before.conn.permit after.conn.permit ∨ r ∈ gridEvents before.conn after.conn ∨
      r ∈ permissionEvents before.conn.acPermission after.conn.acPermission ∨
      r ∈ fellEvents after.config before.envelope.record after.envelope.record := by
  simp only [reportedEvents, differenceEvents, List.mem_append, or_assoc]

/-- The block and the place of an event as one number (R172). -/
def Raised.rank (r : Raised) : Nat := 10 * r.event.block + r.event.place

/-- A list of events of one rank, none of them twice. -/
structure OfRank (l : List Raised) (n : Nat) : Prop where
  nodup : l.Nodup
  rank : ∀ r ∈ l, r.rank = n

/-- A list of events up to a rank, none of them twice. -/
structure UpToRank (l : List Raised) (n : Nat) : Prop where
  nodup : l.Nodup
  bound : ∀ r ∈ l, r.rank ≤ n

theorem UpToRank.append {l l' : List Raised} {n m : Nat} (low : UpToRank l n) (high : OfRank l' m) (above : n < m) :
    UpToRank (l ++ l') m where
  nodup := by
    refine List.nodup_append.2 ⟨low.nodup, high.nodup, fun a first b second same => ?_⟩
    have bound := low.bound a first
    have rank := high.rank b second
    rw [same] at bound
    omega
  bound := by
    intro r member
    obtain first | second := List.mem_append.1 member
    · exact (low.bound r first).trans above.le
    · exact (high.rank r second).le

/-- A list with at most one event is of the event's rank. -/
theorem OfRank.atMostOne {q : Prop} [Decidable q] (e : Event) :
    OfRank (if q then [] else [broadcast e]) (broadcast e).rank := by
  split
  · exact ⟨List.nodup_nil, by simp⟩
  · exact ⟨List.nodup_singleton _, by simp⟩

theorem dataLossEvents_rank (x y : DataLoss) : UpToRank (dataLossEvents x y) 30 := by
  unfold dataLossEvents
  split_ifs
  · exact ⟨List.nodup_singleton _, by simp [broadcast, Raised.rank, Event.block, Event.place]⟩
  · exact ⟨List.nodup_singleton _, by simp [broadcast, Raised.rank, Event.block, Event.place]⟩
  · exact ⟨List.nodup_nil, by simp⟩

/-- Several detectors of one event are told by their index. -/
theorem detectorEvents_rank (x y : FireControl) : OfRank (detectorEvents x y) 40 where
  nodup := by
    refine List.nodup_flatMap.2 ⟨fun i _ => (OfRank.atMostOne _).nodup, List.nodup_range.imp fun different => ?_⟩
    intro r first second
    dsimp only at first second
    split at first <;> split at second <;> simp_all
  rank := by
    intro r member
    obtain ⟨i, -, rfl, -⟩ := (mem_detectorEvents r x y).1 member
    rfl

theorem fellEvents_rank (c : ConfigSet) (x y : EnvelopeRecord) : OfRank (fellEvents c x y) 90 := by
  unfold fellEvents
  dsimp only
  split
  · exact ⟨List.nodup_singleton _, by simp [broadcast, Raised.rank, Event.block, Event.place]⟩
  · exact ⟨List.nodup_nil, by simp⟩

/-- No event stands twice among those that report a change: their lists stand in rising order of rank. -/
theorem reportedEvents_nodup (before after : State) : (reportedEvents before after).Nodup := by
  have hardLimits := (dataLossEvents_rank before.table.dataLoss after.table.dataLoss).append
    (OfRank.atMostOne (q := before.table.hardLimits = after.table.hardLimits) (.hardLimit after.table.hardLimits))
    (by change 30 < 31; decide)
  have detectors := hardLimits.append (detectorEvents_rank before.fire after.fire) (by change 31 < 40; decide)
  have fire := detectors.append
    (OfRank.atMostOne (q := before.fire.status = after.fire.status ∧ before.fire.causes = after.fire.causes)
      (.fireState after.fire.status after.fire.causes))
    (by change 40 < 41; decide)
  have cooling := fire.append
    (OfRank.atMostOne (q := before.thermal.cooling = after.thermal.cooling) (.coolingState after.thermal.cooling))
    (by change 41 < 51; decide)
  have permit := cooling.append
    (OfRank.atMostOne (q := before.conn.permit = after.conn.permit) (.permitState after.conn.permit))
    (by change 51 < 64; decide)
  have grid := permit.append
    (OfRank.atMostOne
      (q := before.conn.linePresent = after.conn.linePresent ∧ before.conn.convNotice = after.conn.convNotice ∧
        before.conn.utilNotice = after.conn.utilNotice)
      (.gridState after.conn.gridPresent after.conn.linePresent after.conn.convNotice after.conn.utilNotice))
    (by change 64 < 65; decide)
  have permission := grid.append
    (OfRank.atMostOne (q := before.conn.acPermission = after.conn.acPermission) (.acPermission after.conn.acPermission))
    (by change 65 < 66; decide)
  exact (permission.append (fellEvents_rank after.config before.envelope.record after.envelope.record)
    (by change 66 < 90; decide)).nodup

/-! ### The settling of an event -/

theorem reportedEvents_ownerless {before after : State} {r : Raised} (member : r ∈ reportedEvents before after) :
    r.owner = none := by
  rw [mem_reportedEvents] at member
  simp only [mem_dataLossEvents, mem_hardLimitEvents, mem_detectorEvents, mem_fireEvents, mem_coolingEvents,
    mem_permitEvents, mem_gridEvents, mem_permissionEvents, mem_fellEvents] at member
  obtain (⟨rfl, -⟩ | ⟨rfl, -⟩) | ⟨rfl, -⟩ | ⟨i, -, rfl, -⟩ | ⟨rfl, -⟩ | ⟨rfl, -⟩ | ⟨rfl, -⟩ | ⟨rfl, -⟩ | ⟨rfl, -⟩ |
    ⟨rfl, -⟩ := member <;> rfl

theorem reportedEvents_report {before after : State} {r : Raised} (member : r ∈ reportedEvents before after) :
    r.event.reportsChange = true := by
  obtain difference | fell := List.mem_append.1 member
  · exact differenceEvents_report _ _ r difference
  · exact publicationEvents_report (some .change) before after r fell

/-- Which events report the difference of two states, each with the new value. -/
def Event.ReportsDifference (before after : State) : Event → Prop
  | .dataLossBegin x =>
    x = after.table.dataLoss ∧ after.table.dataLoss.holds = true ∧ before.table.dataLoss.holds = false
  | .dataLossEnd => before.table.dataLoss.holds = true ∧ after.table.dataLoss.holds = false
  | .hardLimit x => x = after.table.hardLimits ∧ before.table.hardLimits ≠ after.table.hardLimits
  | .detectorState i x =>
    i < 16 ∧ x = (after.fire.detector i).state ∧ (before.fire.detector i).state ≠ (after.fire.detector i).state
  | .fireState x y =>
    (x = after.fire.status ∧ y = after.fire.causes) ∧
      (before.fire.status ≠ after.fire.status ∨ before.fire.causes ≠ after.fire.causes)
  | .coolingState x => x = after.thermal.cooling ∧ before.thermal.cooling ≠ after.thermal.cooling
  | .permitState x => x = after.conn.permit ∧ before.conn.permit ≠ after.conn.permit
  | .gridState g l v u =>
    (g = after.conn.gridPresent ∧ l = after.conn.linePresent ∧ v = after.conn.convNotice ∧
      u = after.conn.utilNotice) ∧
    (before.conn.linePresent ≠ after.conn.linePresent ∨ before.conn.convNotice ≠ after.conn.convNotice ∨
      before.conn.utilNotice ≠ after.conn.utilNotice)
  | .acPermission x => x = after.conn.acPermission ∧ before.conn.acPermission ≠ after.conn.acPermission
  | .envelopeFell x y =>
    (x = before.envelope.record.chargeFell after.config after.envelope.record ∧
      y = before.envelope.record.dischargeFell after.config after.envelope.record) ∧
    (before.envelope.record.chargeFell after.config after.envelope.record = true ∨
      before.envelope.record.dischargeFell after.config after.envelope.record = true)
  | _ => False

theorem broadcast_mem_reportedEvents {before after : State} (e : Event) :
    broadcast e ∈ reportedEvents before after ↔ e.ReportsDifference before after := by
  rw [mem_reportedEvents]
  simp only [mem_dataLossEvents, mem_hardLimitEvents, mem_detectorEvents, mem_fireEvents, mem_coolingEvents,
    mem_permitEvents, mem_gridEvents, mem_permissionEvents, mem_fellEvents, broadcast_inj]
  cases e with
  | detectorState i x =>
    simp only [Event.ReportsDifference, Event.detectorState.injEq, reduceCtorEq, false_and, false_or, or_false]
    constructor
    · rintro ⟨j, below, ⟨rfl, rfl⟩, changed⟩
      exact ⟨below, rfl, changed⟩
    · rintro ⟨below, rfl, changed⟩
      exact ⟨i, below, ⟨rfl, rfl⟩, changed⟩
  | _ => simp [Event.ReportsDifference]

/-- A list reports the changes between two states if the events that report a change are, in it, those of the states'
difference in some order. -/
theorem ChangesReported.of_perm {before after : State} {raised : List Raised}
    (perm : (raised.filter fun r => r.event.reportsChange).Perm (reportedEvents before after)) :
    ChangesReported before after raised := by
  have member : ∀ r : Raised, r.event.reportsChange = true → (r ∈ raised ↔ r ∈ reportedEvents before after) := by
    intro r report
    rw [← perm.mem_iff, List.mem_filter]
    exact (and_iff_left report).symm
  have told : ∀ e : Event, e.reportsChange = true →
      (broadcast e ∈ raised ↔ broadcast e ∈ reportedEvents before after) := fun e => member (broadcast e)
  constructor
  case ownerless => exact fun r raised report => reportedEvents_ownerless ((member r report).1 raised)
  case once => exact perm.nodup_iff.2 (reportedEvents_nodup before after)
  case envelopeFell =>
    intro x y
    rw [told _ rfl, broadcast_mem_reportedEvents, Event.ReportsDifference, ← limitFell_iff, ← limitFell_iff,
      ← Bool.eq_iff_iff, ← Bool.eq_iff_iff, and_assoc]
    refine and_congr_right fun charge => and_congr_right fun discharge => ?_
    rw [charge, discharge]
  case fireState =>
    intro x y
    rw [told _ rfl, broadcast_mem_reportedEvents, Event.ReportsDifference, and_assoc]
    refine and_congr_right fun hx => and_congr_right fun hy => ?_
    rw [hx, hy]
  case gridState =>
    intro g l v u
    rw [told _ rfl, broadcast_mem_reportedEvents, Event.ReportsDifference]
    constructor
    · rintro ⟨⟨rfl, rfl, rfl, rfl⟩, changed⟩
      exact ⟨rfl, rfl, rfl, rfl, changed⟩
    · rintro ⟨rfl, rfl, rfl, rfl, changed⟩
      exact ⟨⟨rfl, rfl, rfl, rfl⟩, changed⟩
  case dataLossEnd => exact (told _ rfl).trans (broadcast_mem_reportedEvents _)
  case detectorState =>
    intro i x
    rw [told _ rfl, broadcast_mem_reportedEvents, Event.ReportsDifference]
    refine and_congr_right fun _ => and_congr_right fun value => ?_
    rw [value]
  all_goals
    intro x
    rw [told _ rfl, broadcast_mem_reportedEvents, Event.ReportsDifference]
    refine and_congr_right fun value => ?_
    rw [value]

theorem State.settle_unpublished {b : State} {w : Publication} {x : Change}
    (due : State.settledPublication b w x = none) : (State.settle b w x).envelope = x.st.envelope := by
  rw [State.settle_envelope, due]

/-- The settling of an event raises the event's own events and, if its work raised none that report a change and did
not publish, those that report what it changed. -/
theorem State.settledEvents_eq {b : State} {w : Publication} {x : Change} (envelope : x.st.envelope = b.envelope) :
    State.settledEvents b w x = x.raised ++ reportedEvents b (State.settle b w x) := by
  rw [State.settledEvents,
    publicationEvents_eq_fell fun due => (State.settle_unpublished due).trans envelope, List.append_assoc]
  rfl

/-- Among the events of a settling, those that report a change are those of the difference it makes. -/
theorem State.settle_reports {b : State} {w : Publication} {x : Change}
    (own : ∀ r ∈ x.raised, r.event.reportsChange = false) (envelope : x.st.envelope = b.envelope) :
    ((orderRaised (State.settledEvents b w x)).filter fun r => r.event.reportsChange).Perm
      (reportedEvents b (State.settle b w x)) := by
  refine ((orderRaised_perm _).filter _).trans ?_
  have none : (x.raised.filter fun r => r.event.reportsChange) = [] :=
    List.filter_eq_nil_iff.2 fun r raised => Bool.eq_false_iff.1 (own r raised)
  have all : ((reportedEvents b (State.settle b w x)).filter fun r => r.event.reportsChange) =
      reportedEvents b (State.settle b w x) := List.filter_eq_self.2 fun r => reportedEvents_report
  rw [State.settledEvents_eq envelope, List.filter_append, none, all]
  exact .refl _

theorem State.settle_offers {b : State} {w : Publication} {x : Change} (envelope : x.st.envelope = b.envelope) :
    Offers x.raised (orderRaised (State.settledEvents b w x)) where
  all r raised := by
    rw [mem_orderRaised, State.settledEvents_eq envelope]
    exact List.mem_append_left _ raised
  only r offered := by
    rw [mem_orderRaised, State.settledEvents_eq envelope, List.mem_append] at offered
    exact offered.imp_right reportedEvents_report
  ordered := orderRaised_ordered _

end Sys2Proof.Machine
end

section
/-! No block's own work raises an event that reports a change: those come of the settling alone. -/

namespace Sys2Proof.Machine

/-! ### The connection controller -/

/-- A piece of the connection controller's work raises no event that reports a change. -/
def ConnChange.Plain (x : ConnChange) : Prop := ∀ e ∈ x.raised, e.reportsChange = false

theorem ConnChange.Plain.quiet (c : ConnectionControl) : (ConnChange.quiet c).Plain := by
  rintro e ⟨⟩

theorem ConnChange.Plain.toStateFor (c : ConnectionControl) (new : Connection) (reason : ConnectionReason) :
    (c.toStateFor new reason).Plain := by
  intro e raised
  rw [List.mem_singleton.1 raised]
  rfl

theorem ConnChange.Plain.andThen {x : ConnChange} {f : ConnectionControl → ConnChange} (first : x.Plain)
    (second : ∀ c, (f c).Plain) : (x.andThen f).Plain := by
  intro e raised
  obtain early | late := List.mem_append.1 raised
  · exact first e early
  · exact second x.conn e late

theorem ConnChange.Plain.ite {x y : ConnChange} {q : Prop} [Decidable q] (yes : x.Plain) (no : y.Plain) :
    (if q then x else y).Plain := by
  split
  · exact yes
  · exact no

theorem ConnectionControl.goOnOpening_plain (c : ConnectionControl) : c.goOnOpening.Plain := by
  unfold goOnOpening
  generalize c.passMains = d
  unfold passNeg
  split
  case h_1 => exact .ite (.toStateFor _ _ _) (.quiet _)
  all_goals exact .quiet _

theorem ConnectionControl.beginEmergency_plain (c : ConnectionControl) (cause : LockCause)
    (reason : ConnectionReason) : (c.beginEmergency cause reason).Plain := by
  refine ConnChange.Plain.andThen (fun e raised => ?_) goOnOpening_plain
  rw [List.mem_singleton.1 raised]
  rfl

theorem ConnectionControl.emergency_plain (c : ConnectionControl) (cause : LockCause) (reason : ConnectionReason) :
    (c.emergency cause reason).Plain := by
  unfold emergency
  split
  case h_1 | h_2 | h_3 | h_4 => exact c.beginEmergency_plain cause reason
  case h_5 | h_6 | h_7 | h_9 => exact .toStateFor _ _ _
  case h_8 | h_10 => exact .quiet _

theorem ConnectionControl.beginNormal_plain (c : ConnectionControl) (config : ConfigSet) (string : StringReadings)
    (reason : ConnectionReason) : (c.beginNormal config string reason).Plain := by
  have start : (ConnChange.mk { c.toState (.opening .normal .wait) with openWait := .running config.openWait }
      [.connectionState (.opening .normal .wait) reason]).Plain := by
    intro e raised
    rw [List.mem_singleton.1 raised]
    rfl
  exact .ite (start.andThen fun d => (d.beginMains .normal).goOnOpening_plain) start

theorem ConnectionControl.disconnect_plain (c : ConnectionControl) (config : ConfigSet) (string : StringReadings) :
    (c.disconnect config string).Plain := by
  have abort : c.beginAbort.Plain := (ConnChange.Plain.toStateFor _ _ _).andThen goOnOpening_plain
  unfold disconnect
  split
  case h_1 => exact c.beginNormal_plain config string _
  case h_2 | h_3 => exact abort
  case h_4 | h_5 | h_6 => exact .quiet c

theorem ConnectionControl.waitExpired_plain (c : ConnectionControl) (string : StringReadings) :
    (c.waitExpired string).Plain := by
  refine ConnChange.Plain.andThen (fun e raised => ?_) fun d => (d.beginMains .normal).goOnOpening_plain
  rw [List.mem_singleton.1 raised]
  rfl

theorem ConnectionControl.feedback_plain (c : ConnectionControl) (config : ConfigSet) (k : Contactor) (v : Switch) :
    (c.feedback config k v).Plain := by
  unfold feedback
  generalize ({ c with contactors := _ } : ConnectionControl) = d
  unfold followFeedback
  split
  case h_1 => exact .ite (.quiet _) (.quiet _)
  case h_3 => exact .ite (.toStateFor _ _ _) (.quiet _)
  case h_4 => exact d.goOnOpening_plain
  case h_2 | h_5 | h_6 | h_7 => exact .quiet _

theorem ConnectionControl.prechargeFailed_plain (c : ConnectionControl) : c.prechargeFailed.Plain := by
  refine ConnChange.Plain.andThen (fun e raised => ?_) fun d => .toStateFor _ _ _
  rw [List.mem_singleton.1 raised]
  rfl

theorem ConnectionControl.contactorFault_plain (c : ConnectionControl) (k : Contactor) :
    (c.contactorFault k).Plain := by
  refine ConnChange.Plain.andThen (fun e raised => ?_) fun d => ?_
  · rw [List.mem_singleton.1 raised]
    rfl
  · unfold lockContactor
    split
    case h_1 => exact .quiet _
    case h_2 | h_3 | h_4 | h_5 | h_6 => exact .toStateFor _ _ _

theorem State.sweepConn_plain (s : State) : s.sweepConn.Plain := by
  refine .ite (s.conn.emergency_plain _ _) ?_
  split
  case h_1 => exact .ite (.toStateFor _ _ _) (.quiet _)
  case h_2 => exact .ite (s.conn.beginMains .normal).goOnOpening_plain (.quiet _)
  all_goals exact .quiet _

/-! ### The other blocks -/

/-- Events none of which reports a change. -/
def PlainEvents (rs : List Raised) : Prop := ∀ r ∈ rs, r.event.reportsChange = false

theorem PlainEvents.nil : PlainEvents [] := by
  rintro r ⟨⟩

theorem PlainEvents.one {r : Raised} (plain : r.event.reportsChange = false) : PlainEvents [r] := by
  intro x raised
  rwa [List.mem_singleton.1 raised]

theorem PlainEvents.append {l l' : List Raised} (first : PlainEvents l) (second : PlainEvents l') :
    PlainEvents (l ++ l') := by
  intro r raised
  obtain early | late := List.mem_append.1 raised
  · exact first r early
  · exact second r late

theorem PlainEvents.flatMap {α : Type} {l : List α} {f : α → List Raised} (each : ∀ a, PlainEvents (f a)) :
    PlainEvents (l.flatMap f) := by
  intro r raised
  obtain ⟨a, -, inner⟩ := List.mem_flatMap.1 raised
  exact each a r inner

theorem PlainEvents.ite {l l' : List Raised} {q : Prop} [Decidable q] (yes : PlainEvents l) (no : PlainEvents l') :
    PlainEvents (if q then l else l') := by
  split
  · exact yes
  · exact no

theorem ConnChange.Plain.broadcast {x : ConnChange} (plain : x.Plain) : PlainEvents (x.raised.map broadcast) := by
  intro r raised
  obtain ⟨e, inner, rfl⟩ := List.mem_map.1 raised
  exact plain e inner

theorem displacedEvents_plain (slots : List (Option Claim)) (e : Entry) (h : Nat) :
    PlainEvents (displacedEvents slots e h) := by
  unfold displacedEvents
  cases e.owner with
  | port p => exact .one rfl
  | slot k =>
    dsimp only
    cases slots.getD k none with
    | none => exact .nil
    | some c => exact .one rfl

theorem State.afterPush_plain (s : State) (st : StackState) (h : Nat) (displaced : Option Entry) :
    PlainEvents (s.afterPush st h displaced).raised := by
  cases displaced with
  | none => exact .nil
  | some e => exact displacedEvents_plain s.slots e h

theorem expiredEvents_plain (slots : List (Option Claim)) (e : Entry) : PlainEvents (expiredEvents slots e) := by
  unfold expiredEvents
  cases ownerPort slots e.owner with
  | none => exact .nil
  | some p => exact .one rfl

theorem retryEvents_plain (tachs : Tachs TachRecord) : PlainEvents (retryEvents tachs) :=
  .flatMap fun _ => .ite (.one rfl) .nil

theorem judgeEvents_plain (ch : TachChannel) (old new : CheckState) : PlainEvents (judgeEvents ch old new) :=
  .ite .nil (.ite .nil (.one rfl))

theorem MonitorRecord.events_plain (r : MonitorRecord) (address : Nat) (entry : Option BufferEntry) :
    PlainEvents (r.events address entry) := by
  unfold MonitorRecord.events
  split
  case h_1 => exact .ite (.one rfl) .nil
  case h_2 => exact .ite (.ite (.one rfl) .nil) (.ite (.one rfl) .nil)
  case h_3 => exact .nil

theorem updateEvents_plain (records : List MonitorRecord) (count : Nat) (buffer : List (Option BufferEntry)) :
    PlainEvents (updateEvents records count buffer) :=
  .flatMap fun a => .ite ((recordAt records a).events_plain a _) .nil

theorem State.notifyEvents_plain (s : State) (k : Nat) : PlainEvents (s.notifyEvents k) := by
  unfold State.notifyEvents
  split
  case h_1 => exact .nil
  case h_2 c _ =>
    refine .ite .nil ?_
    dsimp only
    split
    case h_1 => exact .nil
    case h_2 => exact .ite (.one rfl) .nil
    case h_3 => exact .ite (.one rfl) (.ite (.one rfl) .nil)

theorem State.pushSlot_plain (s : State) (k : Nat) : PlainEvents (s.pushSlot k).raised := by
  unfold State.pushSlot
  split
  case h_1 => exact .nil
  case h_2 c _ =>
    dsimp only
    split
    case h_1 st h displaced _ => exact s.afterPush_plain st h displaced
    case h_2 => exact .ite .nil (.one rfl)

theorem State.pushSlots_plain (s : State) (ks : List Nat) : PlainEvents (s.pushSlots ks).raised := by
  induction ks generalizing s with
  | nil => exact .nil
  | cons k rest ih => exact (s.pushSlot_plain k).append (ih _)

theorem State.evaluateWatch_plain (s : State) : PlainEvents s.evaluateWatch.raised :=
  (State.pushSlots_plain _ _).append (.flatMap s.notifyEvents_plain)

theorem State.completion_plain (s : State) : PlainEvents s.completion.raised :=
  ((updateEvents_plain _ _ _).append (State.evaluateWatch_plain _)).append (State.sweepConn_plain _).broadcast

theorem State.lapse_plain (s : State) : PlainEvents s.lapse.raised := by
  unfold State.lapse
  split
  case h_1 st h displaced _ => exact s.afterPush_plain st h displaced
  case h_2 => exact .nil

theorem State.openForFire_plain (s : State) (before : FireStatus) : PlainEvents (s.openForFire before).raised := by
  unfold State.openForFire
  split
  · exact (s.conn.emergency_plain _ _).broadcast
  · exact .nil

theorem State.leaveConfigured_plain (s : State) (item : Nat) : PlainEvents (s.leaveConfigured item).raised := by
  unfold State.leaveConfigured
  split
  · exact .one rfl
  · exact .nil

/-- The events of a block's own work report no change. -/
theorem EventWork.plain {c : Instr} {b : State} {w : Publication} {x : Change} (work : EventWork c b w x) :
    PlainEvents x.raised := by
  cases work with
  | push => exact b.afterPush_plain _ _ _
  | expiry => exact expiredEvents_plain _ _
  | connect => exact ConnChange.Plain.broadcast (x := b.conn.connect) (.toStateFor _ _ _)
  | unlock => exact ConnChange.Plain.broadcast (x := b.conn.unlock) (.toStateFor _ _ _)
  | disconnect => exact (b.conn.disconnect_plain _ _).broadcast
  | coolingRetry => exact retryEvents_plain _
  | releaseNow | countdown | configAccept => exact .one rfl
  | configWrite => exact (b.leaveConfigured_plain _).append .nil
  | sweep => exact State.completion_plain _
  | windowEnd => exact .flatMap fun ch => judgeEvents_plain ch _ _
  | sampling => exact State.openForFire_plain _ _
  | feedback => exact (b.conn.feedback_plain _ _ _).broadcast
  | disagreement => exact (b.conn.contactorFault_plain _).broadcast
  | precharge => exact b.conn.prechargeFailed_plain.broadcast
  | openWait => exact (b.conn.waitExpired_plain _).broadcast
  | dataLossOpen => exact (b.conn.beginNormal_plain _ _ _).broadcast
  | lapse => exact b.lapse_plain
  | _ => exact .nil

end Sys2Proof.Machine
end

section
/-! What a whole command offers to the event queues, and the reported state it changes (R34, R36, R61, R110, R124, R137,
R156, R158, R161, R172, R178). -/

namespace Sys2Proof.Machine

/-! ### The event queue of a port -/

/-- The event queue of a port, its overflow mark and its mask. -/
def PortState.queue (q : PortState) : List EventRecord × Bool × BitVec 8 := (q.events, q.overflow, q.mask)

theorem PortState.queue_eq_iff {q q' : PortState} :
    q.queue = q'.queue ↔ q.events = q'.events ∧ q.overflow = q'.overflow ∧ q.mask = q'.mask := by
  simp [PortState.queue]

/-- A delivery looks at the event queue alone. -/
theorem PortState.deliver_queue {q q' : PortState} (same : q.queue = q'.queue) (p : Port) (u : BitVec 32) (n : Serial)
    (rs : List Raised) : (q.deliver p u n rs).queue = (q'.deliver p u n rs).queue := by
  unfold PortState.deliver
  induction rs generalizing q q' with
  | nil => exact same
  | cons r rest ih =>
    rw [List.foldl_cons, List.foldl_cons]
    refine ih ?_
    obtain ⟨events, overflow, mask⟩ := PortState.queue_eq_iff.1 same
    unfold PortState.offer
    rw [events, overflow, mask]
    split_ifs <;> simp_all [PortState.queue]

@[simp] theorem PortState.queue_place (q : PortState) (frame : List Byte) : (q.place frame).queue = q.queue := by
  unfold PortState.place
  cases q.sending <;> rfl

@[simp] theorem PortState.queue_taken (q : PortState) : q.taken.queue = q.queue := rfl

theorem PortState.queue_placeOrDiscard (q : PortState) (frame : List Byte) :
    (q.placeOrDiscard frame).queue = q.queue := by
  unfold PortState.placeOrDiscard
  split
  · exact q.queue_place frame
  · rfl

theorem PortState.queue_failFrame (q : PortState) : q.failFrame.queue = q.queue :=
  PortState.queue_placeOrDiscard _ _

theorem PortState.queue_extend (q : PortState) (frame : List Byte) : (q.extend frame).queue = q.queue := by
  unfold PortState.extend PortState.complete PortState.accept
  dsimp only
  split_ifs
  · exact q.queue_failFrame
  · rfl
  · rfl
  · exact PortState.queue_placeOrDiscard _ _
  · exact q.queue_failFrame

theorem PortState.queue_receive (q : PortState) (c : RxChar) : (q.receive c).queue = q.queue := by
  unfold PortState.receive PortState.receiveSound PortState.receiveBroken
  dsimp only
  split
  · split
    · rfl
    · split <;> rfl
    · split
      · exact PortState.queue_failFrame _
      · exact PortState.queue_extend _ _
  · rfl

/-- The work of a port's lines leaves its event queue. -/
theorem LineWork.queue {c : Instr} {p : Port} {q q' : PortState} (work : LineWork c p q q') : q'.queue = q.queue := by
  cases work with
  | @receive _ _ chars =>
    induction chars generalizing q with
    | nil => rfl
    | cons first rest ih => exact ih.trans (q.queue_receive first)
  | gap =>
    unfold PortState.gap
    split
    · split
      · rfl
      · exact q.queue_failFrame
    all_goals rfl
  | resume =>
    unfold PortState.resumeHunt
    split
    · rfl
    · rfl
    · split
      · exact q.queue_failFrame
      · rfl
  | sent =>
    unfold PortState.sent
    split <;> rfl
  | toMark =>
    unfold PortState.lineToMark
    dsimp only
    split
    · split
      · exact PortState.queue_failFrame _
      · rfl
    all_goals rfl

/-- The requests that act on a port's own event queue (R175). -/
def OwnQueue (c : Instr) : Prop := ∃ p, c = .eventRead p ∨ c = .eventMask p ∨ c = .eventClearOverflow p

/-- No other request that its port answers alone acts on the event queue. -/
theorem PortEdit.queue {c : Instr} {p : Port} {q q' : PortState} (edit : PortEdit c p q q') (other : ¬ OwnQueue c) :
    q'.queue = q.queue := by
  cases edit with
  | keep | cursor | readOn | attention => rfl
  | eventsRead => exact absurd ⟨p, .inl rfl⟩ other
  | mask => exact absurd ⟨p, .inr (.inl rfl)⟩ other
  | clearOverflow => exact absurd ⟨p, .inr (.inr rfl)⟩ other

theorem Began.queue {s b : State} (began : Began s b) (p : Port) : (b.ports.get p).queue = (s.ports.get p).queue := by
  cases began with
  | now | later | line | lineLater => rfl
  | taken o =>
    rw [State.setPort_ports, Ports.get_set]
    split
    · rename_i same
      rw [same]
      rfl
    · rfl

/-! ### The reported state -/

/-- Two states agree on all that the events that report a change report. -/
structure SameReported (s u : State) : Prop where
  dataLoss : u.table.dataLoss = s.table.dataLoss
  hardLimits : u.table.hardLimits = s.table.hardLimits
  detectors : ∀ i, (u.fire.detector i).state = (s.fire.detector i).state
  status : u.fire.status = s.fire.status
  causes : u.fire.causes = s.fire.causes
  cooling : u.thermal.cooling = s.thermal.cooling
  permit : u.conn.permit = s.conn.permit
  line : u.conn.linePresent = s.conn.linePresent
  conv : u.conn.convNotice = s.conn.convNotice
  util : u.conn.utilNotice = s.conn.utilNotice
  permission : u.conn.acPermission = s.conn.acPermission
  envelope : u.envelope = s.envelope
  config : u.config = s.config

theorem SameReported.of_agrees {s u : State} (agrees : Agrees s u) : SameReported s u := by
  constructor <;> simp only [agrees.table, agrees.fire, agrees.thermal, agrees.conn, agrees.envelope, agrees.config,
    implies_true]

theorem Began.sameReported {s b : State} (began : Began s b) : SameReported s b := by
  obtain ⟨dt, chain, ports, -, rfl⟩ := began.advanced
  exact
    { dataLoss := rfl, hardLimits := rfl,
      detectors := fun i => by
        change ((s.fire.pass dt).detector i).state = _
        rw [FireControl.detector_pass]
        rfl
      status := rfl, causes := rfl, cooling := rfl, permit := rfl, line := rfl, conv := rfl, util := rfl,
      permission := rfl, envelope := rfl, config := rfl }

theorem SameReported.trans {s t u : State} (first : SameReported s t) (second : SameReported t u) :
    SameReported s u where
  dataLoss := second.dataLoss.trans first.dataLoss
  hardLimits := second.hardLimits.trans first.hardLimits
  detectors i := (second.detectors i).trans (first.detectors i)
  status := second.status.trans first.status
  causes := second.causes.trans first.causes
  cooling := second.cooling.trans first.cooling
  permit := second.permit.trans first.permit
  line := second.line.trans first.line
  conv := second.conv.trans first.conv
  util := second.util.trans first.util
  permission := second.permission.trans first.permission
  envelope := second.envelope.trans first.envelope
  config := second.config.trans first.config

theorem SilentWork.sameReported {c : Instr} {b u : State} (work : SilentWork c b u) : SameReported b u := by
  cases work <;> exact ⟨rfl, rfl, fun _ => rfl, rfl, rfl, rfl, rfl, rfl, rfl, rfl, rfl, rfl, rfl⟩

/-- The events that report a difference depend on the reported state alone. -/
theorem reportedEvents_congr {s b t u : State} (before : SameReported s b) (after : SameReported t u) :
    reportedEvents s t = reportedEvents b u := by
  simp only [reportedEvents, differenceEvents, dataLossEvents, hardLimitEvents, detectorEvents, fireEvents,
    coolingEvents, permitEvents, gridEvents, permissionEvents, fellEvents, ConnectionControl.gridPresent,
    before.dataLoss, before.hardLimits, before.detectors, before.status, before.causes, before.cooling, before.permit,
    before.line, before.conv, before.util, before.permission, before.envelope, after.dataLoss, after.hardLimits,
    after.detectors, after.status, after.causes, after.cooling, after.permit, after.line, after.conv, after.util,
    after.permission, after.envelope, after.config]

theorem reportedEvents_self (s : State) : reportedEvents s s = [] := by
  refine List.eq_nil_iff_forall_not_mem.2 fun r member => ?_
  rw [mem_reportedEvents] at member
  simp only [mem_dataLossEvents, mem_hardLimitEvents, mem_detectorEvents, mem_fireEvents, mem_coolingEvents,
    mem_permitEvents, mem_gridEvents, mem_permissionEvents, mem_fellEvents, EnvelopeRecord.chargeFell,
    EnvelopeRecord.dischargeFell, limitFell_self] at member
  simp at member

theorem SameReported.nothing {s t : State} (same : SameReported s t) : ChangesReported s t [] := by
  refine .of_perm ?_
  rw [← reportedEvents_congr (SameReported.of_agrees (.refl s)) same, reportedEvents_self]
  exact .refl _

/-! ### Whole commands -/

/-- What a command offers to the ports, from the event queues as it finds them: events in the order of R172, among them
those that report what it changes. -/
structure Tells (s t : State) (found : Port → PortState) (raised : List Raised) : Prop where
  ordered : raised.Pairwise OfferedInOrder
  changes : ChangesReported s t raised
  queue : ∀ p, (t.ports.get p).queue = ((found p).deliver p t.uptime t.table.sweepNumber raised).queue

/-- A command that leaves the reported state and the event queues offers nothing. -/
theorem Tells.nothing {s t : State} {found : Port → PortState} (same : SameReported s t)
    (queue : ∀ p, (t.ports.get p).queue = (found p).queue) : Tells s t found [] :=
  ⟨.nil, same.nothing, queue⟩

/-- An event offers what its settling delivers, to the queues as its work leaves them. -/
theorem EventWork.tells {c : Instr} {s b : State} {w : Publication} {x : Change} (began : SameReported s b)
    (work : EventWork c b w x) :
    Tells s (State.settle b w x) x.st.ports.get (orderRaised (State.settledEvents b w x)) where
  ordered := orderRaised_ordered _
  changes := by
    refine .of_perm ?_
    rw [reportedEvents_congr began (SameReported.of_agrees (.refl _))]
    exact State.settle_reports work.plain work.envelope
  queue p := congrArg PortState.queue (State.settle_port b w x p)

/-- A response placed after an event leaves what the event offered. -/
theorem Tells.respond {s t : State} {found : Port → PortState} {raised : List Raised} (tells : Tells s t found raised)
    (p : Port) (kind : Byte) (o : Reply) (body : List Byte) : Tells s (t.respond p kind o body) found raised where
  ordered := tells.ordered
  changes :=
    { dataLossBegin := tells.changes.dataLossBegin, dataLossEnd := tells.changes.dataLossEnd,
      hardLimit := tells.changes.hardLimit, detectorState := tells.changes.detectorState,
      fireState := tells.changes.fireState, coolingState := tells.changes.coolingState,
      permitState := tells.changes.permitState, gridState := tells.changes.gridState,
      acPermission := tells.changes.acPermission, envelopeFell := tells.changes.envelopeFell,
      ownerless := tells.changes.ownerless, once := tells.changes.once }
  queue o := by
    rw [State.respond_ports, Ports.get_set]
    split
    · rename_i same
      subst same
      rw [PortState.queue_place]
      exact tells.queue p
    · exact tells.queue o

theorem Tells.found {s t : State} {found found' : Port → PortState} {raised : List Raised}
    (tells : Tells s t found raised) (same : ∀ p, (found p).queue = (found' p).queue) : Tells s t found' raised :=
  ⟨tells.ordered, tells.changes, fun p => (tells.queue p).trans (PortState.deliver_queue (same p) p _ _ _)⟩

/-- Only a port reset acts on an event queue but by offering (R178). -/
theorem EventWork.queue {c : Instr} {b : State} {w : Publication} {x : Change} (work : EventWork c b w x)
    (noReset : ∀ p, c ≠ .portReset p) : x.st.ports = b.ports :=
  work.ports.resolve_right fun ⟨p, reset, _⟩ => noReset p reset

theorem OwnQueue.no_event {c : Instr} (own : OwnQueue c) {b : State} {w : Publication} {x : Change} :
    ¬ EventWork c b w x := by
  intro work
  obtain ⟨p, rfl | rfl | rfl⟩ := own
  all_goals
    cases work with
    | sweep reply => exact reply

/-- Every command but the resets and the requests that act on a port's own event queue. -/
theorem Leaves.tells {c : Instr} {s t : State} (leaves : Leaves c s t) (noReset : ∀ p, c ≠ .portReset p)
    (other : ¬ OwnQueue c) : ∃ raised, Tells s t s.ports.get raised := by
  cases leaves with
  | asIs => exact ⟨[], .nothing (.of_agrees (.refl s)) fun p => rfl⟩
  | line work =>
    refine ⟨[], .nothing (.of_agrees (.setPort s _ _)) fun p => ?_⟩
    rw [State.setPort_ports, Ports.get_set]
    split
    · rename_i same
      subst same
      exact work.queue
    · rfl
  | answered n none edit =>
    refine ⟨[], .nothing (.of_agrees (.answered s n _ _)) fun p => ?_⟩
    rw [State.setPort_ports, Ports.get_set]
    split
    · rename_i same
      subst same
      rw [PortState.queue_place]
      exact edit.queue other
    · rfl
  | silent began work =>
    refine ⟨[], .nothing (began.sameReported.trans work.sameReported) fun p => ?_⟩
    rw [work.ports]
    exact began.queue p
  | event began work =>
    refine ⟨_, (work.tells began.sameReported).found fun p => ?_⟩
    rw [work.queue noReset]
    exact began.queue p
  | requested none work =>
    rename_i o _ _ _ _ _
    refine ⟨_, ((work.tells (Began.taken o).sameReported).found fun p => ?_).respond _ _ _ _⟩
    rw [work.queue noReset]
    exact (Began.taken o).queue p

theorem OwnQueue.no_silent {c : Instr} (own : OwnQueue c) {b u : State} : ¬ SilentWork c b u := by
  intro work
  obtain ⟨p, rfl | rfl | rfl⟩ := own
  all_goals
    cases work with
    | chain work =>
      cases work with
      | retry reply | endAbort reply | next reply => exact reply

/-- The requests that act on a port's own event queue change none of the reported state (R175). -/
theorem Leaves.sameReported {c : Instr} {s t : State} (leaves : Leaves c s t) (own : OwnQueue c) :
    SameReported s t := by
  cases leaves with
  | asIs => exact .of_agrees (.refl s)
  | line => exact .of_agrees (.setPort s _ _)
  | answered n => exact .of_agrees (.answered s n _ _)
  | silent began work => exact absurd work own.no_silent
  | event began work => exact absurd work own.no_event
  | requested none work => exact absurd work own.no_event

/-- The event queues as a command finds them: a port reset that is taken empties its port's (R178). -/
def State.foundQueue (c : Instr) (s : State) (p : Port) : PortState :=
  if c = .portReset p ∧ s.resetHeld = false ∧ (s.ports.get p).lineDetector ≠ .waitingForMark then
    { s.ports.get p with events := [], overflow := false, mask := 255 }
  else s.ports.get p

theorem State.portReset_ports (s : State) (p : Port) :
    (s.portReset p).ports = s.ports.set p (s.ports.get p).portReset := by
  unfold State.portReset
  dsimp only
  split <;> rfl

theorem exec_portReset_untaken {s : State} {p : Port}
    (untaken : ¬ (s.resetHeld = false ∧ (s.ports.get p).lineDetector ≠ .waitingForMark)) :
    exec (.portReset p) s = .next s := by
  cases running : s.resetHeld with
  | true => exact exec_of_resetHeld running nofun nofun
  | false =>
    have waits : (s.ports.get p).lineDetector = .waitingForMark := by
      by_contra mark
      exact untaken ⟨running, mark⟩
    change Host.Outcome.next (s.running _) = _
    rw [State.running_of s running, if_pos waits]

theorem portReset_tells {p : Port} {s t : State} (executed : exec (.portReset p) s = .next t) :
    ∃ raised, Tells s t (s.foundQueue (.portReset p)) raised := by
  by_cases taken : s.resetHeld = false ∧ (s.ports.get p).lineDetector ≠ .waitingForMark
  · obtain ⟨running, mark⟩ := taken
    obtain rfl := Host.Outcome.next.inj ((exec_portReset_taken running mark).symm.trans executed)
    refine ⟨_, ((EventWork.portReset mark).tells (.of_agrees (.refl s))).found fun o => ?_⟩
    change ((s.portReset p).ports.get o).queue = _
    rw [State.portReset_ports, Ports.get_set, State.foundQueue]
    by_cases same : p = o
    · subst same
      rw [if_pos rfl, if_pos ⟨rfl, running, mark⟩]
      rfl
    · rw [if_neg same, if_neg fun reset => same (Instr.portReset.inj reset.1)]
  · have found : ∀ o, s.foundQueue (.portReset p) o = s.ports.get o := by
      intro o
      refine if_neg fun reset => taken ?_
      obtain ⟨same, reset⟩ := reset
      obtain rfl := Instr.portReset.inj same
      exact reset
    obtain rfl := Host.Outcome.next.inj ((exec_portReset_untaken taken).symm.trans executed)
    exact ⟨[], .nothing (.of_agrees (.refl s)) fun o => by rw [found]⟩

/-- Settles O16: the events of a settling that report a change are those of the difference it makes, and a whole command
offers those of the event it is, if it is one. -/
theorem changesAreReported : Obligations.ChangesAreReported := by
  refine ⟨fun b w x own envelope => ⟨_, State.settle_offers envelope, State.settle_port b w x,
    .of_perm (State.settle_reports own envelope)⟩, fun c s t notReset notEnd executed => ?commands⟩
  case commands =>
    intro ownQueue found
    have leaves := exec_leaves notReset notEnd executed
    by_cases own : OwnQueue c
    · exact ⟨[], .nil, (leaves.sameReported own).nothing, fun _ => rfl, fun other => absurd own other⟩
    · have tells : ∃ raised, Tells s t (s.foundQueue c) raised := by
        by_cases reset : ∃ p, c = .portReset p
        · obtain ⟨p, rfl⟩ := reset
          exact portReset_tells executed
        · have noReset : ∀ p, c ≠ .portReset p := fun p same => reset ⟨p, same⟩
          obtain ⟨raised, tells⟩ := leaves.tells noReset own
          exact ⟨raised, tells.found fun p => congrArg PortState.queue (if_neg fun taken => noReset p taken.1).symm⟩
      obtain ⟨raised, tells⟩ := tells
      exact ⟨raised, tells.ordered, tells.changes, fun only => absurd only own,
        fun _ p => PortState.queue_eq_iff.1 (tells.queue p)⟩

end Sys2Proof.Machine
end
